-- ==== Sys2Proof/Word.lean ====
section
/-! DEFINITION. The number types of the HCF-416: what the manual treats as bits is a bit vector, every index with a
fixed bound is a `Fin`, and every quantity the part adds up exactly is a `Nat` or an `Int`. -/

namespace Sys2Proof

/-- One byte of the control link (R186). -/
abbrev Byte := BitVec 8

/-- A duration field: tick code in the top two bits, count in the low fourteen (R166). -/
abbrev Duration := BitVec 16

/-- A board pin, 0 to 255. -/
abbrev Pin := BitVec 8

/-- A test site, 0 to 3 (R1). -/
abbrev SiteId := Fin 4

/-- An instrument port, 0 to 11; port 0 is the on-chip meter (R29). -/
abbrev PortId := Fin 12

/-- A lane of the matrix, 0 to 15 (R45). -/
abbrev LaneId := Fin 16

/-- A site's local number for one of its routes, 0 to 7 (R1). -/
abbrev Handle := Fin 8

/-- A relay of a lane: 0 to 255 the pin relays, 256 + q the port relay of port q (R148). -/
abbrev Relay := Fin 268

/-- A meter range, 0 to 5 (R94). -/
abbrev Range := Fin 6

/-- A store item in the numbering of the STORE_FAULT notice: 0 to 15 the lane records, 16 CONFIG, 17 CAL, 18 REACH,
19 HEALTH (R198). -/
abbrev ItemId := Fin 20

end Sys2Proof
end

