-- ==== Sys2Proof/Syntax.lean ====
section
/-! DEFINITION. The commands of the HCF-416: the request frames of the control link with their payload fields
(R196, R197), and one constructor of `Instr` for each row of spec/opcode_table.json. -/

namespace Sys2Proof

/-- A limit triple as the link carries it: lo and hi signed, gb its low 31 bits (R197). -/
structure Limits where
  lo : BitVec 32
  hi : BitVec 32
  gb : BitVec 31
  deriving DecidableEq, Repr

/-- One point of a SCAN: a pin and its own limits, if any (R118). -/
structure ScanPoint where
  pin : Pin
  own : Option Limits
  deriving DecidableEq, Repr

/-- The verdicts on which a MEASURE or SCAN stops its site (R117). -/
structure StopSet where
  low : Bool
  high : Bool
  marginal : Bool
  overrange : Bool
  deriving DecidableEq, Repr

/-- The fields a MEASURE and a SCAN have in common, as the frame carries them (R117, R118, R197). -/
structure MeterReq where
  handle : Byte
  range : Byte
  aperture : Byte
  autorange : Bool
  raw : Bool
  stop : StopSet
  limits : Option Limits
  deriving DecidableEq, Repr

/-- A STEP payload (R197). -/
inductive StepReq where
  | connect (handle port : Byte) (settle claimTimeout : Duration) (pins : List Pin)
  | arm (handle : Byte)
  | disarm (handle : Byte)
  | release (handle : Byte)
  | measure (m : MeterReq)
  | scan (m : MeterReq) (settle : Duration) (points : List ScanPoint)
  | trigger (handle : Byte) (doneTimeout : Duration)
  | wait (duration : Duration)
  | flush
  deriving DecidableEq, Repr

/-- A request and its payload fields (R196). -/
inductive Request where
  | status
  | step (r : StepReq)
  | hold
  | resume
  | abort
  | clear (force : Bool)
  | reachGet
  | reachSet (first last : Pin) (empty hv retain : Bool)
  | reachFreeze
  | portGet (port : Byte)
  | portSet (port kind : Byte) (hv : Bool) (style : Byte) (width : BitVec 16)
  | routeGet
  | calGet (range : Byte)
  | calSet (range : Byte) (z g : BitVec 16)
  | configGet (start count : Byte)
  | configSet (pairs : List (Byte × BitVec 32))
  | health
  | countGet (lane : Byte) (first : BitVec 16) (number : Byte)
  | laneRenew (lane : Byte)
  | save
  | reset (mode : Byte)
  | time (acknowledge : Bool)
  deriving DecidableEq, Repr

/-- The kinds of request frame (R196). -/
inductive RequestKind where
  | status | step | hold | resume | abort | clear | reachGet | reachSet | reachFreeze | portGet | portSet | routeGet
  | calGet | calSet | configGet | configSet | health | countGet | laneRenew | save | reset | time
  deriving DecidableEq, Repr

/-- The kinds of step (R197). -/
inductive StepKind where
  | connect | arm | disarm | release | measure | scan | trigger | wait | flush
  deriving DecidableEq, Repr

/-- A request frame between START and CRC; LEN is 3 + the payload's length (R186). -/
structure Frame where
  kind : Byte
  tag : Byte
  site : Byte
  payload : List Byte
  deriving DecidableEq, Repr

/-- What a write that was cut off leaves in the store: the earlier content, the new content, or a mixture that fails
its check (R178). -/
inductive CutOff where
  | earlier
  | new
  | mixture
  deriving DecidableEq, Repr

/-- The commands, one constructor per row of spec/opcode_table.json. A request's `tag` and `site` are its frame's TAG
and SITE. An event of the rack, the supply, the transmitter, a timer or the store carries what that event brings. -/
inductive Instr where
  | powerOn
  | resetPin (cut : CutOff)
  | startup
  | frameReceived (frame : Frame) (crc : BitVec 16)
  | rxGapTimeout
  | frameDispatch
  | status (tag site : Byte)
  | stepConnect (tag site handle port : Byte) (settle claimTimeout : Duration) (pins : List Pin)
  | stepArm (tag site handle : Byte)
  | stepDisarm (tag site handle : Byte)
  | stepRelease (tag site handle : Byte)
  | stepMeasure (tag site : Byte) (m : MeterReq)
  | stepScan (tag site : Byte) (m : MeterReq) (settle : Duration) (points : List ScanPoint)
  | stepTrigger (tag site handle : Byte) (doneTimeout : Duration)
  | stepWait (tag site : Byte) (duration : Duration)
  | stepFlush (tag site : Byte)
  | hold (tag site : Byte)
  | resume (tag site : Byte)
  | abort (tag site : Byte)
  | clear (tag site : Byte)
  | clearForce (tag site : Byte)
  | reachGet (tag site : Byte)
  | reachSet (tag site : Byte) (first last : Pin) (empty hv retain : Bool)
  | reachFreeze (tag site : Byte)
  | portGet (tag site port : Byte)
  | portSet (tag site port kind : Byte) (hv : Bool) (style : Byte) (width : BitVec 16)
  | routeGet (tag site : Byte)
  | calGet (tag site range : Byte)
  | calSet (tag site range : Byte) (z g : BitVec 16)
  | configGet (tag site start count : Byte)
  | configSet (tag site : Byte) (pairs : List (Byte × BitVec 32))
  | health (tag site : Byte)
  | countGet (tag site lane : Byte) (first : BitVec 16) (number : Byte)
  | laneRenew (tag site lane : Byte)
  | save (tag site : Byte)
  | resetRun (tag site : Byte)
  | resetFull (tag site : Byte)
  | time (tag site : Byte) (acknowledge : Bool)
  | rtsRise
  | rtsFall
  | txFrameEnd
  | claimTimerExpiry (site : SiteId)
  | loadDone (lane : LaneId) (readback : List Relay)
  | operateWaitExpiry (lane : LaneId)
  | settleWaitExpiry (lane : LaneId)
  | releaseWaitExpiry (lane : LaneId)
  | liveRise (lane : LaneId)
  | liveFall (lane : LaneId)
  | dischargeTimerExpiry (lane : LaneId)
  | overRise (lane : LaneId)
  | overFall (lane : LaneId)
  | ocPersistExpiry (lane : LaneId)
  | doneLineAssert (port : PortId)
  | doneLineDeassert (port : PortId)
  | doneTimerExpiry (port : PortId)
  | pulseTimerExpiry (port : PortId)
  | sampleTimerExpiry (sample : BitVec 18)
  | rangeSwitchExpiry
  | waitTimerExpiry (site : SiteId)
  | silenceExpiry
  | referenceLost
  | referenceEdge
  | qualificationEnd
  | storeWriteDone (verified : Bool)
  | byteReceived (byte : Byte)
  | powerLoss (cut : CutOff)
  deriving DecidableEq, Repr

end Sys2Proof
end

