-- ==== Sys2Proof/Decode.lean ====
section
/-! DEFINITION. The rows of spec/opcode_table.json have no bits: a command of this block is spelled by no word, and
`decodeTableWord` answers none. The bytes of request frames are read in Sys2Proof/Machine/Operands.lean (R196, R197). -/

namespace Sys2Proof

/-- The command a word of the table's bits spells: none, since no row of the table has bits. -/
def decodeTableWord (_nbits _w : Nat) : Option Instr := none

end Sys2Proof
end

