-- ==== Sys2Proof/Config.lean ====
section
/-! DEFINITION. The constants the manual fixes for every part, and the values it leaves open (opaque: nothing can be
proved about them). -/

namespace Sys2Proof.Config

/-- A byte of a reply whose field does not apply and whose value no rule states (log entry 7). The argument is the
number of free values drawn before it. DESIGN CHOICE, safe: a free value. -/
opaque freeByte : Nat → Byte

/-- The converter's output at a sample event that the passing of time brings (log entry 8); R99 gives its range only.
DESIGN CHOICE, safe: a free value. -/
opaque converterSample : Nat → BitVec 18

/-- Steps a site's queue holds, the running step included (R4). -/
def queueDepth : Nat := 32

/-- Receive slots of LINK (R188). -/
def receiveSlots : Nat := 4

/-- Reply places of LINK (R190). -/
def replyPlaces : Nat := 32

/-- Entries of the completion queue (R192). -/
def completionDepth : Nat := 16

/-- Blocks the outbound result queue holds (R139). -/
def outboundDepth : Nat := 16

/-- Microseconds between two bytes of a frame that are still no gap (R187). -/
def rxGap : Nat := 2000

/-- The qualification time of the clock monitor, in microseconds of the count (R169). -/
def qualification : Nat := 10000

/-- RANGE_SWITCH_TIME in microseconds (R108). -/
def rangeSwitchTime : Nat := 500

/-- The highest value of a saturating 32-bit total (R148). -/
def max32 : Nat := 4294967295

/-- Follow-ups of one event that the model runs before it stops with `Fault.cascade` (log entry 6). -/
def cascadeBound : Nat := 4096

end Sys2Proof.Config
end

