-- ==== Sys2Proof/Machine/State.lean ====
section
/-! DEFINITION. The state of the HCF-416 as plain data: one structure for each block of spec/00_scope.md, and
`State.reset`, the part straight after start-up. -/

namespace Sys2Proof.Machine

/-! ### Reasons to stop -/

/-- Why a command ends in a fault. -/
inductive Fault where
  /-- Raised by `settle` when the follow-ups of one event did not end within `Config.cascadeBound` (log entry 6).
  Safe: the model stops where the part goes on. -/
  | cascade
  deriving DecidableEq, Repr

/-- Why a command is refused. -/
inductive Refusal where
  /-- Raised by an arm of `exec` whose command has no meaning yet. Safe: nothing is proved about it. -/
  | notModelled (mnemonic : String)
  deriving DecidableEq, Repr

/-! ### Timers (chapter 9) -/

/-- A running timer (R166): the count at its start, the start plus its duration, and the count at which it expires.
All three are unbounded, since R166 compares as if the count did not wrap. -/
structure Timer where
  start : Nat
  due : Nat
  expiry : Nat
  deriving DecidableEq, Repr

/-- What drives the count (R168), in the code order of R198. -/
inductive Source where
  | reference
  | oscillator
  deriving DecidableEq, Repr

/-- The clock monitor (R169), in the code order of R199. -/
inductive Monitor where
  | present
  | lost
  | qualifying (timer : Timer)
  deriving DecidableEq, Repr

/-- The silence timer (R171). -/
inductive Silence where
  | off
  | waitingFirst
  | running (timer : Timer)
  | expired
  deriving DecidableEq, Repr

/-- TIMEBASE (R168). `now` counts microseconds since start-up; the part's count is `now` modulo 2^48. -/
structure TimeBase where
  now : Nat
  source : Source
  monitor : Monitor
  uncertain : Bool
  silence : Silence
  deriving DecidableEq, Repr

/-! ### Steps and sites (chapter 1) -/

/-- Failure and stop cause codes (R198), 1 to 14 in this order. -/
inductive Failure where
  | pinBusy | portBusy | handleBusy | noHandle | notSource | notMeter | portTimeout | noLane | triggerTimeout
  | verdictStop | coilFault | overcurrent | dischargeTimeout | hostSilent
  deriving DecidableEq, Repr

/-- The common fields of a MEASURE and a SCAN once accepted: every number is in its range (R6). -/
structure MeterSpec where
  handle : Handle
  range : Range
  aperture : Fin 9
  autorange : Bool
  raw : Bool
  stop : StopSet
  limits : Option Limits
  deriving DecidableEq, Repr

/-- An accepted step (R5, R6). -/
inductive StepBody where
  | connect (handle : Handle) (port : PortId) (settle claimTimeout : Duration) (pins : List Pin)
  | arm (handle : Handle)
  | disarm (handle : Handle)
  | release (handle : Handle)
  | measure (m : MeterSpec)
  | scan (m : MeterSpec) (settle : Duration) (points : List ScanPoint)
  | trigger (handle : Handle) (doneTimeout : Duration)
  | wait (duration : Duration)
  | flush
  deriving DecidableEq, Repr

/-- A step in a site's queue. -/
structure Step where
  tag : Byte
  body : StepBody
  deriving DecidableEq, Repr

/-- What an ACTIVE step is doing: the waits of CONNECT (R33, R57, R59), of DISARM and RELEASE (R65, R80), the phases of
MEASURE and SCAN (R120), of TRIGGER (R38, R39), WAIT (R173) and FLUSH (R141). -/
inductive Phase where
  | starting | portWait | laneWait | closing | disarming | releasing | blockWait | switch | acquire | pulseWait
  | doneWait | waiting | flushWait
  deriving DecidableEq, Repr

/-- Progress of the running step (R1). -/
inductive Progress where
  | active (phase : Phase)
  | suspended
  | ended
  deriving DecidableEq, Repr

/-- The running step: its progress and, for SCAN, its point index (R1, R120). -/
structure Running where
  progress : Progress
  point : Nat
  deriving DecidableEq, Repr

/-- Site states in the code order of R198. -/
inductive SiteState where
  | idle | running | held | stopped | aborting | safing | safe
  deriving DecidableEq, Repr

/-- The part's copy of a site's retained reach (R22). -/
structure Reach where
  range : Option (Pin × Pin)
  hv : Bool
  deriving DecidableEq, Repr

/-- What began a site's teardown (R88). -/
inductive Teardown where
  | abort
  | runReset
  | fault (code : Failure)
  deriving DecidableEq, Repr

/-- How a step ended (R10). -/
inductive StepOutcome where
  | ok | failed | aborted
  deriving DecidableEq, Repr

/-- A DONE frame (R10, R198). -/
structure DoneFrame where
  site : SiteId
  tag : Byte
  outcome : StepOutcome
  failure : Option Failure
  point : Nat
  residual : Nat
  lastSeq : Option (BitVec 16)
  discarded : List Byte
  deriving DecidableEq, Repr

/-- An ABORT in flight: its tag and the discarded tags kept for its reply (R16). -/
structure AbortReq where
  tag : Byte
  discarded : List Byte
  deriving DecidableEq, Repr

/-- A CLEAR in flight (R20, R21). -/
structure ClearReq where
  tag : Byte
  forced : Bool
  deriving DecidableEq, Repr

/-- The site record (R1) with the timers and requests the site owns. `carried` holds, oldest first, the DONEs of the steps
that carried a fault while an ENDED step stood before them: they are the steps straight behind the head (log entry 11). -/
structure Site where
  state : SiteState
  reach : Reach
  retainedFlag : Bool
  retained : Reach
  held : Bool
  queue : List Step
  running : Option Running
  stopCause : Option Failure
  claimTimer : Option Timer
  waitTimer : Option Timer
  teardown : Option Teardown
  abort : Option AbortReq
  clear : Option ClearReq
  carried : List DoneFrame
  deriving DecidableEq, Repr

/-! ### Ports (chapter 2) -/

/-- Port kinds in the code order of R196. -/
inductive PortKind where
  | none | source | sense
  deriving DecidableEq, Repr

/-- Trigger styles in the code order of R196. -/
inductive TriggerStyle where
  | pulse | hold
  deriving DecidableEq, Repr

/-- The description of a port (R29). -/
structure PortDesc where
  kind : PortKind
  hv : Bool
  style : TriggerStyle
  width : Nat
  deriving DecidableEq, Repr

/-- A claim, or an entry of a port's waiter list: a site and the handle its CONNECT names (R29). -/
structure Claim where
  site : SiteId
  handle : Handle
  deriving DecidableEq, Repr

/-- A trigger wait: site, step tag and trigger timestamp (R29). -/
structure TriggerWait where
  site : SiteId
  tag : Byte
  stamp : Nat
  deriving DecidableEq, Repr

/-- A port record (R29) with its done and pulse timers (R39). -/
structure Port where
  desc : PortDesc
  claim : Option Claim
  waiters : List Claim
  arm : Bool
  trigger : Bool
  wait : Option TriggerWait
  doneTimer : Option Timer
  pulseTimer : Option Timer
  deriving DecidableEq, Repr

/-! ### Lanes and monitors (chapters 3 and 4) -/

/-- Lane states in the code order of R199. -/
inductive LaneState where
  | free | inUse | retiring | retired
  deriving DecidableEq, Repr

/-- Route states in the code order of R199. -/
inductive RouteState where
  | closing | ready | live | quieting | switching | opening | stuck
  deriving DecidableEq, Repr

/-- A route record (R52). Its lane is the lane that holds it; its pin set is the set of pins commanded closed there and
its settle deadline the operate or settle wait there (log entry 14). -/
structure Route where
  site : SiteId
  handle : Handle
  port : PortId
  state : RouteState
  deriving DecidableEq, Repr

/-- Kinds of chain load, in the code order of R199 (R48). -/
inductive LoadKind where
  | closing | opening | hot
  deriving DecidableEq, Repr

/-- A chain load (R45): what it closes and what it opens. -/
structure Load where
  kind : LoadKind
  closes : List Relay
  opens : List Relay
  deriving DecidableEq, Repr

/-- The action that waits for quiet: a load not yet begun or a disarm (R77), or the opening of a STUCK route by a FULL reset,
which stays STUCK until its lane reads quiet (R73). -/
inductive QuietAction where
  | load (l : Load)
  | disarm
  | unstick
  deriving DecidableEq, Repr

/-- A quiet wait (R77); the quiet waits that a FULL reset makes have no timer (R73). -/
structure QuietWait where
  action : QuietAction
  timer : Option Timer
  deriving DecidableEq, Repr

/-- The fixed waits after a load (R51). -/
inductive WaitKind where
  | operate | settle | release
  deriving DecidableEq, Repr

/-- A wait of the lane's route and its timer (R51). -/
structure LaneWait where
  kind : WaitKind
  timer : Timer
  deriving DecidableEq, Repr

/-- A lane record (R45) with its monitor's episode and fault latch (R75). `closed` lists the relays commanded closed,
in rising order. -/
structure Lane where
  state : LaneState
  closed : List Relay
  route : Option Route
  load : Option Load
  quiet : Option QuietWait
  wait : Option LaneWait
  episode : Option Timer
  latch : Bool
  deriving DecidableEq, Repr

/-- An entry of the lane waiter list (R60). -/
structure LaneWaiter where
  site : SiteId
  tag : Byte
  handle : Handle
  port : PortId
  pins : List Pin
  deriving DecidableEq, Repr

/-! ### Meter and readings (chapters 5 and 7) -/

/-- A calibration record and its UNCAL flag (R96, R112). -/
structure Cal where
  z : Int
  g : Nat
  uncal : Bool
  deriving DecidableEq, Repr

/-- An acquisition (R97). `switching` tells phase SWITCHING_RANGE from SAMPLING; `last` and `lastUncertain` are the last
sample time. -/
structure Acquisition where
  site : SiteId
  tag : Byte
  point : Nat
  requested : Range
  range : Range
  aperture : Fin 9
  autorange : Bool
  raw : Bool
  limits : Option Limits
  clip : Int
  interval : Duration
  cal : Vector Cal 6
  hv : Bool
  retries : Nat
  switching : Bool
  timer : Timer
  taken : Nat
  sum : Int
  clipped : Nat
  last : Nat
  lastUncertain : Bool
  deriving DecidableEq, Repr

/-- METER (R96). -/
structure Meter where
  cal : Vector Cal 6
  acq : Option Acquisition
  deriving DecidableEq, Repr

/-- Verdicts in the code order of R197. -/
inductive Verdict where
  | none | pass | marginal | low | high | overrange
  deriving DecidableEq, Repr

/-- A METER reading record (R133). -/
structure MeterReading where
  tag : Byte
  point : Nat
  stamp : Nat
  uncertain : Bool
  uncal : Bool
  raw : Bool
  capped : Bool
  range : Range
  value : Int
  verdict : Verdict
  clipped : Nat
  retries : Nat
  deriving DecidableEq, Repr

/-- A MARK reading record (R133). -/
structure MarkReading where
  tag : Byte
  stamp : Nat
  uncertain : Bool
  port : PortId
  elapsed : Nat
  deriving DecidableEq, Repr

/-- A reading record (R133). -/
inductive Reading where
  | meter (r : MeterReading)
  | mark (r : MarkReading)
  deriving DecidableEq, Repr

/-- Closure causes in the code order of R197. -/
inductive Cause where
  | fill | flush | ended
  deriving DecidableEq, Repr

/-- A closed block (R134, R138). -/
structure Block where
  site : SiteId
  seq : BitVec 16
  cause : Cause
  records : List Reading
  deriving DecidableEq, Repr

/-- A site's block position (R134). The block of CLOSED_WAITING stands on the closed-block waiting list. -/
inductive BlockPos where
  | empty
  | opened (capacity : Nat) (records : List Reading)
  | closedWaiting
  deriving DecidableEq, Repr

/-- RESULTS' state of one site (R134). -/
structure SiteResults where
  pos : BlockPos
  reserved : Bool
  nextSeq : BitVec 16
  lastSeq : Option (BitVec 16)
  deriving DecidableEq, Repr

/-- RESULTS (R134). -/
structure Results where
  sites : Vector SiteResults 4
  outbound : List Block
  waiting : List Block
  deriving DecidableEq, Repr

/-! ### Health (chapter 8) -/

/-- The operation counts of a lane: (relay, count) pairs, relays strictly rising, no zero count. A relay not listed has
count 0. -/
abbrev Counts := List (Relay × Nat)

/-- HEALTH's items of one lane (R148). `marks` lists the marked relays in rising order. -/
structure LaneHealth where
  counts : Counts
  marks : List Relay
  countLost : Bool
  unsaved : Nat
  life : Nat
  deriving DecidableEq, Repr

/-- The retained HEALTH record (R175). -/
structure HealthRecord where
  lifeWorst : Nat
  latch : Bool
  hotOps : Nat
  coilFaults : Nat
  ocFaults : Nat
  deriving DecidableEq, Repr

/-- HEALTH (R148, R155). `low` is STATE. -/
structure Health where
  lanes : Vector LaneHealth 16
  record : HealthRecord
  life : Nat
  inService : Nat
  spares : Nat
  sparePct : Nat
  low : Bool
  deriving DecidableEq, Repr

/-! ### Store (chapter 10) -/

/-- The sixteen configuration items by number (R180). -/
abbrev ConfigItems := Vector (BitVec 32) 16

/-- The content of a store item (R175). -/
inductive ItemContent where
  | lane (l : LaneId) (counts : Counts) (marks : List Relay)
  | config (items : ConfigItems) (ports : Vector PortDesc 12)
  | cal (records : Vector Cal 6)
  | reach (retained : Vector Reach 4)
  | health (r : HealthRecord)
  deriving DecidableEq, Repr

/-- An item as it stands in the store: its content and the CRC-16 stored with it (R175). -/
structure Item (α : Type) where
  content : α
  check : BitVec 16
  deriving DecidableEq, Repr

/-- The stored items (R175). An item whose check is not the CRC-16 of its content fails its check at start-up. -/
structure Stored where
  lanes : Vector (Item (Counts × List Relay)) 16
  config : Item (ConfigItems × Vector PortDesc 12)
  cal : Item (Vector Cal 6)
  reach : Item (Vector Reach 4)
  health : Item HealthRecord
  deriving DecidableEq, Repr

/-- The write in flight: the content taken, and whether the RAM copy has changed since (R176, R177). -/
structure Write where
  content : ItemContent
  changed : Bool
  deriving DecidableEq, Repr

/-- Who waits on writes (R177): a retained REACH_SET, a LANE_RENEW, a SAVE, or the save of a FULL reset. -/
inductive Owner where
  | reachSet (site : SiteId)
  | laneRenew (lane : LaneId)
  | save
  | fullReset
  deriving DecidableEq, Repr

/-- One awaited write: the first write of `item` that begins after the owner's request; `begun` tells that it has. -/
structure Await where
  owner : Owner
  item : ItemId
  begun : Bool
  deriving DecidableEq, Repr

/-- A timed request of the store in flight, with the items whose awaited write failed (R179). -/
structure StoreReq where
  owner : Owner
  tag : Byte
  failed : List ItemId
  deriving DecidableEq, Repr

/-- STORE (R175 to R182). -/
structure Store where
  stored : Stored
  config : ConfigItems
  differs : Vector Bool 20
  pendingWrites : List ItemId
  inFlight : Option Write
  loadFailed : Vector Bool 20
  awaits : List Await
  reqs : List StoreReq
  deriving DecidableEq, Repr

/-! ### Control link (chapter 11) -/

/-- Reply result codes in the code order of R199. -/
inductive ReplyCode where
  | ok | badSite | noReach | siteState | queueFull | tagInUse | badField | outOfReach | hvDenied | badLimits
  | unknownKind | badLength | busy | notStopped | sequence | frozen | overlap | routesOutside | portBusy
  | dischargeTimeout | storeFailed
  deriving DecidableEq, Repr

/-- A REPLY (R199). `fullReset` marks the reply whose end begins phase 5 of a FULL reset (R184). -/
structure Reply where
  kind : Byte
  tag : Byte
  site : Byte
  code : ReplyCode
  data : List Byte
  fullReset : Bool
  deriving DecidableEq, Repr

/-- LINK_ERROR causes in the code order of R198. -/
inductive LinkCause where
  | crc | length | gap | overrun
  deriving DecidableEq, Repr

/-- A notice with its data (R198); times are counts. -/
inductive Notice where
  | siteState (site : SiteId) (state : SiteState) (cause : Option Failure)
  | laneFault (lane : LaneId) (site : SiteId) (handle : Handle) (port : PortId) (start time : Nat)
  | laneRetired (lane : LaneId) (endOfLife : Bool) (life marked : Nat)
  | health (low : Bool) (life spares : Nat)
  | storeFault (item : ItemId) (write : Bool)
  | linkError (cause : LinkCause) (time : Nat)
  | strayDone (port : PortId) (time : Nat)
  | clock (source : Source) (time : Nat)
  | hostSilent (time : Nat) (sites : List SiteId)
  deriving DecidableEq, Repr

/-- A pending notice (R193). -/
structure NoticeEntry where
  notice : Notice
  repeated : Bool
  deriving DecidableEq, Repr

/-- A frame in the transmitter (R194). -/
inductive TxFrame where
  | reply (r : Reply)
  | done (d : DoneFrame)
  | notice (e : NoticeEntry)
  | result (b : Block)
  deriving DecidableEq, Repr

/-- The receiver (R187): in RECEIVING, the bytes after START and the count of the last byte. -/
inductive Receiver where
  | hunting
  | receiving (bytes : List Byte) (last : Nat)
  deriving DecidableEq, Repr

/-- LINK (R187 to R194). -/
structure Link where
  rate : BitVec 2
  rx : Receiver
  slots : List Frame
  marker : Option (Byte × Byte)
  reserved : Nat
  replies : List Reply
  completion : List DoneFrame
  doneWaiting : List DoneFrame
  notices : Vector (Option NoticeEntry) 9
  tx : Option TxFrame
  deriving DecidableEq, Repr

/-! ### The whole part -/

/-- Phases of a RESET in flight (R183, R184). A RUN reset has `teardown` only. -/
inductive ResetPhase where
  | teardown | stuck | save | reply | startup
  deriving DecidableEq, Repr

/-- A RESET in flight: `waiting` lists the sites that have not ended their teardown, `ends` the end states (R183). -/
structure ResetReq where
  tag : Byte
  full : Bool
  phase : ResetPhase
  waiting : List SiteId
  ends : Vector SiteState 4
  deriving DecidableEq, Repr

/-- The input pins (R75, R41, R194, R169, R186). -/
structure Pins where
  live : Vector Bool 16
  overIn : Vector Bool 16
  done : Vector Bool 12
  rts : Bool
  refEdges : Bool
  straps : BitVec 2
  deriving DecidableEq, Repr

/-- A follow-up of the present event (log entry 6): a timer started with count 0 expires (R166), a waiting DONE is admitted
(R192), a site looks whether its head step starts (R9), a DONE that has been built is handled (R192), a site's open block is
closed (R138), the oldest frame is dispatched (R189). -/
inductive Task where
  | next (site : SiteId)
  | done (frame : DoneFrame)
  | closure (site : SiteId) (cause : Cause)
  | claimExpired (site : SiteId)
  | waitExpired (site : SiteId)
  | operateExpired (lane : LaneId)
  | settleExpired (lane : LaneId)
  | releaseExpired (lane : LaneId)
  | ocExpired (lane : LaneId)
  | doneExpired (port : PortId)
  | dispatch
  | admitDone
  deriving DecidableEq, Repr

/-- The state of the part, the queue of waiting commands (`pending`) and the model's own fields `agenda` and
`freeReads`. -/
structure State where
  powered : Bool
  freeze : Bool
  pins : Pins
  link : Link
  sites : Vector Site 4
  ports : Vector Port 12
  lanes : Vector Lane 16
  laneWaiters : List LaneWaiter
  meter : Meter
  results : Results
  health : Health
  time : TimeBase
  store : Store
  resetReq : Option ResetReq
  agenda : List Task
  freeReads : Nat
  pending : List Instr
  deriving DecidableEq, Repr

/-! ### Reset values -/

/-- An empty reach with hv_allowed no (R182). -/
def Reach.none : Reach := { range := .none, hv := false }

/-- A site record at start-up (R27), with an empty reach. -/
def Site.fresh : Site :=
  { state := .idle, reach := .none, retainedFlag := true, retained := .none, held := false, queue := [],
    running := .none, stopCause := .none, claimTimer := .none, waitTimer := .none, teardown := .none, abort := .none,
    clear := .none, carried := [] }

/-- The default description of ports 1 to 11 (R29). -/
def PortDesc.default : PortDesc := { kind := .none, hv := false, style := .pulse, width := 10 }

/-- The fixed description of port 0, whose trigger style and width are none (R29); they are held as PULSE and 0. -/
def PortDesc.meter : PortDesc := { kind := .sense, hv := false, style := .pulse, width := 0 }

/-- The port descriptions at their defaults. -/
def PortDesc.defaults : Vector PortDesc 12 := (Vector.replicate 12 PortDesc.default).set 0 PortDesc.meter

/-- A port record at start-up (R44). -/
def Port.fresh (d : PortDesc) : Port :=
  { desc := d, claim := .none, waiters := [], arm := false, trigger := false, wait := .none, doneTimer := .none,
    pulseTimer := .none }

/-- A lane record at start-up (R72, R93). -/
def Lane.fresh : Lane :=
  { state := .free, closed := [], route := .none, load := .none, quiet := .none, wait := .none, episode := .none,
    latch := false }

/-- A calibration record at its defaults (R112). -/
def Cal.default : Cal := { z := 0, g := 32768, uncal := false }

/-- RESULTS' state of a site at start-up (R146). -/
def SiteResults.fresh : SiteResults := { pos := .empty, reserved := false, nextSeq := 0, lastSeq := .none }

/-- A lane without wear (R165). -/
def LaneHealth.fresh : LaneHealth := { counts := [], marks := [], countLost := false, unsaved := 0, life := 100 }

/-- The HEALTH record when nothing is known (R165). -/
def HealthRecord.fresh : HealthRecord := { lifeWorst := 100, latch := false, hotOps := 0, coilFaults := 0, ocFaults := 0 }

/-- The configuration defaults, items 0 to 15 (R180). Durations are tick code and count: 2 ms is tick 01 (100 us),
count 20. -/
def ConfigItems.default : ConfigItems :=
  #v[8, 0, 0x1FF, 12, 10000000, 10, 50, 50, 0x4014, 0x401E, 0x4014, 0x41F4, 1, 131071, 20, 1024]

/-- The stored items of State.reset (log entry 1), each with the CRC-16 of its content. DESIGN CHOICE, unsafe. -/
def Stored.default : Stored :=
  { lanes := Vector.replicate 16 ⟨([], []), 0x2AAB⟩, config := ⟨(.default, PortDesc.defaults), 0x2EC2⟩,
    cal := ⟨Vector.replicate 6 .default, 0x9024⟩, reach := ⟨Vector.replicate 4 .none, 0x3548⟩,
    health := ⟨.fresh, 0xE2BF⟩ }

/-- LINK at start-up (R195), at the line rate the straps give (R186). -/
def Link.fresh (rate : BitVec 2) : Link :=
  { rate := rate, rx := .hunting, slots := [], marker := .none, reserved := 0, replies := [], completion := [],
    doneWaiting := [], notices := Vector.replicate 9 .none, tx := .none }

/-- The input pins of State.reset (log entry 2). DESIGN CHOICE, unsafe. -/
def Pins.quiet : Pins :=
  { live := Vector.replicate 16 false, overIn := Vector.replicate 16 false, done := Vector.replicate 12 false,
    rts := true, refEdges := true, straps := 0 }

/-- The part straight after a start-up that found every stored item good and at its defaults (R27, R44, R72, R93, R116,
R146, R165, R174, R182, R195; log entries 1 and 2). -/
def State.reset : State :=
  { powered := true, freeze := false, pins := .quiet, link := Link.fresh 0, sites := Vector.replicate 4 .fresh,
    ports := (Vector.replicate 12 (Port.fresh .default)).set 0 (Port.fresh .meter),
    lanes := Vector.replicate 16 .fresh, laneWaiters := [],
    meter := { cal := Vector.replicate 6 .default, acq := .none },
    results := { sites := Vector.replicate 4 .fresh, outbound := [], waiting := [] },
    health := { lanes := Vector.replicate 16 .fresh, record := .fresh, life := 100, inService := 16, spares := 4,
                sparePct := 100, low := false },
    time := { now := 0, source := .reference, monitor := .present, uncertain := false, silence := .off },
    store := { stored := .default, config := .default, differs := Vector.replicate 20 false, pendingWrites := [],
               inFlight := .none, loadFailed := Vector.replicate 20 false, awaits := [], reqs := [] },
    resetReq := .none, agenda := [], freeReads := 0, pending := [] }

end Sys2Proof.Machine
end

