-- ==== Sys2Proof/Machine/Ops.lean ====
section
/-! DEFINITION. The named operations on the state that every block uses: access to the records, timers, the agenda of
an event, replies, notices, and the relay lists and counts. -/

namespace Sys2Proof.Machine

/-! ### Records -/

/-- Replace entry `i` of a vector by its image. -/
def upd {α : Type} {n : Nat} (v : Vector α n) (i : Fin n) (f : α → α) : Vector α n := v.set i (f v[i])

/-- The four sites in order. -/
def allSites : List SiteId := [0, 1, 2, 3]

/-- The twelve ports in order. -/
def allPorts : List PortId := [0, 1, 2, 3, 4, 5, 6, 7, 8, 9, 10, 11]

/-- The sixteen lanes in order. -/
def allLanes : List LaneId := [0, 1, 2, 3, 4, 5, 6, 7, 8, 9, 10, 11, 12, 13, 14, 15]

/-- The eight handles in order. -/
def allHandles : List Handle := [0, 1, 2, 3, 4, 5, 6, 7]

/-- The twenty items of the store in order. -/
def allItems : List ItemId := [0, 1, 2, 3, 4, 5, 6, 7, 8, 9, 10, 11, 12, 13, 14, 15, 16, 17, 18, 19]

/-- The item of a lane's record. -/
def laneItem (l : LaneId) : ItemId := l.castLE (by decide)

/-- The CONFIG item. -/
def configItem : ItemId := 16

/-- The CAL item. -/
def calItem : ItemId := 17

/-- The REACH item. -/
def reachItem : ItemId := 18

/-- The HEALTH item. -/
def healthItem : ItemId := 19

def State.modLink (f : Link → Link) (s : State) : State := { s with link := f s.link }
def State.modSite (i : SiteId) (f : Site → Site) (s : State) : State := { s with sites := upd s.sites i f }
def State.modPort (p : PortId) (f : Port → Port) (s : State) : State := { s with ports := upd s.ports p f }
def State.modLane (l : LaneId) (f : Lane → Lane) (s : State) : State := { s with lanes := upd s.lanes l f }
def State.modMeter (f : Meter → Meter) (s : State) : State := { s with meter := f s.meter }
def State.modHealth (f : Health → Health) (s : State) : State := { s with health := f s.health }
def State.modTime (f : TimeBase → TimeBase) (s : State) : State := { s with time := f s.time }
def State.modStore (f : Store → Store) (s : State) : State := { s with store := f s.store }
def State.modPins (f : Pins → Pins) (s : State) : State := { s with pins := f s.pins }

/-- Change RESULTS' state of one site. -/
def State.modRes (i : SiteId) (f : SiteResults → SiteResults) (s : State) : State :=
  { s with results := { s.results with sites := upd s.results.sites i f } }

/-- Change HEALTH's items of one lane. -/
def State.modWear (l : LaneId) (f : LaneHealth → LaneHealth) (s : State) : State :=
  { s with health := { s.health with lanes := upd s.health.lanes l f } }

/-- Do `f` for each entry of a list, in order. -/
def forEach {α : Type} (l : List α) (f : α → State → State) (s : State) : State := l.foldl (fun t a => f a t) s

/-! ### Durations and timers (R166) -/

/-- The tick of a duration, in microseconds. -/
def Duration.tick (d : Duration) : Nat :=
  match (d >>> 14).toNat with
  | 0 => 1
  | 1 => 100
  | 2 => 10000
  | _ => 1000000

/-- The count of a duration: its low fourteen bits. -/
def Duration.count (d : Duration) : Nat := d.toNat % 16384

/-- The value of a duration in microseconds. -/
def Duration.value (d : Duration) : Nat := Duration.count d * Duration.tick d

/-- The first multiple of `t` at or after `x`. -/
def roundUp (x t : Nat) : Nat := (x + (t - 1)) / t * t

/-- A timer started at `now` with duration `d`. With count 0 it expires where it starts; otherwise at the first whole
multiple of the tick at or after the start plus the duration (R166). -/
def Timer.begin (d : Duration) (now : Nat) : Timer :=
  { start := now, due := now + Duration.value d,
    expiry := if Duration.count d = 0 then now else roundUp (now + Duration.value d) (Duration.tick d) }

/-- A timer of a plain count of microseconds: a pulse width (R31), RANGE_SWITCH_TIME (R108), the qualification time. -/
def Timer.micros (n now : Nat) : Timer := { start := now, due := now + n, expiry := now + n }

/-- The part's count: 48 bits of the microseconds since start-up (R168). -/
def State.count (s : State) : Nat := s.time.now % 2 ^ 48

/-- A timer whose expiry the count has reached. A timer that is absent has been stopped and does not expire, and a timer
whose expiry lies ahead does not expire yet (R166, R167, log entry 4). -/
def State.expired (t : Option Timer) (s : State) : Option Timer :=
  match t with
  | some t => if t.expiry ≤ s.time.now then some t else none
  | none => none

/-! ### The agenda of an event (log entry 6) -/

/-- The rank of a follow-up, which orders the agenda. DONEs that were built (R192) and blocks that close (R138) are taken in
ascending site order; a site looks to its next step before another site's DONE is handled, blocks close once every DONE has
been handled, and a frame is dispatched when nothing else is left (log entries 6 and 36). -/
def Task.rank : Task → Nat
  | .claimExpired _ => 0
  | .waitExpired _ => 0
  | .operateExpired _ => 0
  | .settleExpired _ => 0
  | .releaseExpired _ => 0
  | .ocExpired _ => 0
  | .doneExpired _ => 0
  | .admitDone => 1
  | .next i => 2 + i.val
  | .done d => 6 + d.site.val
  | .closure i _ => 10 + i.val
  | .dispatch => 14

/-- Put a follow-up behind those of its rank and before those of a higher one. -/
def insertTask (t : Task) : List Task → List Task
  | [] => [t]
  | u :: us => if t.rank < u.rank then t :: u :: us else u :: insertTask t us

/-- Note a follow-up of the present event. -/
def State.push (t : Task) (s : State) : State := { s with agenda := insertTask t s.agenda }

/-- The follow-up is the closing of the site's block. -/
def Task.closes (i : SiteId) : Task → Bool
  | .closure j _ => decide (j = i)
  | _ => false

/-- The site's block is to close at this event. -/
def State.closing (i : SiteId) (s : State) : Bool := s.agenda.any (Task.closes i)

/-- Note that the site's block closes at this event, once: the blocks of several sites that close at one event are taken in
ascending site order (R138, log entry 36). -/
def State.noteClosure (i : SiteId) (c : Cause) (s : State) : State :=
  if s.closing i then s else s.push (.closure i c)

/-- Note the expiry of a timer that was started with count 0 (R166). -/
def State.pushIfZero (d : Duration) (t : Task) (s : State) : State :=
  if Duration.count d = 0 then s.push t else s

/-! ### Configuration items (R180) -/

/-- The value of configuration item `i`. -/
def State.cfg (i : Fin 16) (s : State) : Nat := s.store.config[i].toNat

/-- A configuration item that is a duration: the low sixteen bits of its value. -/
def State.cfgDuration (i : Fin 16) (s : State) : Duration := (s.store.config[i]).setWidth 16

/-- BLOCK_FILL. -/
def State.blockFill (s : State) : Nat := s.cfg 0
/-- SILENCE. -/
def State.silenceTime (s : State) : Duration := s.cfgDuration 1
/-- NOTICE_MASK. -/
def State.noticeMask (s : State) : BitVec 32 := s.store.config[(2 : Fin 16)]
/-- LANE_NEED. -/
def State.laneNeed (s : State) : Nat := s.cfg 3
/-- RATED_LIFE. -/
def State.ratedLife (s : State) : Nat := s.cfg 4
/-- LIFE_THRESHOLD. -/
def State.lifeThreshold (s : State) : Nat := s.cfg 5
/-- LEVEL_THRESHOLD. -/
def State.levelThreshold (s : State) : Nat := s.cfg 6
/-- HOT_WEIGHT. -/
def State.hotWeight (s : State) : Nat := s.cfg 7
/-- OC_PERSIST. -/
def State.ocPersist (s : State) : Duration := s.cfgDuration 8
/-- OPERATE_TIME. -/
def State.operateTime (s : State) : Duration := s.cfgDuration 9
/-- RELEASE_TIME. -/
def State.releaseTime (s : State) : Duration := s.cfgDuration 10
/-- DISCHARGE_TIMEOUT. -/
def State.dischargeTimeout (s : State) : Duration := s.cfgDuration 11
/-- RETIRE_AT_END. -/
def State.retireAtEnd (s : State) : Bool := s.cfg 12 != 0
/-- CLIP_LEVEL. -/
def State.clipLevel (s : State) : Nat := s.cfg 13
/-- SAMPLE_INTERVAL. -/
def State.sampleInterval (s : State) : Duration := s.cfgDuration 14
/-- AUTOSAVE_THRESHOLD. -/
def State.autosaveThreshold (s : State) : Nat := s.cfg 15

/-! ### Replies (R189, R190) -/

/-- Place a built REPLY in the reply queue; its place was reserved at the frame's dispatch. -/
def State.replyWith (r : Reply) (s : State) : State := s.modLink fun k => { k with replies := k.replies ++ [r] }

/-- Build and place a REPLY. -/
def State.reply (kind tag site : Byte) (code : ReplyCode) (data : List Byte) (s : State) : State :=
  s.replyWith { kind := kind, tag := tag, site := site, code := code, data := data, fullReset := false }

/-- A site number as the SITE byte. -/
def siteByte (i : SiteId) : Byte := BitVec.ofNat 8 i.val

/-- SITE 0xFF: the part. -/
def partByte : Byte := 0xFF

/-- The site a SITE byte names. -/
def siteOf (b : Byte) : Option SiteId := if h : b.toNat < 4 then some ⟨b.toNat, h⟩ else none

/-! ### Free bytes of replies (log entry 7) -/

/-- The `n`th free byte from here. -/
def State.freeByte (s : State) (n : Nat) : Byte := Config.freeByte (s.freeReads + n)

/-- Count `n` free values as drawn. -/
def State.drew (n : Nat) (s : State) : State := { s with freeReads := s.freeReads + n }

/-! ### Notices (R193) -/

/-- The kind number of a notice. -/
def Notice.kind : Notice → Fin 9
  | .siteState .. => 0
  | .laneFault .. => 1
  | .laneRetired .. => 2
  | .health .. => 3
  | .storeFault .. => 4
  | .linkError .. => 5
  | .strayDone .. => 6
  | .clock .. => 7
  | .hostSilent .. => 8

/-- Raise a notice: nothing if its kind is masked, an entry if its kind has none, else the entry's data is replaced and
REPEATED set (R193). -/
def State.notice (n : Notice) (s : State) : State :=
  if s.noticeMask.getLsbD n.kind.val then
    s.modLink fun k => { k with notices := upd k.notices n.kind fun e => some { notice := n, repeated := e.isSome } }
  else s

/-! ### Relay lists and counts -/

/-- The pin relay of a board pin (R148). -/
def pinRelay (p : Pin) : Relay := ⟨p.toNat, Nat.lt_trans p.isLt (by decide)⟩

/-- The port relay of a port: relay 256 + q (R148). -/
def portRelay (q : PortId) : Relay := ⟨256 + q.val, by have := q.isLt; omega⟩

/-- Add a relay to a rising list. -/
def insertRelay (r : Relay) : List Relay → List Relay
  | [] => [r]
  | x :: xs => if r < x then r :: x :: xs else if r = x then x :: xs else x :: insertRelay r xs

/-- Add relays to a rising list. -/
def addRelays (rs l : List Relay) : List Relay := rs.foldl (fun a r => insertRelay r a) l

/-- Remove relays from a list. -/
def dropRelays (rs l : List Relay) : List Relay := l.filter fun r => !rs.contains r

/-- The count of a relay (R148). -/
def Counts.get (c : Counts) (r : Relay) : Nat :=
  match c with
  | [] => 0
  | (x, n) :: rest => if x = r then n else Counts.get rest r

/-- Set the count of a relay, keeping the canonical form: a zero count is not listed. -/
def Counts.put (r : Relay) (n : Nat) : Counts → Counts
  | [] => if n = 0 then [] else [(r, n)]
  | (x, m) :: rest =>
    if r < x then (if n = 0 then (x, m) :: rest else (r, n) :: (x, m) :: rest)
    else if r = x then (if n = 0 then rest else (r, n) :: rest)
    else (x, m) :: Counts.put r n rest

/-- Every relay of the list lies above `r`. -/
def Counts.above (r : Relay) : Counts → Bool
  | [] => true
  | (x, _) :: _ => decide (r < x)

/-- The canonical form of a lane's counts: relays strictly rising, no zero count. -/
def Counts.wf : Counts → Bool
  | [] => true
  | (x, n) :: rest => decide (n ≠ 0) && Counts.above x rest && Counts.wf rest

/-- Saturating addition of a 32-bit total (R148, R150). -/
def satAdd (a b : Nat) : Nat := min (a + b) Config.max32

/-- The largest count of a lane, c_max (R148). -/
def Counts.largest (c : Counts) : Nat := c.foldl (fun m e => max m e.2) 0

/-! ### Lanes and routes (R52, R55) -/

/-- The board pins commanded closed on a lane: the pin set of its route (R52, log entry 14). -/
def Lane.pinSet (x : Lane) : List Pin :=
  (x.closed.filter fun r => decide (r.val < 256)).map fun r => BitVec.ofNat 8 r.val

/-- The lane reads live (R75). -/
def State.isLive (l : LaneId) (s : State) : Bool := s.pins.live[l]

/-- The lane holds a route of site `i`. -/
def Lane.ownedBy (i : SiteId) (x : Lane) : Bool :=
  match x.route with
  | some r => decide (r.site = i)
  | none => false

/-- The lane of the route that handle `h` of site `i` names (R55). -/
def State.routeLane (i : SiteId) (h : Handle) (s : State) : Option LaneId :=
  allLanes.find? fun l =>
    match s.lanes[l].route with
    | some r => decide (r.site = i ∧ r.handle = h)
    | none => false

/-- The lanes of site `i`'s routes, in lane order. -/
def State.routeLanes (i : SiteId) (s : State) : List LaneId := allLanes.filter fun l => s.lanes[l].ownedBy i

/-- The port whose claim site `i` holds with handle `h`. -/
def State.claimPort (i : SiteId) (h : Handle) (s : State) : Option PortId :=
  allPorts.find? fun p => decide (s.ports[p].claim = some ⟨i, h⟩)

/-- The ports that site `i` holds by a claim without a route, in port order (R55). -/
def State.routelessPorts (i : SiteId) (s : State) : List PortId :=
  allPorts.filter fun p =>
    match s.ports[p].claim with
    | some c => decide (c.site = i) && (s.routeLane i c.handle).isNone
    | none => false

/-- The route handles of site `i`, a view of the route table (R1, R55). -/
def State.routeHandles (i : SiteId) (s : State) : List Handle := allHandles.filter fun h => (s.routeLane i h).isSome

/-- The arm line of a LIVE route's port is deasserted (R37). -/
def State.disarmRoute (l : LaneId) (s : State) : State :=
  match s.lanes[l].route with
  | some r => if r.state = .live then s.modPort r.port fun x => { x with arm := false } else s
  | none => s

/-- Set the state of the route on a lane. A route that leaves LIVE has its arm line deasserted at that event (R36, R37). -/
def State.setRoute (l : LaneId) (st : RouteState) (s : State) : State :=
  (if st = .live then s else s.disarmRoute l).modLane l fun x =>
    { x with route := x.route.map fun r => { r with state := st } }

/-! ### The link (R182, R184, R188) -/

/-- The receiver takes bytes and the transmitter begins frames: the part has power and no FULL reset is past its reply
(R184). -/
def State.linkUp (s : State) : Bool :=
  s.powered &&
    match s.resetReq with
    | some r => decide (r.phase ≠ .startup)
    | none => true

/-- The CTS output (R182, R188). -/
def State.cts (s : State) : Bool := s.linkUp && decide (s.link.slots.length < Config.receiveSlots)

/-- A FULL reset is in flight (R184). -/
def State.fullReset (s : State) : Bool :=
  match s.resetReq with
  | some r => r.full
  | none => false

/-- The FULL reset in flight has reached phase `p` (R184). -/
def State.inPhase (p : ResetPhase) (s : State) : Bool :=
  match s.resetReq with
  | some r => r.full && decide (r.phase = p)
  | none => false

end Sys2Proof.Machine
end

