-- ==== Sys2Proof/Machine/Operands.lean ====
section
/-! DEFINITION. The operands of commands: the bytes of request frames (R186, R196, R197), the conversion of a STEP's
fields to an accepted step (R6), and the bytes of the frames the part sends (R197 to R199). -/

namespace Sys2Proof.Machine

/-! ### Byte order (R186: least significant byte first) -/

/-- Two bytes as one field. -/
def le16 (b0 b1 : Byte) : BitVec 16 := b1 ++ b0

/-- Four bytes as one field. -/
def le32 (b0 b1 b2 b3 : Byte) : BitVec 32 := (b3 ++ b2 ++ b1 ++ b0 : BitVec 32)

/-- The bytes of a 16-bit field. -/
def bytes16 (x : BitVec 16) : List Byte := [x.extractLsb' 0 8, x.extractLsb' 8 8]

/-- The bytes of a 32-bit field. -/
def bytes32 (x : BitVec 32) : List Byte :=
  [x.extractLsb' 0 8, x.extractLsb' 8 8, x.extractLsb' 16 8, x.extractLsb' 24 8]

/-- The bytes of a 48-bit count. -/
def bytes48 (x : BitVec 48) : List Byte :=
  [x.extractLsb' 0 8, x.extractLsb' 8 8, x.extractLsb' 16 8, x.extractLsb' 24 8, x.extractLsb' 32 8,
    x.extractLsb' 40 8]

/-- One byte of a number. -/
def byte (n : Nat) : Byte := BitVec.ofNat 8 n

/-- A two-byte field of a number. -/
def nat16 (n : Nat) : List Byte := bytes16 (BitVec.ofNat 16 n)

/-- A four-byte field of a number. -/
def nat32 (n : Nat) : List Byte := bytes32 (BitVec.ofNat 32 n)

/-- A six-byte count: `n` modulo 2^48. -/
def nat48 (n : Nat) : List Byte := bytes48 (BitVec.ofNat 48 n)

/-- A flag as a byte. -/
def flag (b : Bool) : Byte := if b then 1 else 0

/-- Flags as the bits of one byte, bit 0 first. The bits that no rule names are sent clear (log entry 35). -/
def flags (b0 b1 b2 b3 b4 b5 : Bool) : Byte :=
  byte (b0.toNat + 2 * b1.toNat + 4 * b2.toNat + 8 * b3.toNat + 16 * b4.toNat + 32 * b5.toNat)

/-! ### CRC-16 (R186): polynomial 0x1021, initial value 0xFFFF, unreflected, no final inversion -/

/-- One shift of the CRC register. -/
def crcShift (c : BitVec 16) : BitVec 16 := if c.msb then (c <<< 1) ^^^ 0x1021 else c <<< 1

/-- One byte into the CRC register. -/
def crcByte (c : BitVec 16) (b : Byte) : BitVec 16 :=
  let c := c ^^^ (b.setWidth 16 <<< 8)
  crcShift (crcShift (crcShift (crcShift (crcShift (crcShift (crcShift (crcShift c)))))))

/-- The CRC-16 of a byte string. -/
def crc16 (bs : List Byte) : BitVec 16 := bs.foldl crcByte 0xFFFF

/-- The bytes of a frame from LEN to the end of PAYLOAD. -/
def frameBody (kind tag site : Byte) (payload : List Byte) : List Byte :=
  nat16 (3 + payload.length) ++ [kind, tag, site] ++ payload

/-- The CRC a good request frame carries. -/
def frameCrc (f : Frame) : BitVec 16 := crc16 (frameBody f.kind f.tag f.site f.payload)

/-- All bytes of a frame: START, body, CRC (R186). -/
def frameBytes (kind tag site : Byte) (payload : List Byte) : List Byte :=
  let body := frameBody kind tag site payload
  0x7E :: body ++ bytes16 (crc16 body)

/-! ### Request payloads: writing (R196, R197) -/

/-- A limit triple; absent is sent as zero (R197). -/
def limitBytes : Option Limits → List Byte
  | some l => bytes32 l.lo ++ bytes32 l.hi ++ bytes32 (l.gb.setWidth 32)
  | none => List.replicate 12 0

/-- The flag byte of a MEASURE or SCAN. -/
def meterFlags (m : MeterReq) : Byte := flags m.autorange m.raw m.limits.isSome false false false

/-- The stop-set byte. -/
def stopByte (t : StopSet) : Byte := flags t.low t.high t.marginal t.overrange false false

/-- The fields from the handle to the limit triple of a MEASURE or SCAN. -/
def meterBytes (m : MeterReq) : List Byte :=
  [m.handle, m.range, m.aperture, meterFlags m, stopByte m.stop] ++ limitBytes m.limits

/-- A SCAN point: fourteen bytes. -/
def pointBytes (p : ScanPoint) : List Byte := p.pin :: flag p.own.isSome :: limitBytes p.own

/-- The step kind code (R197). -/
def stepCode : StepKind → Byte
  | .connect => 0
  | .arm => 1
  | .disarm => 2
  | .release => 3
  | .measure => 4
  | .scan => 5
  | .trigger => 6
  | .wait => 7
  | .flush => 8

/-- All step kinds. -/
def allStepKinds : List StepKind := [.connect, .arm, .disarm, .release, .measure, .scan, .trigger, .wait, .flush]

/-- The step kind a code names, if it names one. -/
def stepNamed (b : Byte) : Option StepKind := allStepKinds.find? fun k => decide (stepCode k = b)

/-- The kind of a step. -/
def stepKindOf : StepReq → StepKind
  | .connect .. => .connect
  | .arm _ => .arm
  | .disarm _ => .disarm
  | .release _ => .release
  | .measure _ => .measure
  | .scan .. => .scan
  | .trigger .. => .trigger
  | .wait _ => .wait
  | .flush => .flush

/-- The fields of a STEP after its step kind (R197). -/
def stepFields : StepReq → List Byte
  | .connect h p settle claim pins => [h, p, byte pins.length] ++ bytes16 settle ++ bytes16 claim ++ pins
  | .arm h => [h]
  | .disarm h => [h]
  | .release h => [h]
  | .measure m => meterBytes m
  | .scan m settle points =>
    meterBytes m ++ bytes16 settle ++ [byte points.length] ++ (points.map pointBytes).flatten
  | .trigger h d => [h] ++ bytes16 d
  | .wait d => bytes16 d
  | .flush => []

/-- A STEP payload. -/
def stepPayload (r : StepReq) : List Byte := stepCode (stepKindOf r) :: stepFields r

/-- The KIND byte of each request kind (R196). -/
def kindCode : RequestKind → Byte
  | .status => 0x01
  | .step => 0x02
  | .hold => 0x03
  | .resume => 0x04
  | .abort => 0x05
  | .clear => 0x06
  | .reachGet => 0x07
  | .reachSet => 0x08
  | .reachFreeze => 0x09
  | .portGet => 0x0A
  | .portSet => 0x0B
  | .routeGet => 0x0C
  | .calGet => 0x0D
  | .calSet => 0x0E
  | .configGet => 0x0F
  | .configSet => 0x10
  | .health => 0x11
  | .countGet => 0x12
  | .laneRenew => 0x13
  | .save => 0x14
  | .reset => 0x15
  | .time => 0x16

/-- All request kinds. -/
def allRequestKinds : List RequestKind :=
  [.status, .step, .hold, .resume, .abort, .clear, .reachGet, .reachSet, .reachFreeze, .portGet, .portSet, .routeGet,
    .calGet, .calSet, .configGet, .configSet, .health, .countGet, .laneRenew, .save, .reset, .time]

/-- The request kind a KIND byte names, if it names one. -/
def kindNamed (b : Byte) : Option RequestKind := allRequestKinds.find? fun k => decide (kindCode k = b)

/-- The kind of a request. -/
def kindOf : Request → RequestKind
  | .status => .status
  | .step _ => .step
  | .hold => .hold
  | .resume => .resume
  | .abort => .abort
  | .clear _ => .clear
  | .reachGet => .reachGet
  | .reachSet .. => .reachSet
  | .reachFreeze => .reachFreeze
  | .portGet _ => .portGet
  | .portSet .. => .portSet
  | .routeGet => .routeGet
  | .calGet _ => .calGet
  | .calSet .. => .calSet
  | .configGet .. => .configGet
  | .configSet _ => .configSet
  | .health => .health
  | .countGet .. => .countGet
  | .laneRenew _ => .laneRenew
  | .save => .save
  | .reset _ => .reset
  | .time _ => .time

/-- The KIND of a request's frame. -/
def requestKind (r : Request) : Byte := kindCode (kindOf r)

/-- The PAYLOAD of a request (R196). -/
def requestPayload : Request → List Byte
  | .step r => stepPayload r
  | .clear force => [flag force]
  | .reachSet first last empty hv retain => [first, last, flags empty hv retain false false false]
  | .portGet p => [p]
  | .portSet p k hv style width => [p, k, flag hv, style] ++ bytes16 width
  | .calGet r => [r]
  | .calSet r z g => [r] ++ bytes16 z ++ bytes16 g
  | .configGet a n => [a, n]
  | .configSet pairs => (pairs.map fun e => e.1 :: bytes32 e.2).flatten
  | .countGet l first n => [l] ++ bytes16 first ++ [n]
  | .laneRenew l => [l]
  | .reset mode => [mode]
  | .time ack => [flag ack]
  | _ => []

/-- The frame of a request. -/
def requestFrame (r : Request) (tag site : Byte) : Frame :=
  { kind := requestKind r, tag := tag, site := site, payload := requestPayload r }

/-! ### Request payloads: reading (R189 step 2, R196, R197) -/

/-- Bit `n` of a byte. -/
def bit (b : Byte) (n : Nat) : Bool := b.getLsbD n

/-- A limit triple, if its flag marks it present (R197). -/
def readLimits (present : Bool) (l h g : BitVec 32) : Option Limits :=
  if present then some { lo := l, hi := h, gb := g.setWidth 31 } else none

/-- A stop-set byte; its unused bits are ignored. -/
def readStop (b : Byte) : StopSet :=
  { low := bit b 0, high := bit b 1, marginal := bit b 2, overrange := bit b 3 }

/-- The common fields of a MEASURE or SCAN and what follows them. -/
def readMeter : List Byte → Option (MeterReq × List Byte)
  | h :: r :: a :: f :: st :: l0 :: l1 :: l2 :: l3 :: h0 :: h1 :: h2 :: h3 :: g0 :: g1 :: g2 :: g3 :: rest =>
    some ({ handle := h, range := r, aperture := a, autorange := bit f 0, raw := bit f 1, stop := readStop st,
            limits := readLimits (bit f 2) (le32 l0 l1 l2 l3) (le32 h0 h1 h2 h3) (le32 g0 g1 g2 g3) }, rest)
  | _ => none

/-- SCAN points of fourteen bytes each; none where bytes are left over. -/
def readPoints : List Byte → Option (List ScanPoint)
  | [] => some []
  | p :: f :: l0 :: l1 :: l2 :: l3 :: h0 :: h1 :: h2 :: h3 :: g0 :: g1 :: g2 :: g3 :: rest =>
    match readPoints rest with
    | some ps =>
      some ({ pin := p, own := readLimits (bit f 0) (le32 l0 l1 l2 l3) (le32 h0 h1 h2 h3) (le32 g0 g1 g2 g3) } :: ps)
    | none => none
  | _ => none

/-- CONFIG_SET pairs of five bytes each; none where bytes are left over. -/
def readPairs : List Byte → Option (List (Byte × BitVec 32))
  | [] => some []
  | i :: v0 :: v1 :: v2 :: v3 :: rest =>
    match readPairs rest with
    | some ps => some ((i, le32 v0 v1 v2 v3) :: ps)
    | none => none
  | _ => none

/-- The fields of a STEP; none where the length is wrong for its kind (R197). -/
def readStep (k : StepKind) (b : List Byte) : Option StepReq :=
  match k with
  | .connect =>
    match b with
    | h :: p :: n :: s0 :: s1 :: c0 :: c1 :: pins =>
      if pins.length = n.toNat then some (.connect h p (le16 s0 s1) (le16 c0 c1) pins) else none
    | _ => none
  | .arm => match b with | [h] => some (.arm h) | _ => none
  | .disarm => match b with | [h] => some (.disarm h) | _ => none
  | .release => match b with | [h] => some (.release h) | _ => none
  | .measure =>
    match readMeter b with
    | some (m, []) => some (.measure m)
    | _ => none
  | .scan =>
    match readMeter b with
    | some (m, s0 :: s1 :: n :: rest) =>
      match readPoints rest with
      | some ps => if ps.length = n.toNat then some (.scan m (le16 s0 s1) ps) else none
      | none => none
    | _ => none
  | .trigger => match b with | [h, d0, d1] => some (.trigger h (le16 d0 d1)) | _ => none
  | .wait => match b with | [d0, d1] => some (.wait (le16 d0 d1)) | _ => none
  | .flush => match b with | [] => some .flush | _ => none

/-- LINK's checks of a STEP: step kind above 8 gives BAD_FIELD, then the length (R189). -/
def checkStep : List Byte → Except ReplyCode Request
  | [] => .error .badLength
  | k :: rest =>
    match stepNamed k with
    | none => .error .badField
    | some k =>
      match readStep k rest with
      | some r => .ok (.step r)
      | none => .error .badLength

/-- The fields of a request that is not a STEP; none where the length is wrong for its kind (R196). -/
def readPayload (k : RequestKind) (b : List Byte) : Option Request :=
  match k with
  | .status => if b.isEmpty then some .status else none
  | .step => none
  | .hold => if b.isEmpty then some .hold else none
  | .resume => if b.isEmpty then some .resume else none
  | .abort => if b.isEmpty then some .abort else none
  | .clear => match b with | [x] => some (.clear (x != 0)) | _ => none
  | .reachGet => if b.isEmpty then some .reachGet else none
  | .reachSet =>
    match b with
    | [x, y, z] => some (.reachSet x y (bit z 0) (bit z 1) (bit z 2))
    | _ => none
  | .reachFreeze => if b.isEmpty then some .reachFreeze else none
  | .portGet => match b with | [p] => some (.portGet p) | _ => none
  | .portSet =>
    match b with
    | [p, k, hv, style, w0, w1] => some (.portSet p k (hv != 0) style (le16 w0 w1))
    | _ => none
  | .routeGet => if b.isEmpty then some .routeGet else none
  | .calGet => match b with | [r] => some (.calGet r) | _ => none
  | .calSet => match b with | [r, z0, z1, g0, g1] => some (.calSet r (le16 z0 z1) (le16 g0 g1)) | _ => none
  | .configGet => match b with | [a, n] => some (.configGet a n) | _ => none
  | .configSet => (readPairs b).map .configSet
  | .health => if b.isEmpty then some .health else none
  | .countGet => match b with | [l, f0, f1, n] => some (.countGet l (le16 f0 f1) n) | _ => none
  | .laneRenew => match b with | [l] => some (.laneRenew l) | _ => none
  | .save => if b.isEmpty then some .save else none
  | .reset => match b with | [m] => some (.reset m) | _ => none
  | .time => match b with | [a] => some (.time (a != 0)) | _ => none

/-- LINK's frame checks in order: UNKNOWN_KIND, BAD_FIELD for the step kind, BAD_LENGTH (R189 step 2). -/
def checkFrame (f : Frame) : Except ReplyCode Request :=
  match kindNamed f.kind with
  | none => .error .unknownKind
  | some .step => checkStep f.payload
  | some k =>
    match readPayload k f.payload with
    | some r => .ok r
    | none => .error .badLength

/-! ### The fields of a STEP as numbers in range (R6) -/

/-- A byte as a number below `n`, if it is one. -/
def fin? (n : Nat) (b : Byte) : Option (Fin n) := if h : b.toNat < n then some ⟨b.toNat, h⟩ else none

/-- A MEASURE's or SCAN's fields: BAD_FIELD where a number is above its range. -/
def meterSpec (m : MeterReq) : Option MeterSpec :=
  match fin? 8 m.handle, fin? 6 m.range, fin? 9 m.aperture with
  | some h, some r, some a =>
    some { handle := h, range := r, aperture := a, autorange := m.autorange, raw := m.raw, stop := m.stop,
           limits := m.limits }
  | _, _, _ => none

/-- The accepted form of a STEP; none is BAD_FIELD by the step's own fields (R6). -/
def stepBody : StepReq → Option StepBody
  | .connect h p settle claim pins =>
    match fin? 8 h, fin? 12 p with
    | some h, some p =>
      if pins ≠ [] ∧ pins.length ≤ 16 ∧ pins.Nodup then some (.connect h p settle claim pins) else none
    | _, _ => none
  | .arm h => (fin? 8 h).map .arm
  | .disarm h => (fin? 8 h).map .disarm
  | .release h => (fin? 8 h).map .release
  | .measure m => (meterSpec m).map .measure
  | .scan m settle points =>
    if points ≠ [] ∧ points.length ≤ 64 then (meterSpec m).map fun x => .scan x settle points else none
  | .trigger h d => (fin? 8 h).map fun h => .trigger h d
  | .wait d => some (.wait d)
  | .flush => some .flush

/-! ### Codes (R198, R199) -/

/-- The failure and stop cause code; 0 is none. -/
def failureCode : Option Failure → Nat
  | none => 0
  | some .pinBusy => 1
  | some .portBusy => 2
  | some .handleBusy => 3
  | some .noHandle => 4
  | some .notSource => 5
  | some .notMeter => 6
  | some .portTimeout => 7
  | some .noLane => 8
  | some .triggerTimeout => 9
  | some .verdictStop => 10
  | some .coilFault => 11
  | some .overcurrent => 12
  | some .dischargeTimeout => 13
  | some .hostSilent => 14

/-- The site state code. -/
def SiteState.code : SiteState → Nat
  | .idle => 0 | .running => 1 | .held => 2 | .stopped => 3 | .aborting => 4 | .safing => 5 | .safe => 6

/-- The step outcome code. -/
def StepOutcome.code : StepOutcome → Nat
  | .ok => 0 | .failed => 1 | .aborted => 2

/-- The lane state code. -/
def LaneState.code : LaneState → Nat
  | .free => 0 | .inUse => 1 | .retiring => 2 | .retired => 3

/-- The route state code. -/
def RouteState.code : RouteState → Nat
  | .closing => 0 | .ready => 1 | .live => 2 | .quieting => 3 | .switching => 4 | .opening => 5 | .stuck => 6

/-- The load kind code; 0 is none. -/
def loadCode : Option Load → Nat
  | none => 0
  | some l => match l.kind with | .closing => 1 | .opening => 2 | .hot => 3

/-- The port kind code. -/
def PortKind.code : PortKind → Nat
  | .none => 0 | .source => 1 | .sense => 2

/-- The trigger style code. -/
def TriggerStyle.code : TriggerStyle → Nat
  | .pulse => 0 | .hold => 1

/-- The description of a port as bytes: kind, HV, style, width. -/
def PortDesc.bytes (d : PortDesc) : List Byte :=
  [byte d.kind.code, flag d.hv, byte d.style.code] ++ nat16 d.width

/-- The verdict code. -/
def Verdict.code : Verdict → Nat
  | .none => 0 | .pass => 1 | .marginal => 2 | .low => 3 | .high => 4 | .overrange => 5

/-- The closure cause code. -/
def Cause.code : Cause → Nat
  | .fill => 0 | .flush => 1 | .ended => 2

/-- The LINK_ERROR cause code. -/
def LinkCause.code : LinkCause → Nat
  | .crc => 0 | .length => 1 | .gap => 2 | .overrun => 3

/-- The count source code. -/
def Source.code : Source → Nat
  | .reference => 0 | .oscillator => 1

/-- The clock monitor code. -/
def Monitor.code : Monitor → Nat
  | .present => 0 | .lost => 1 | .qualifying _ => 2

/-- The reply result code. -/
def ReplyCode.code : ReplyCode → Nat
  | .ok => 0 | .badSite => 1 | .noReach => 2 | .siteState => 3 | .queueFull => 4 | .tagInUse => 5 | .badField => 6
  | .outOfReach => 7 | .hvDenied => 8 | .badLimits => 9 | .unknownKind => 10 | .badLength => 11 | .busy => 12
  | .notStopped => 13 | .sequence => 14 | .frozen => 15 | .overlap => 16 | .routesOutside => 17 | .portBusy => 18
  | .dischargeTimeout => 19 | .storeFailed => 20

/-! ### The frames the part sends (R197 to R199) -/

/-- A list as a bit set: bit n for entry n. -/
def bitSet (l : List Nat) : Nat := l.foldl (fun a n => a ||| (1 <<< n)) 0

/-- The bytes of a signed 32-bit value. -/
def int32 (v : Int) : List Byte := bytes32 (BitVec.ofInt 32 v)

/-- A reading record: twenty bytes (R197). -/
def Reading.bytes : Reading → List Byte
  | .meter r =>
    [flags false r.uncertain r.uncal r.raw r.capped (decide (256 ≤ r.clipped)), r.tag, byte r.point, 0]
      ++ nat48 r.stamp ++ int32 r.value ++ [0, 0, 0, 0]
      ++ [byte (r.range.val + 8 * r.verdict.code + 64 * r.retries), byte r.clipped]
  | .mark r =>
    [flags true r.uncertain false false false false, r.tag, 0, byte r.port.val]
      ++ nat48 r.stamp ++ [0, 0, 0, 0] ++ nat32 r.elapsed ++ [0, 0]

/-- A RESULT payload: the block header and the records (R197). -/
def Block.payload (b : Block) : List Byte :=
  bytes16 b.seq ++ [byte b.cause.code, byte b.records.length] ++ (b.records.map Reading.bytes).flatten

/-- A DONE payload (R198). -/
def DoneFrame.payload (d : DoneFrame) : List Byte :=
  [byte d.outcome.code, byte (failureCode d.failure), byte d.point, byte d.residual, flag d.lastSeq.isSome]
    ++ bytes16 (d.lastSeq.getD 0) ++ [byte d.discarded.length] ++ d.discarded

/-- The data of a notice (R198). -/
def Notice.data : Notice → List Byte
  | .siteState i st c => [siteByte i, byte st.code, byte (failureCode c)]
  | .laneFault l i h p a b => [byte l.val, siteByte i, byte h.val, byte p.val] ++ nat48 a ++ nat48 b
  | .laneRetired l e life n => [byte l.val, flag e, byte life] ++ nat16 n
  | .health low life spares => [flag low, byte life, byte spares]
  | .storeFault it w => [byte it.val, flag w]
  | .linkError c t => byte c.code :: nat48 t
  | .strayDone p t => byte p.val :: nat48 t
  | .clock src t => byte src.code :: nat48 t
  | .hostSilent t sites => nat48 t ++ [byte (bitSet (sites.map Fin.val))]

/-- A NOTICE payload (R198). -/
def NoticeEntry.payload (e : NoticeEntry) : List Byte :=
  [byte e.notice.kind.val, flag e.repeated] ++ e.notice.data

/-- The bytes of a frame the part sends (R186, R196): KIND, TAG and SITE as its kind gives, NOTICE with SITE 0xFF
(log entry 32). -/
def TxFrame.bytes : TxFrame → List Byte
  | .reply r => frameBytes 0x80 r.tag r.site ([r.kind, byte r.code.code] ++ r.data)
  | .done d => frameBytes 0x81 d.tag (siteByte d.site) d.payload
  | .notice e => frameBytes 0x82 0 partByte e.payload
  | .result b => frameBytes 0x83 0 (siteByte b.site) b.payload

end Sys2Proof.Machine
end

