-- ==== Sys2Proof/Machine/Flags.lean ====
section
/-! DEFINITION. The computed values and flags: the meter's conversion, verdict and autorange (chapter 5), a SCAN's point
index and residual (R126), and the life figures and health attributes (chapter 8). -/

namespace Sys2Proof.Machine

/-! ### The meter (R94 to R109) -/

/-- The weight W of a range (R94). -/
def weight : Range → Int
  | 0 => 1
  | 1 => 10
  | 2 => 100
  | 3 => 1000
  | 4 => 1
  | 5 => 100

/-- The next range up in the same family (R94). -/
def nextUp : Range → Option Range
  | 0 => some 1
  | 1 => some 2
  | 2 => some 3
  | 3 => none
  | 4 => some 5
  | 5 => none

/-- The clip stage: a sample limited to −C to +C (R100). -/
def clipSample (c s : Int) : Int := if s > c then c else if s < -c then -c else s

/-- The sample is clipped at clip level C (R100). -/
def isClipped (c s : Int) : Bool := decide (s > c ∨ s < -c)

/-- The mean stage: S / N to the nearest integer, halves toward plus infinity (R102). -/
def meanStage (n : Nat) (s : Int) : Int := if n = 1 then s else Int.fdiv (s + (n / 2 : Nat)) n

/-- The gain stage: m × G / 32,768 to the nearest integer, halves away from zero (R103). -/
def gainStage (m : Int) (g : Nat) : Int :=
  let p := m * g
  if p < 0 then -(((p.natAbs + 16384) / 32768 : Nat) : Int) else (((p.natAbs + 16384) / 32768 : Nat) : Int)

/-- The scale stage (R104). -/
def scaleStage (r : Range) (q : Int) : Int := q * weight r

/-- The verdict stage (R105): clipped count, limits, value. -/
def verdictOf (k : Nat) (limits : Option Limits) (v : Int) : Verdict :=
  if k > 0 then .overrange
  else
    match limits with
    | none => .none
    | some l =>
      if v < l.lo.toInt then .low
      else if v > l.hi.toInt then .high
      else if v < l.lo.toInt + l.gb.toNat ∨ v > l.hi.toInt - l.gb.toNat then .marginal
      else .pass

/-- The verdict is in the stop set (R123); NONE and PASS never are. -/
def StopSetHas (t : StopSet) : Verdict → Bool
  | .low => t.low
  | .high => t.high
  | .marginal => t.marginal
  | .overrange => t.overrange
  | .none => false
  | .pass => false

/-- The range an acquisition is retried on at the end of a clipped pass, if autorange may move up (R107). -/
def retryRange (a : Acquisition) : Option Range :=
  if a.clipped > 0 ∧ a.autorange then
    match nextUp a.range with
    | some r => if r = 3 ∧ !a.hv then none else some r
    | none => none
  else none

/-- The CAPPED flag of a final pass (R109). -/
def cappedFlag (a : Acquisition) : Bool := decide (a.clipped > 0) && a.autorange && (retryRange a).isNone

/-- The zero offset in force: 0 with the raw flag (R101, R106). -/
def offsetOf (a : Acquisition) : Int := if a.raw then 0 else a.cal[a.range].z

/-- The gain trim in force: 32,768 with the raw flag (R103, R106). -/
def gainOf (a : Acquisition) : Nat := if a.raw then 32768 else a.cal[a.range].g

/-- The value v of a final pass (R102 to R104). -/
def valueOf (a : Acquisition) : Int :=
  scaleStage a.range (gainStage (meanStage (2 ^ a.aperture.val) a.sum) (gainOf a))

/-- The reading of a final pass (R110). -/
def readingOf (a : Acquisition) : MeterReading :=
  { tag := a.tag, point := a.point, stamp := a.last % 2 ^ 48, uncertain := a.lastUncertain,
    uncal := a.cal[a.range].uncal, raw := a.raw, capped := cappedFlag a, range := a.range, value := valueOf a,
    verdict := verdictOf a.clipped a.limits (valueOf a), clipped := a.clipped, retries := a.retries }

/-- One sample into the pass: clip, offset, sum, counts and last sample time (R99 to R101). -/
def takeSample (a : Acquisition) (s : Int) (now : Nat) (uncertain : Bool) : Acquisition :=
  { a with
    taken := a.taken + 1
    sum := a.sum + (clipSample a.clip s - offsetOf a)
    clipped := a.clipped + (isClipped a.clip s).toNat
    last := now
    lastUncertain := uncertain }

/-! ### SCAN figures (R126) -/

/-- Point index and residual in a SCAN's DONE: `n` points, the point at which it ended, how it ended. -/
def scanFigures (n point : Nat) (o : StepOutcome) (f : Option Failure) : Nat × Nat :=
  match o, f with
  | .ok, _ => (n - 1, 0)
  | .failed, some .verdictStop => (point, n - 1 - point)
  | _, _ => (point, n - point)

/-! ### Port descriptions (R31) -/

/-- The nearest of the eight pulse widths, the larger at a midpoint (R31). -/
def clampWidth (w : Nat) : Nat :=
  if 2 * w < 3 then 1
  else if 2 * w < 7 then 2
  else if 2 * w < 15 then 5
  else if 2 * w < 30 then 10
  else if 2 * w < 70 then 20
  else if 2 * w < 150 then 50
  else if 2 * w < 300 then 100
  else 200

/-! ### Clamping of settings (R114, R180) -/

/-- Clamp to a range. -/
def clampNat (lo hi n : Nat) : Nat := max lo (min hi n)

/-- Clamp a signed number to a range. -/
def clampInt (lo hi n : Int) : Int := max lo (min hi n)

/-- A configuration value clamped as R180 lays down for item `i`. -/
def clampConfig (i : Fin 16) (v : BitVec 32) : BitVec 32 :=
  let num := fun lo hi => BitVec.ofNat 32 (clampNat lo hi v.toNat)
  let dur : BitVec 16 := if v.toNat > 65535 then 0xFFFF else v.setWidth 16
  match i.val with
  | 0 => num 1 32
  | 1 => dur.setWidth 32
  | 2 => v &&& 0x1FF
  | 3 => num 1 16
  | 4 => num 1000 4000000000
  | 5 => num 0 100
  | 6 => num 0 100
  | 7 => num 1 1000
  | 8 => dur.setWidth 32
  | 9 => dur.setWidth 32
  | 10 => dur.setWidth 32
  | 11 => if Duration.value dur < 100 then 100 else dur.setWidth 32
  | 12 => if v = 0 then 0 else 1
  | 13 => num 1024 131071
  | 14 => if Duration.value dur < 5 then 5 else if Duration.value dur > 10000 then 10000 else dur.setWidth 32
  | _ => num 64 65535

/-! ### Life and health (R154 to R158) -/

/-- A lane's life percentage from RATED_LIFE and c_max (R154). -/
def lifePercent (rated cmax : Nat) : Nat := 100 * (rated - min cmax rated) / rated

/-- A lane is in service (R155). -/
def LaneState.inService : LaneState → Bool
  | .retired => false
  | _ => true

/-- The lanes in service. -/
def State.serviceLanes (s : State) : List LaneId := allLanes.filter fun l => (s.lanes[l].state).inService

/-- LIFE: the least life among the lanes in service, 0 when there is none (R155). -/
def State.leastLife (s : State) : Nat :=
  match s.serviceLanes with
  | [] => 0
  | l :: ls => ls.foldl (fun m x => min m s.health.lanes[x].life) s.health.lanes[l].life

/-- SPARES (R155). -/
def sparesOf (inService need : Nat) : Nat := inService - need

/-- SPARE_PCT (R155). -/
def sparePctOf (spares need : Nat) : Nat := if need < 16 then 100 * spares / (16 - need) else 100

/-- STATE is LOW (R157). -/
def stateLow (life threshold need spares inService : Nat) : Bool :=
  decide (life < threshold) || (decide (need < 16) && decide (spares = 0))
    || (decide (need = 16) && decide (inService < 16))

/-- Some lane in service has a life at or below LEVEL_THRESHOLD (R158). -/
def State.levelReached (s : State) : Bool :=
  s.serviceLanes.any fun l => decide (s.health.lanes[l].life ≤ s.levelThreshold)

end Sys2Proof.Machine
end

