-- ==== Sys2Proof/Machine/Store.lean ====
section
/-! DEFINITION. STORE: store items, writes and the requests that wait on them (chapter 10). -/

namespace Sys2Proof.Machine

/-- The item a content belongs to (R175). -/
def ItemContent.item : ItemContent → ItemId
  | .lane l _ _ => laneItem l
  | .config .. => configItem
  | .cal _ => calItem
  | .reach _ => reachItem
  | .health _ => healthItem

/-- An item's content from its RAM copy as it stands (R177). -/
def State.itemContent (it : ItemId) (s : State) : ItemContent :=
  if h : it.val < 16 then
    .lane ⟨it.val, h⟩ (s.health.lanes[(⟨it.val, h⟩ : LaneId)]).counts (s.health.lanes[(⟨it.val, h⟩ : LaneId)]).marks
  else if it = configItem then .config s.store.config (s.ports.map Port.desc)
  else if it = calItem then .cal (s.meter.cal.map fun c => { c with uncal := false })
  else if it = reachItem then .reach (s.sites.map Site.retained)
  else .health s.health.record

/-! ### The bytes an item's check covers (R175; their order is log entry 16) -/

/-- A lane record: its 268 counts, then one byte for each relay that tells whether it is marked. -/
def laneRecordBytes (r : Counts × List Relay) : List Byte :=
  ((List.range 268).map fun k => nat32 (r.1.get (Fin.ofNat 268 k))).flatten
    ++ (List.range 268).map fun k => flag (r.2.contains (Fin.ofNat 268 k))

/-- The CONFIG item: the sixteen values, then the descriptions of ports 1 to 11. -/
def configRecordBytes (r : ConfigItems × Vector PortDesc 12) : List Byte :=
  (r.1.toList.map bytes32).flatten ++ (r.2.toList.tail.map PortDesc.bytes).flatten

/-- The CAL item: Z and G of the six ranges. -/
def calRecordBytes (r : Vector Cal 6) : List Byte :=
  (r.toList.map fun c => bytes16 (BitVec.ofInt 16 c.z) ++ nat16 c.g).flatten

/-- A retained reach: first pin, last pin and flags; an empty reach has 0 for its pins. -/
def reachRecordBytes (r : Vector Reach 4) : List Byte :=
  (r.toList.map fun x => match x.range with
    | some (a, b) => [a, b, flags false x.hv false false false false]
    | none => [0, 0, flags true x.hv false false false false]).flatten

/-- The HEALTH record. -/
def healthRecordBytes (r : HealthRecord) : List Byte :=
  [byte r.lifeWorst, flag r.latch] ++ nat32 r.hotOps ++ nat32 r.coilFaults ++ nat32 r.ocFaults

/-- An item as the store takes it, with the CRC-16 of its content (R175). -/
def Item.write {α : Type} (bytes : α → List Byte) (c : α) : Item α := { content := c, check := crc16 (bytes c) }

/-- The content of an item that matches its check (R175). -/
def Item.read {α : Type} (bytes : α → List Byte) (x : Item α) : Option α :=
  if x.check = crc16 (bytes x.content) then some x.content else none

/-- An item whose content no longer matches its check (R178, log entry 16). -/
def Item.spoil {α : Type} (bytes : α → List Byte) (x : Item α) : Item α :=
  { x with check := ~~~crc16 (bytes x.content) }

/-- The stored items with a content written (R177). -/
def Stored.put (c : ItemContent) (n : Stored) : Stored :=
  match c with
  | .lane l counts marks => { n with lanes := upd n.lanes l fun _ => Item.write laneRecordBytes (counts, marks) }
  | .config items ports => { n with config := Item.write configRecordBytes (items, ports) }
  | .cal r => { n with cal := Item.write calRecordBytes r }
  | .reach r => { n with reach := Item.write reachRecordBytes r }
  | .health r => { n with health := Item.write healthRecordBytes r }

/-- The stored items with one item spoilt: it fails its check (R178). -/
def Stored.spoil (c : ItemContent) (n : Stored) : Stored :=
  match c with
  | .lane l _ _ => { n with lanes := upd n.lanes l (Item.spoil laneRecordBytes) }
  | .config .. => { n with config := n.config.spoil configRecordBytes }
  | .cal _ => { n with cal := n.cal.spoil calRecordBytes }
  | .reach _ => { n with reach := n.reach.spoil reachRecordBytes }
  | .health _ => { n with health := n.health.spoil healthRecordBytes }

/-! ### What the store hands over at a start-up (R182) -/

/-- A lane record that passes its check. -/
def Stored.readLane (n : Stored) (l : LaneId) : Option (Counts × List Relay) := n.lanes[l].read laneRecordBytes

/-- The CONFIG item if it passes its check. -/
def Stored.readConfig (n : Stored) : Option (ConfigItems × Vector PortDesc 12) := n.config.read configRecordBytes

/-- The CAL item if it passes its check. -/
def Stored.readCal (n : Stored) : Option (Vector Cal 6) := n.cal.read calRecordBytes

/-- The REACH item if it passes its check. -/
def Stored.readReach (n : Stored) : Option (Vector Reach 4) := n.reach.read reachRecordBytes

/-- The HEALTH record if it passes its check. -/
def Stored.readHealth (n : Stored) : Option HealthRecord := n.health.read healthRecordBytes

/-- The item fails its check (R175). -/
def Stored.fails (n : Stored) (it : ItemId) : Bool :=
  if h : it.val < 16 then (n.readLane ⟨it.val, h⟩).isNone
  else if it = configItem then n.readConfig.isNone
  else if it = calItem then n.readCal.isNone
  else if it = reachItem then n.readReach.isNone
  else n.readHealth.isNone

/-- What a write that is cut off leaves in the store (R178): `cut` is the medium's outcome (log entry 9). -/
def Stored.cutOff (w : Option Write) (cut : CutOff) (n : Stored) : Stored :=
  match w, cut with
  | none, _ => n
  | some _, .earlier => n
  | some w, .new => n.put w.content
  | some w, .mixture => n.spoil w.content

/-- An owner has changed an item's RAM copy: its differs flag is set, and a write of it in flight is outdated (R176). -/
def State.touch (it : ItemId) (s : State) : State :=
  s.modStore fun t =>
    { t with
      differs := upd t.differs it fun _ => true
      inFlight := t.inFlight.map fun w => if w.content.item = it then { w with changed := true } else w }

/-- Touch an item if its RAM copy changed. -/
def State.touchIf (c : Bool) (it : ItemId) (s : State) : State := if c then s.touch it else s

/-- Begin the write of the oldest pending item if no write is in flight (R177). A lane's unsaved-operation sum becomes 0
(R152). No write begins between a FULL reset's reply and its start-up (R184). -/
def State.beginWrite (s : State) : State :=
  match s.store.inFlight, s.store.pendingWrites with
  | none, it :: rest =>
    if s.inPhase .startup then s
    else
      let s := s.modStore fun t =>
        { t with
          pendingWrites := rest
          inFlight := some { content := s.itemContent it, changed := false }
          awaits := t.awaits.map fun a => if a.item = it then { a with begun := true } else a }
      if h : it.val < 16 then s.modWear ⟨it.val, h⟩ fun x => { x with unsaved := 0 } else s
  | _, _ => s

/-- An item becomes due: it joins the tail of the pending-write set unless it is there, and its write begins at once if
no write is in flight (R177). -/
def State.due (it : ItemId) (s : State) : State :=
  (if s.store.pendingWrites.contains it then s
    else s.modStore fun t => { t with pendingWrites := t.pendingWrites ++ [it] }).beginWrite

/-- The store is busy (R177). -/
def State.storeBusy (s : State) : Bool := s.store.inFlight.isSome || !s.store.pendingWrites.isEmpty

/-- A store request of this owner is in flight. -/
def State.hasReq (o : Owner) (s : State) : Bool := s.store.reqs.any fun r => decide (r.owner = o)

/-- The three bytes of a reach (R199): first pin, last pin and flags, the third flag as given. For an empty reach the pins
are free bytes, `n` and `n + 1` from here (log entry 7). -/
def State.reachBytes (r : Reach) (third : Bool) (n : Nat) (s : State) : List Byte :=
  match r.range with
  | some (a, b) => [a, b, flags false r.hv third false false false]
  | none => [s.freeByte n, s.freeByte (n + 1), flags true r.hv third false false false]

/-- A site's working reach as three bytes. -/
def State.workingBytes (i : SiteId) (n : Nat) (s : State) : List Byte :=
  s.reachBytes s.sites[i].reach s.sites[i].retainedFlag n

/-- The list of failed items of a reply (R199). -/
def failedBytes (l : List ItemId) : List Byte := byte l.length :: l.map fun it => byte it.val

/-- The site states as four bytes. -/
def stateBytes (v : Vector SiteState 4) : List Byte := v.toList.map fun st => byte st.code

/-- Answer a store request whose awaited writes are done (R25, R164, R179, R184). -/
def State.answerReq (r : StoreReq) (s : State) : State :=
  let code : ReplyCode := if r.failed.isEmpty then .ok else .storeFailed
  match r.owner with
  | .reachSet i =>
    if r.failed.isEmpty then (s.reply 0x08 r.tag (siteByte i) .ok (s.workingBytes i 0)).drew 2
    else s.reply 0x08 r.tag (siteByte i) .storeFailed []
  | .laneRenew l => s.reply 0x13 r.tag partByte code [byte l.val]
  | .save => s.reply 0x14 r.tag partByte code (failedBytes r.failed)
  | .fullReset =>
    let s := s.replyWith
      { kind := 0x15, tag := r.tag, site := partByte, code := code,
        data := [1] ++ stateBytes (s.sites.map Site.state) ++ failedBytes r.failed, fullReset := true }
    { s with resetReq := s.resetReq.map fun q => { q with phase := .reply } }

/-- A timed request begins to wait for the next writes of `items` (R177). -/
def State.await (r : StoreReq) (items : List ItemId) (s : State) : State :=
  s.modStore fun t =>
    { t with
      reqs := t.reqs ++ [r]
      awaits := t.awaits ++ items.map fun it => { owner := r.owner, item := it, begun := false } }

/-- Take a save list: every item whose differs flag is set (R179). With an empty list the request is answered at
once. -/
def State.takeSave (o : Owner) (tag : Byte) (s : State) : State :=
  let list := allItems.filter fun it => s.store.differs[it]
  let r : StoreReq := { owner := o, tag := tag, failed := [] }
  if list.isEmpty then s.answerReq r else forEach list State.due (s.await r list)

/-- The await is one the present write answers. -/
def Await.hit (it : ItemId) (a : Await) : Bool := decide (a.item = it) && a.begun

/-- Note the write's result for the requests that waited on it and answer those that wait no longer (R177, R178). DESIGN
CHOICE, unsafe (log entry 39): where one done answers several requests, their replies are built in the order in which the
requests began to wait, oldest first; R177 and R190 give none. -/
def State.settleAwaits (it : ItemId) (ok : Bool) (s : State) : State :=
  let hits := (s.store.awaits.filter (Await.hit it)).map Await.owner
  let rest := s.store.awaits.filter fun a => !a.hit it
  let reqs := s.store.reqs.map fun r =>
    if !ok && hits.contains r.owner then { r with failed := r.failed ++ [it] } else r
  let isReady := fun r : StoreReq => hits.contains r.owner && !(rest.any fun a => decide (a.owner = r.owner))
  let s := s.modStore fun t => { t with awaits := rest, reqs := reqs.filter fun r => !isReady r }
  forEach (reqs.filter isReady) State.answerReq s

/-- The end of the write in flight, with the result of its read-back verification (R176 to R178). -/
def State.writeDone (ok : Bool) (s : State) : State :=
  match s.store.inFlight with
  | none => s
  | some w =>
    let it := w.content.item
    let s := s.modStore fun t => { t with inFlight := none }
    let s :=
      if ok then
        s.modStore fun t => { t with stored := t.stored.put w.content, differs := upd t.differs it fun _ => w.changed }
      else s.notice (.storeFault it true)
    (s.settleAwaits it ok).beginWrite

end Sys2Proof.Machine
end

