-- ==== Sys2Proof/Machine/Health.lean ====
section
/-! DEFINITION. HEALTH: wear counting, life, health attributes, condemnation and retirement (chapter 8). -/

namespace Sys2Proof.Machine

/-- Compute the life percentage of a lane (R154). -/
def State.computeLife (l : LaneId) (s : State) : State :=
  s.modWear l fun x => { x with life := lifePercent s.ratedLife x.counts.largest }

/-- Recompute LIFE, IN_SERVICE, SPARES, SPARE_PCT, STATE, LIFE_WORST and the leveling latch; a change of STATE raises a
HEALTH notice (R156 to R158). -/
def State.recompute (s : State) : State :=
  let life := s.leastLife
  let inService := s.serviceLanes.length
  let spares := sparesOf inService s.laneNeed
  let low := stateLow life s.lifeThreshold s.laneNeed spares inService
  let old := s.health.low
  let s := s.modHealth fun h =>
    { h with
      life := life
      inService := inService
      spares := spares
      sparePct := sparePctOf spares s.laneNeed
      low := low
      record := { h.record with lifeWorst := min h.record.lifeWorst life, latch := h.record.latch || s.levelReached } }
  if low = old then s else s.notice (.health low life spares)

/-- The HEALTH record joins the pending-write set if one of its figures is no longer as in `old` (R153). -/
def State.healthDue (old : HealthRecord) (s : State) : State :=
  if s.health.record = old then s else (s.touch healthItem).due healthItem

/-- A lane enters RETIRED other than at start-up: LANE_RETIRED notice and recomputation (R160). -/
def State.retire (l : LaneId) (s : State) : State :=
  let s := s.modLane l fun x => { x with state := .retired }
  let w := s.health.lanes[l]
  (s.notice (.laneRetired l w.marks.isEmpty w.life w.marks.length)).recompute

/-- MATRIX acts on a condemnation (R47). -/
def State.condemn (l : LaneId) (s : State) : State :=
  match s.lanes[l].state with
  | .free => s.retire l
  | .inUse => s.modLane l fun x => { x with state := .retiring }
  | .retiring => s
  | .retired => s

/-- The end-of-life check of a lane (R159). -/
def State.endOfLife (l : LaneId) (s : State) : Bool :=
  s.retireAtEnd && decide (s.health.lanes[l].life = 0)
    && (decide (s.lanes[l].state = .free) || decide (s.lanes[l].state = .inUse))

/-- Condemn a lane at the end of its life (R159). -/
def State.checkEndOfLife (l : LaneId) (s : State) : State := if s.endOfLife l then s.condemn l else s

/-- Add `n` operations to each relay of a list: the new counts and the increase actually made (R150). -/
def chargeRelays (n : Nat) : List Relay → Counts → Counts × Nat
  | [], c => (c, 0)
  | r :: rs, c =>
    let old := c.get r
    let new := satAdd old n
    let (c', inc) := chargeRelays n rs (c.put r new)
    (c', inc + (new - old))

/-- The operations a load adds to each relay, and the relays concerned (R150). -/
def State.loadCharge (ld : Load) (s : State) : Nat × List Relay :=
  match ld.kind with
  | .closing => (1, ld.closes)
  | .hot => (s.hotWeight, ld.opens)
  | .opening => (0, [])

/-- HEALTH's report of a load done (R149): marks, counts, life, condemnation, autosave, attributes, in this order. -/
def State.healthLoad (l : LaneId) (ld : Load) (readback : List Relay) (s : State) : State :=
  let old := s.health.record
  let wear := s.health.lanes[l]
  let fresh := (addRelays readback []).filter fun r => !wear.marks.contains r
  let (each, relays) := s.loadCharge ld
  let (counts, inc) := chargeRelays each relays wear.counts
  let hot := if ld.kind = .hot then ld.opens.length else 0
  let s := s.modWear l fun x =>
    { x with marks := addRelays fresh x.marks, counts := counts, unsaved := satAdd x.unsaved inc }
  let s := s.modHealth fun h =>
    { h with record := { h.record with coilFaults := satAdd h.record.coilFaults fresh.length,
                                        hotOps := satAdd h.record.hotOps hot } }
  let s := (s.touchIf (decide (inc ≠ 0) || !fresh.isEmpty) (laneItem l)).computeLife l
  let s := if readback.isEmpty then s.checkEndOfLife l else s.condemn l
  let s :=
    if !fresh.isEmpty || decide (s.autosaveThreshold ≤ s.health.lanes[l].unsaved) then s.due (laneItem l) else s
  s.recompute.healthDue old

/-- Every lane's life from the RATED_LIFE in force (R154). -/
def State.computeLives (s : State) : State := forEach allLanes State.computeLife s

/-- HEALTH counts an overcurrent fault (R83 step 2, R153). -/
def State.countOvercurrent (s : State) : State :=
  (s.modHealth fun h => { h with record := { h.record with ocFaults := satAdd h.record.ocFaults 1 } }).healthDue
    s.health.record

end Sys2Proof.Machine
end

