-- ==== Sys2Proof/Machine/Results.lean ====
section
/-! DEFINITION. RESULTS: open blocks, closure, placement and the outbound result queue (chapter 7). -/

namespace Sys2Proof.Machine

/-- Close a site's open block (R138): it takes the site's next sequence and joins the outbound queue, or the closed-block
waiting list. Only a block with a record closes. -/
def State.closeBlock (i : SiteId) (c : Cause) (s : State) : State :=
  match s.results.sites[i].pos with
  | .opened _ (r :: rs) =>
    let seq := s.results.sites[i].nextSeq
    let b : Block := { site := i, seq := seq, cause := c, records := r :: rs }
    let direct := decide (s.results.outbound.length < Config.outboundDepth) && s.results.waiting.isEmpty
    let s := s.modRes i fun x =>
      { x with nextSeq := seq + 1, lastSeq := some seq, pos := if direct then .empty else .closedWaiting }
    if direct then { s with results := { s.results with outbound := s.results.outbound ++ [b] } }
    else { s with results := { s.results with waiting := s.results.waiting ++ [b] } }
  | _ => s

/-- Place a reading of a site whose reservation is set: open a block if there is none, append, and close it with FILL at
its capacity, in its turn among the blocks that close at this event (R137, R138). -/
def State.place (i : SiteId) (r : Reading) (s : State) : State :=
  let x := s.results.sites[i]
  if x.reserved then
    match x.pos with
    | .empty =>
      let s' := s.modRes i fun x => { x with pos := .opened s.blockFill [r], reserved := false }
      if s.blockFill ≤ 1 then s'.noteClosure i .fill else s'
    | .opened cap rs =>
      let s' := s.modRes i fun x => { x with pos := .opened cap (rs ++ [r]), reserved := false }
      if cap ≤ rs.length + 1 then s'.noteClosure i .fill else s'
    | .closedWaiting => s
  else s

/-- Give back a site's reservation (R136). -/
def State.giveBack (i : SiteId) (s : State) : State := s.modRes i fun x => { x with reserved := false }

/-- Discard every block, reservation and sequence at a RUN reset (R145). -/
def State.discardResults (s : State) : State :=
  { s with results := { sites := Vector.replicate 4 .fresh, outbound := [], waiting := [] } }

end Sys2Proof.Machine
end

