-- ==== Sys2Proof/Machine/Steps.lean ====
section
/-! DEFINITION. A site's running step: its DONE, the completion queue, and its end OK or by a logic failure (R8 to R11,
R126, R192). -/

namespace Sys2Proof.Machine

/-- The ACTIVE running step of a site with its phase and point index. -/
def State.active (i : SiteId) (s : State) : Option (Step × Phase × Nat) :=
  match s.sites[i].queue, s.sites[i].running with
  | st :: _, some ⟨.active ph, pt⟩ => some (st, ph, pt)
  | _, _ => none

/-- Set the phase of the ACTIVE running step. -/
def State.setPhase (i : SiteId) (ph : Phase) (s : State) : State :=
  s.modSite i fun x => { x with running := x.running.map fun r => { r with progress := .active ph } }

/-- Set a site's state. -/
def State.setSite (i : SiteId) (st : SiteState) (s : State) : State := s.modSite i fun x => { x with state := st }

/-- The DONE frame of a step (R10, R126, R142): point index and residual for a SCAN only, the last block sequence for a
FLUSH that ended OK only. -/
def makeDone (i : SiteId) (st : Step) (point : Nat) (o : StepOutcome) (f : Option Failure) (seq : Option (BitVec 16))
    (disc : List Byte) : DoneFrame :=
  let fig := match st.body with
    | .scan _ _ pts => scanFigures pts.length point o f
    | _ => (0, 0)
  { site := i, tag := st.tag, outcome := o, failure := f, point := fig.1, residual := fig.2,
    lastSeq := match st.body with
      | .flush => if o = .ok then seq else none
      | _ => none
    discarded := disc }

/-- The site goes on after its DONE has entered the completion queue: HELD, IDLE, or it looks to its head step
(R9, R10). -/
def State.siteMovesOn (i : SiteId) (s : State) : State :=
  match s.sites[i].state with
  | .running =>
    if s.sites[i].held then s.setSite i .held
    else if s.sites[i].queue.isEmpty then s.setSite i .idle
    else s.push (.next i)
  | .idle => s.push (.next i)
  | _ => s

/-- A DONE enters the completion queue: the ENDED step leaves the head of its site's queue (R8). The DONE of the step behind
it, if that step carried a fault, then waits in its turn (log entry 11). -/
def State.enterDone (d : DoneFrame) (s : State) : State :=
  let s := s.modLink fun k => { k with completion := k.completion ++ [d] }
  match s.sites[d.site].carried with
  | c :: cs =>
    let s := s.modSite d.site fun x =>
      { x with queue := x.queue.tail, running := some ⟨.ended, 0⟩, carried := cs }
    (s.modLink fun k => { k with doneWaiting := k.doneWaiting ++ [c] }).push .admitDone
  | [] => (s.modSite d.site fun x => { x with queue := x.queue.tail, running := none }).siteMovesOn d.site

/-- The completion queue has a free entry. -/
def State.completionFree (s : State) : Bool := decide (s.link.completion.length < Config.completionDepth)

/-- A DONE in its turn among those built at this event enters the completion queue at once if it has a free entry and no other
DONE waits; otherwise it joins the completion waiting list (R192). -/
def State.handleDone (d : DoneFrame) (s : State) : State :=
  if s.completionFree && s.link.doneWaiting.isEmpty then s.enterDone d
  else s.modLink fun k => { k with doneWaiting := k.doneWaiting ++ [d] }

/-- Admit the oldest waiting DONE into a free entry of the completion queue (R192). -/
def State.admitDone (s : State) : State :=
  match s.link.doneWaiting with
  | d :: ds => if s.completionFree then (s.modLink fun k => { k with doneWaiting := ds }).enterDone d else s
  | [] => s

/-- The head step becomes ENDED and its DONE is built (R10); it is handled at this event, in ascending site order (R192, log
entry 36). -/
def State.finishStep (i : SiteId) (o : StepOutcome) (f : Option Failure) (seq : Option (BitVec 16)) (disc : List Byte)
    (s : State) : State :=
  match s.sites[i].queue, s.sites[i].running with
  | st :: _, some r =>
    (s.modSite i fun x => { x with running := some { r with progress := .ended } }).push
      (.done (makeDone i st r.point o f seq disc))
  | _, _ => s

/-- The running step ends OK (R10); a FLUSH reports the site's last closed sequence (R142). -/
def State.endOk (i : SiteId) (s : State) : State :=
  s.finishStep i .ok none s.results.sites[i].lastSeq []

/-- The tags of the steps behind the head of a site's queue. -/
def Site.tailTags (x : Site) : List Byte := x.queue.tail.map Step.tag

/-- How many steps at the head of a site's queue have started: the running step and the ENDED steps whose DONE waits behind
it (log entry 11). -/
def Site.begunSteps (x : Site) : Nat := if x.running.isSome then 1 + x.carried.length else 0

/-- The running step fails with a logic failure, and its site's open block closes with END (R11, R140). -/
def State.failLogic (i : SiteId) (f : Failure) (s : State) : State :=
  let disc := s.sites[i].tailTags
  let s := s.modSite i fun x =>
    { x with queue := x.queue.take 1, held := false, state := .stopped, stopCause := some f, claimTimer := none }
  (s.finishStep i .failed (some f) none disc).noteClosure i .ended

end Sys2Proof.Machine
end

