-- ==== Sys2Proof/Machine/Matrix.lean ====
section
/-! DEFINITION. MATRIX and PORTS: chain loads, quiet checks, lane allocation, claims and their grants (chapters 2, 3, 4). -/

namespace Sys2Proof.Machine

/-! ### Waits and loads -/

/-- The task of a lane wait whose timer was started with count 0. -/
def waitTask (k : WaitKind) (l : LaneId) : Task :=
  match k with
  | .operate => .operateExpired l
  | .settle => .settleExpired l
  | .release => .releaseExpired l

/-- Start an operate, settle or release wait on a lane (R51). -/
def State.startWait (l : LaneId) (k : WaitKind) (d : Duration) (s : State) : State :=
  (s.modLane l fun x => { x with wait := some { kind := k, timer := Timer.begin d s.time.now } }).pushIfZero d
    (waitTask k l)

/-- The pin relays commanded closed on a lane. -/
def Lane.pinRelays (x : Lane) : List Relay := x.closed.filter fun r => decide (r.val < 256)

/-- A chain load begins: the commanded pattern takes its new values and the load is in flight (R48). -/
def State.beginLoad (l : LaneId) (ld : Load) (s : State) : State :=
  s.modLane l fun x =>
    { x with closed := addRelays ld.closes (dropRelays ld.opens x.closed), load := some ld, quiet := none }

/-- A CLEAR is in flight at the site whose route the lane holds. -/
def State.clearing (l : LaneId) (s : State) : Bool :=
  match s.lanes[l].route with
  | some r => s.sites[r.site].clear.isSome
  | none => false

/-- The quiet waits of a lane are those of a FULL reset's opening of STUCK routes, which have no bound (R73). Those of a
CLEAR still in flight are that CLEAR's, with its bound (R20, log entry 37). -/
def State.unbounded (l : LaneId) (s : State) : Bool := s.inPhase .stuck && !s.clearing l

/-- A quiet wait of `a` begins on a lane, with the discharge timer (R77), or without one in a FULL reset's opening of STUCK
routes (R73). -/
def State.startQuiet (l : LaneId) (a : QuietAction) (s : State) : State :=
  s.modLane l fun x =>
    { x with quiet := some { action := a, timer := if s.unbounded l then none
                                                   else some (Timer.begin s.dischargeTimeout s.time.now) } }

/-- The quiet check before a closing or opening load (R49): the load begins, or it becomes the lane's quiet wait. -/
def State.loadWhenQuiet (l : LaneId) (ld : Load) (s : State) : State :=
  if s.isLive l then s.startQuiet l (.load ld) else s.beginLoad l ld

/-- The next opening load of a lane: its pins, or its port relay once no pin is closed (R66). -/
def Lane.openLoad (x : Lane) (k : LoadKind) : Load :=
  { kind := k, closes := [], opens := if x.pinRelays.isEmpty then x.closed else x.pinRelays }

/-- The next load of an opening sequence, behind its quiet check (R66). -/
def State.openingStep (l : LaneId) (s : State) : State := s.loadWhenQuiet l (s.lanes[l].openLoad .opening)

/-- A route enters OPENING and its opening sequence begins (R65, R66, R86). -/
def State.enterOpening (l : LaneId) (s : State) : State := (s.setRoute l .opening).openingStep l

/-- The next hot load of a forced CLEAR, without a quiet check (R90). -/
def State.hotStep (l : LaneId) (s : State) : State := s.beginLoad l (s.lanes[l].openLoad .hot)

/-! ### Overcurrent episodes (R81) -/

/-- Start an episode if the lane is in use, OVER reads high, the latch is clear and no episode is present. -/
def State.startEpisode (l : LaneId) (s : State) : State :=
  let x := s.lanes[l]
  if (decide (x.state = .inUse) || decide (x.state = .retiring)) && s.pins.overIn[l] && !x.latch && x.episode.isNone then
    (s.modLane l fun x => { x with episode := some (Timer.begin s.ocPersist s.time.now) }).pushIfZero s.ocPersist
      (.ocExpired l)
  else s

/-! ### Lane allocation (R56 to R61) -/

/-- A lane qualifies: FREE and its LIVE input quiet (R57). -/
def State.qualifies (s : State) (l : LaneId) : Bool := decide (s.lanes[l].state = .free) && !s.isLive l

/-- Of two qualifying lanes, the one with the higher life, the earlier among equals (R57). -/
def State.betterLane (s : State) (a b : LaneId) : LaneId :=
  if s.health.lanes[a].life < s.health.lanes[b].life then b else a

/-- The lane the allocator chooses (R57): lowest index, or least worn once the leveling latch is set. -/
def State.chooseLane (s : State) : Option LaneId :=
  match allLanes.filter s.qualifies with
  | [] => none
  | l :: ls => if s.health.record.latch then some (ls.foldl s.betterLane l) else some l

/-- A pin of the list lies in the pin set of a route on another lane than `except` (R56, R68). -/
def State.pinsBusy (except : Option LaneId) (pins : List Pin) (s : State) : Bool :=
  allLanes.any fun l =>
    decide (except ≠ some l) && (s.lanes[l].route).isSome && (s.lanes[l].pinSet).any fun p => pins.contains p

/-- A CONNECT obtains a lane: claim timer stopped, route created, lane IN_USE, closing load begun (R58); an episode starts
if OVER reads high (R81). -/
def State.obtainLane (w : LaneWaiter) (l : LaneId) (s : State) : State :=
  let s := (s.modSite w.site fun x => { x with claimTimer := none }).setPhase w.site .closing
  let s := s.modLane l fun x =>
    { x with state := .inUse, route := some { site := w.site, handle := w.handle, port := w.port, state := .closing } }
  (s.beginLoad l { kind := .closing, closes := portRelay w.port :: w.pins.map pinRelay, opens := [] }).startEpisode l

/-- The lane phase of a site's CONNECT (R56, R57): PIN_BUSY, a lane at once, or the tail of the lane waiter list. -/
def State.lanePhase (i : SiteId) (s : State) : State :=
  match s.active i with
  | some (⟨tag, .connect h p _ _ pins⟩, _, _) =>
    let s := s.setPhase i .laneWait
    if s.pinsBusy none pins then s.failLogic i .pinBusy
    else
      let w : LaneWaiter := { site := i, tag := tag, handle := h, port := p, pins := pins }
      let lane := if s.laneWaiters.isEmpty then s.chooseLane else none
      match lane with
      | some l => s.obtainLane w l
      | none => { s with laneWaiters := s.laneWaiters ++ [w] }
  | _ => s

/-- Grant qualifying lanes to the given waiters, oldest first; those left stay in the list (R61). -/
def serveWaiters : List LaneWaiter → State → State
  | [], s => { s with laneWaiters := [] }
  | w :: ws, s =>
    match s.chooseLane with
    | some l => serveWaiters ws (s.obtainLane w l)
    | none => { s with laneWaiters := w :: ws }

/-- Serve the lane waiter list (R61). -/
def State.serveLaneWaiters (s : State) : State := serveWaiters s.laneWaiters s

/-! ### Claims (R35) -/

/-- Free a port's claim: it becomes absent, or passes to the oldest waiter, whose CONNECT goes on to its lane phase
(R35). -/
def State.freeClaim (p : PortId) (s : State) : State :=
  match s.ports[p].waiters with
  | [] => s.modPort p fun x => { x with claim := none }
  | w :: ws => (s.modPort p fun x => { x with claim := some w, waiters := ws }).lanePhase w.site

/-! ### Disarming (R37) -/

/-- Disarm a LIVE route: it leaves LIVE for QUIETING, and its arm line is deasserted (R37). -/
def State.disarm (l : LaneId) (s : State) : State := s.setRoute l .quieting

end Sys2Proof.Machine
end

