-- ==== Sys2Proof/Machine/Running.lean ====
section
/-! DEFINITION. The steps as they run: room, acquisition, pin switch, trigger, and the start of each step kind
(chapters 2, 3, 5, 6, 7). -/

namespace Sys2Proof.Machine

/-! ### Acquisitions (R98, R99) -/

/-- METER starts an acquisition, capturing its settings, and begins the first pass; the step enters ACQUIRE (R98, R121,
R122). The last sample time is 0 and clear until the first sample (log entry 34). -/
def State.startAcquisition (i : SiteId) (tag : Byte) (point : Nat) (m : MeterSpec) (limits : Option Limits) (s : State) :
    State :=
  (s.modMeter fun t =>
    { t with
      acq := some
        { site := i, tag := tag, point := point, requested := m.range, range := m.range, aperture := m.aperture,
          autorange := m.autorange, raw := m.raw, limits := limits, clip := s.clipLevel, interval := s.sampleInterval,
          cal := t.cal, hv := s.sites[i].reach.hv, retries := 0, switching := false,
          timer := Timer.begin s.sampleInterval s.time.now, taken := 0, sum := 0, clipped := 0, last := 0,
          lastUncertain := false } }).setPhase i .acquire

/-- A pass begins on the acquisition's current range (R99). -/
def beginPass (now : Nat) (a : Acquisition) : Acquisition :=
  { a with switching := false, timer := Timer.begin a.interval now, taken := 0, sum := 0, clipped := 0 }

/-- A retry on the next range up: the range-switch wait begins (R108). -/
def beginRetry (r : Range) (now : Nat) (a : Acquisition) : Acquisition :=
  { a with switching := true, range := r, retries := a.retries + 1, timer := Timer.micros Config.rangeSwitchTime now }

/-! ### Pin switching of a SCAN (R68, R69) -/

/-- The pins a switch to `p` opens (R68). -/
def Lane.switchOpens (x : Lane) (p : Pin) : List Relay := x.pinRelays.filter fun r => decide (r ≠ pinRelay p)

/-- The closing part of a switch: the closing load, or the settle wait alone (R69 steps 2 and 3). -/
def State.switchClose (l : LaneId) (p : Pin) (settle : Duration) (s : State) : State :=
  if (s.lanes[l].pinSet).contains p then s.startWait l .settle settle
  else s.loadWhenQuiet l { kind := .closing, closes := [pinRelay p], opens := [] }

/-- Switch a SCAN's route to its point's pin (R68, R69). PIN_BUSY gives back the reserved place (R136). -/
def State.scanSwitch (i : SiteId) (h : Handle) (p : Pin) (settle : Duration) (s : State) : State :=
  match s.routeLane i h with
  | none => s
  | some l =>
    if s.pinsBusy (some l) [p] then (s.giveBack i).failLogic i .pinBusy
    else
      let opens := s.lanes[l].switchOpens p
      let s := s.setRoute l .switching
      if opens.isEmpty then s.switchClose l p settle
      else s.loadWhenQuiet l { kind := .opening, closes := [], opens := opens }

/-! ### Triggers (R39) -/

/-- Drive a port's trigger line for a TRIGGER: the line, the timestamp, the trigger wait, the done timer, and in PULSE
style the pulse timer (R39). -/
def State.assertTrigger (i : SiteId) (tag : Byte) (p : PortId) (d : Duration) (s : State) : State :=
  let now := s.time.now
  let s := s.modPort p fun x =>
    { x with
      trigger := true
      wait := some { site := i, tag := tag, stamp := now }
      doneTimer := some (Timer.begin d now)
      pulseTimer := if x.desc.style = .pulse then some (Timer.micros x.desc.width now) else x.pulseTimer }
  (s.setPhase i .doneWait).pushIfZero d (.doneExpired p)

/-- A TRIGGER goes on to its port: it waits for an earlier pulse or triggers (R39). -/
def State.triggerPort (i : SiteId) (tag : Byte) (h : Handle) (d : Duration) (s : State) : State :=
  match s.routeLane i h with
  | none => s
  | some l =>
    match s.lanes[l].route with
    | none => s
    | some r => if s.ports[r.port].trigger then s.setPhase i .pulseWait else s.assertTrigger i tag r.port d

/-! ### Room for a reading (R135) -/

/-- The limits that apply at a SCAN point (R118). -/
def pointLimits (m : MeterSpec) (pt : ScanPoint) : Option Limits :=
  match pt.own with
  | some l => some l
  | none => m.limits

/-- A reading-producing action goes on once it has room: MEASURE to its acquisition, a SCAN point to its switch, TRIGGER
to its port (R121, R122, R38, R135). -/
def State.goOnWithRoom (i : SiteId) (s : State) : State :=
  match s.active i with
  | some (⟨tag, .measure m⟩, _, _) => s.startAcquisition i tag 0 m m.limits
  | some (⟨_, .scan m settle pts⟩, _, n) =>
    match pts[n]? with
    | some pt => (s.setPhase i .switch).scanSwitch i m.handle pt.pin settle
    | none => s
  | some (⟨tag, .trigger h d⟩, _, _) => s.triggerPort i tag h d
  | _ => s

/-- Room is given: the reservation is set and the action goes on (R135). -/
def State.giveRoom (i : SiteId) (s : State) : State :=
  (s.modRes i fun x => { x with reserved := true }).goOnWithRoom i

/-- A reading-producing action asks for room (R135): in CLOSED_WAITING it becomes the room waiter. Where the site's block closes
at this event it asks once that block has closed (log entry 36). -/
def State.askRoom (i : SiteId) (s : State) : State :=
  let s := s.setPhase i .blockWait
  if s.results.sites[i].pos = .closedWaiting ∨ s.closing i = true then s else s.giveRoom i

/-- The site's room waiter receives room, its flush waiter completes (R135, R139, R141). -/
def State.serveWaiting (i : SiteId) (s : State) : State :=
  match s.active i with
  | some (_, .blockWait, _) => s.giveRoom i
  | some (_, .flushWait, _) => s.endOk i
  | _ => s

/-- A site's block closes in its turn (R138). A FLUSH that closed it completes if the block entered the outbound queue at once
(R141), and an action that asked for room at this event then has it (R135). -/
def State.closeNow (i : SiteId) (c : Cause) (s : State) : State :=
  let s := s.closeBlock i c
  if s.results.sites[i].pos = .closedWaiting then s else s.serveWaiting i

/-- Admit the oldest closed waiting block into a free place of the outbound queue; its site's room waiter receives room,
its flush waiter completes (R139). -/
def State.admitBlock (s : State) : State :=
  match s.results.waiting with
  | b :: bs =>
    if s.results.outbound.length < Config.outboundDepth then
      let s := { s with results := { s.results with waiting := bs, outbound := s.results.outbound ++ [b] } }
      (s.modRes b.site fun x => { x with pos := .empty }).serveWaiting b.site
    else s
  | [] => s

/-! ### The start of each step kind -/

/-- The route a handle names, with its lane (R55). -/
def State.findRoute (i : SiteId) (h : Handle) (s : State) : Option (LaneId × Route) :=
  match s.routeLane i h with
  | some l => (s.lanes[l].route).map fun r => (l, r)
  | none => none

/-- CONNECT: handle and claim checks, claim timer, then the claim or the port's waiter list (R33). -/
def State.startConnect (i : SiteId) (h : Handle) (p : PortId) (claim : Duration) (s : State) : State :=
  let x := s.ports[p]
  if (s.routeLane i h).isSome || (s.claimPort i h).isSome then s.failLogic i .handleBusy
  else if decide (x.desc.kind = .none) || (x.desc.hv && !s.sites[i].reach.hv) then s.failLogic i .portBusy
  else
    let t := s.modSite i fun y => { y with claimTimer := some (Timer.begin claim s.time.now) }
    match x.claim with
    | none =>
      ((t.modPort p fun y => { y with claim := some ⟨i, h⟩ }).lanePhase i).pushIfZero claim (.claimExpired i)
    | some c =>
      if c.site = i then s.failLogic i .portBusy
      else
        ((t.modPort p fun y => { y with waiters := y.waiters ++ [⟨i, h⟩] }).setPhase i .portWait).pushIfZero claim
          (.claimExpired i)

/-- ARM (R64): NOT_SOURCE, or a READY route goes LIVE with its arm line asserted (R36). -/
def State.startArm (i : SiteId) (h : Handle) (s : State) : State :=
  match s.findRoute i h with
  | none => s.failLogic i .noHandle
  | some (l, r) =>
    if s.ports[r.port].desc.kind ≠ .source then s.failLogic i .notSource
    else if r.state = .ready then
      ((s.modPort r.port fun y => { y with arm := true }).setRoute l .live).endOk i
    else s.endOk i

/-- DISARM (R80). -/
def State.startDisarm (i : SiteId) (h : Handle) (s : State) : State :=
  match s.findRoute i h with
  | none => s.failLogic i .noHandle
  | some (l, r) =>
    if r.state = .live then
      let s := s.disarm l
      if s.isLive l then (s.setPhase i .disarming).startQuiet l .disarm else (s.setRoute l .ready).endOk i
    else s.endOk i

/-- RELEASE (R65). -/
def State.startRelease (i : SiteId) (h : Handle) (s : State) : State :=
  match s.findRoute i h with
  | some (l, r) =>
    let s := s.setPhase i .releasing
    if r.state = .live then
      let s := s.disarm l
      if s.isLive l then s.startQuiet l .disarm else s.enterOpening l
    else s.enterOpening l
  | none =>
    match s.claimPort i h with
    | some p => (s.freeClaim p).endOk i
    | none => s.failLogic i .noHandle

/-- MEASURE and SCAN: the meter handle, then room for the first reading (R119, R121, R122). -/
def State.startMeter (i : SiteId) (h : Handle) (s : State) : State :=
  match s.findRoute i h with
  | none => s.failLogic i .noHandle
  | some (_, r) => if r.port ≠ 0 then s.failLogic i .notMeter else s.askRoom i

/-- TRIGGER: a route not on port 0, then room (R38). -/
def State.startTrigger (i : SiteId) (h : Handle) (s : State) : State :=
  match s.findRoute i h with
  | none => s.failLogic i .noHandle
  | some (_, r) => if r.port = 0 then s.failLogic i .noHandle else s.askRoom i

/-- WAIT: start the WAIT timer (R173). -/
def State.startWaitStep (i : SiteId) (d : Duration) (s : State) : State :=
  ((s.modSite i fun y => { y with waitTimer := some (Timer.begin d s.time.now) }).setPhase i .waiting).pushIfZero d
    (.waitExpired i)

/-- FLUSH (R141): the open block closes, in its turn among those that close at this event (R138), and the FLUSH waits for that;
it waits for a closed block; or it completes at once. -/
def State.startFlush (i : SiteId) (s : State) : State :=
  match s.results.sites[i].pos with
  | .opened _ _ => (s.noteClosure i .flush).setPhase i .flushWait
  | .closedWaiting => s.setPhase i .flushWait
  | .empty => s.endOk i

/-- The head step starts (R9): ACTIVE in its first phase, a SCAN at point 0, the site RUNNING. -/
def State.startHead (i : SiteId) (s : State) : State :=
  match s.sites[i].queue with
  | [] => s
  | st :: _ =>
    let s := s.modSite i fun x => { x with state := .running, running := some ⟨.active .starting, 0⟩ }
    match st.body with
    | .connect h p _ claim _ => s.startConnect i h p claim
    | .arm h => s.startArm i h
    | .disarm h => s.startDisarm i h
    | .release h => s.startRelease i h
    | .measure m => s.startMeter i m.handle
    | .scan m _ _ => s.startMeter i m.handle
    | .trigger h _ => s.startTrigger i h
    | .wait d => s.startWaitStep i d
    | .flush => s.startFlush i

/-- The conditions of R9 for starting the head step. -/
def State.mayStart (i : SiteId) (s : State) : Bool :=
  let x := s.sites[i]
  (decide (x.state = .idle) || decide (x.state = .running)) && !x.held && x.running.isNone && !x.queue.isEmpty

/-- The site starts its head step if R9 allows. -/
def State.tryStart (i : SiteId) (s : State) : State := if s.mayStart i then s.startHead i else s

end Sys2Proof.Machine
end

