-- ==== Sys2Proof/Machine/Teardown.lean ====
section
/-! DEFINITION. Teardown, faults, route removal, CLEAR and the phases of a RESET (R12, R13, R17, R18, R28, R67, R71, R73,
R85 to R90, R183, R184). -/

namespace Sys2Proof.Machine

/-! ### Stopping the running step (R17, R43, R111, R128) -/

/-- End a trigger wait at PORTS: the done timer stops and a HOLD-style line is released (R40, R42, R43). -/
def State.endTriggerWait (p : PortId) (s : State) : State :=
  s.modPort p fun x =>
    { x with
      wait := none
      doneTimer := none
      trigger := if x.desc.style = .hold then false else x.trigger }

/-- The port whose trigger wait belongs to a site. -/
def State.triggerWaitPort (i : SiteId) (s : State) : Option PortId :=
  allPorts.find? fun p =>
    match s.ports[p].wait with
    | some w => decide (w.site = i)
    | none => false

/-- The site's CONNECT leaves the waiter lists (R34, R62). -/
def State.leaveLists (i : SiteId) (s : State) : State :=
  { s with
    ports := s.ports.map fun x => { x with waiters := x.waiters.filter fun w => decide (w.site ≠ i) }
    laneWaiters := s.laneWaiters.filter fun w => decide (w.site ≠ i) }

/-- The ACTIVE step's work in flight ends at its safe point (R17). What a load, a quiet wait or a lane wait needs is done
by the hand-over of the routes (R71). -/
def State.stopRunning (i : SiteId) (s : State) : State :=
  match s.active i with
  | some (_, .portWait, _) => (s.leaveLists i).modSite i fun x => { x with claimTimer := none }
  | some (_, .laneWait, _) => (s.leaveLists i).modSite i fun x => { x with claimTimer := none }
  | some (_, .waiting, _) => s.modSite i fun x => { x with waitTimer := none }
  | some (_, .acquire, _) => (s.modMeter fun t => { t with acq := none }).giveBack i
  | some (_, .switch, _) => s.giveBack i
  | some (_, .pulseWait, _) => s.giveBack i
  | some (_, .doneWait, _) =>
    match s.triggerWaitPort i with
    | some p => (s.endTriggerWait p).giveBack i
    | none => s.giveBack i
  | _ => s

/-! ### The hand-over of routes (R71, R85, R86) -/

/-- Hand one route to its site's teardown (R71, R86). A LIVE route is disarmed and its lane checked for quiet; a route
with a load in flight waits for the load's done; a quiet wait before a switch's load passes to the teardown's first load
with its timer running on. -/
def State.handOver (l : LaneId) (s : State) : State :=
  match s.lanes[l].route with
  | none => s
  | some r =>
    match r.state with
    | .live =>
      let s := s.disarm l
      if s.isLive l then s.startQuiet l .disarm else s.enterOpening l
    | .ready => s.enterOpening l
    | .closing =>
      if s.lanes[l].load.isSome then s
      else (s.modLane l fun x => { x with wait := none }).enterOpening l
    | .switching =>
      if s.lanes[l].load.isSome then s
      else
        match s.lanes[l].quiet with
        | some q =>
          let ld := s.lanes[l].openLoad .opening
          (s.setRoute l .opening).modLane l fun x => { x with quiet := some { q with action := .load ld } }
        | none => (s.modLane l fun x => { x with wait := none }).enterOpening l
    | .quieting => s
    | .opening => s
    | .stuck => s

/-- Every arm line of a site's LIVE routes is deasserted at the start of its teardown, before anything else
(R37, R85 step 2). -/
def State.disarmAll (i : SiteId) (s : State) : State :=
  forEach (s.routeLanes i) State.disarmRoute s

/-- Hand over every route of a site, then give up its claims without a route (R85 steps 2 to 4). -/
def State.handOverAll (i : SiteId) (s : State) : State :=
  let s := s.disarmAll i
  let s := forEach (s.routeLanes i) State.handOver s
  forEach (s.routelessPorts i) State.freeClaim s

/-- The site is being torn down (R88). -/
def State.tearing (i : SiteId) (s : State) : Bool :=
  decide (s.sites[i].state = .aborting) || decide (s.sites[i].state = .safing)

/-- The route on a lane is in a state. -/
def Lane.routeIs (st : RouteState) (x : Lane) : Bool :=
  match x.route with
  | some r => decide (r.state = st)
  | none => false

/-- Every route of the site is STUCK. -/
def State.allStuck (i : SiteId) (s : State) : Bool := (s.routeLanes i).all fun l => s.lanes[l].routeIs .stuck

/-- The site holds a route. -/
def State.holdsRoute (i : SiteId) (s : State) : Bool := !(s.routeLanes i).isEmpty

/-- The part holds a route. -/
def State.anyRoute (s : State) : Bool := allLanes.any fun l => (s.lanes[l].route).isSome

/-! ### The phases of a RESET (R183, R184) -/

/-- Phase 3 of a FULL reset: its save (R184). -/
def State.resetSave (tag : Byte) (s : State) : State :=
  ({ s with resetReq := s.resetReq.map fun q => { q with phase := .save } } : State).takeSave .fullReset tag

/-- Phase 2 of a FULL reset ends when no route is left in the table (R73). -/
def State.stuckPhaseEnd (s : State) : State :=
  match s.resetReq with
  | some q => if q.full && decide (q.phase = .stuck) && !s.anyRoute then s.resetSave q.tag else s
  | none => s

/-- Phase 2 of a FULL reset opens a STUCK route (R73): on a quiet lane it enters OPENING, on a live lane it stays STUCK
behind a quiet wait without a timer. A route of a site with a CLEAR in flight is left to that CLEAR (R90, R91, log entry
37). -/
def State.unstick (l : LaneId) (s : State) : State :=
  if s.lanes[l].routeIs .stuck && !s.clearing l then
    if s.isLive l then s.startQuiet l .unstick else s.enterOpening l
  else s

/-- Every site has ended its teardown: the RUN reset is answered, or a FULL reset goes on to the STUCK routes
(R183, R184). -/
def State.resetTornDown (q : ResetReq) (s : State) : State :=
  if q.full then
    (forEach allLanes State.unstick ({ s with resetReq := some { q with phase := .stuck } } : State)).stuckPhaseEnd
  else
    ({ s with resetReq := none } : State).replyWith
      { kind := 0x15, tag := q.tag, site := partByte, code := .ok,
        data := [0] ++ stateBytes q.ends ++ failedBytes [], fullReset := false }

/-- A site counts as torn down for the RESET in flight, in the state it is in (R88, R89). -/
def State.siteEnded (i : SiteId) (s : State) : State :=
  match s.resetReq with
  | some q =>
    if decide (q.phase = .teardown) && q.waiting.contains i then
      let left := q.waiting.filter fun j => decide (j ≠ i)
      let q : ResetReq := { q with waiting := left, ends := q.ends.set i s.sites[i].state }
      if q.waiting.isEmpty then s.resetTornDown q else { s with resetReq := some q }
    else s
  | none => s

/-! ### The end of a teardown (R18, R88) -/

/-- The site enters SAFE with a stop cause and raises SITE_STATE (R3). -/
def State.enterSafe (i : SiteId) (f : Failure) (s : State) : State :=
  (s.modSite i fun x => { x with state := .safe, stopCause := some f, teardown := none }).notice
    (.siteState i .safe (some f))

/-- Answer an ABORT in flight with the site's state and its discarded tags (R18). -/
def State.answerAbort (i : SiteId) (s : State) : State :=
  match s.sites[i].abort with
  | some a =>
    (s.modSite i fun x => { x with abort := none }).reply 0x05 a.tag (siteByte i) .ok
      ([byte s.sites[i].state.code, byte a.discarded.length] ++ a.discarded)
  | none => s

/-- A teardown ends when every route of the site has left the table or is STUCK (R88). DESIGN CHOICE, unsafe (log entry 40):
where this end also completes a RUN reset, the ABORT reply is built before the RESET reply (R183, R190). -/
def State.checkTeardown (i : SiteId) (s : State) : State :=
  if s.tearing i && s.allStuck i then
    match s.sites[i].teardown with
    | some (.fault f) => ((s.enterSafe i f).noteClosure i .ended).siteEnded i
    | t =>
      let s :=
        if s.holdsRoute i then s.enterSafe i .dischargeTimeout
        else s.modSite i fun x => { x with state := .idle, stopCause := none, teardown := none }
      let s := if t = some .abort then s.noteClosure i .ended else s
      (s.answerAbort i).siteEnded i
  else s

/-- A site's teardown begins: hand-over, claims given up, and its end if there is nothing to do (R85). -/
def State.beginTeardown (i : SiteId) (s : State) : State := (s.handOverAll i).checkTeardown i

/-! ### CLEAR (R20, R21) -/

/-- A CLEAR in flight ends when every route of the site has left the table, or, for a plain CLEAR, when each route left is
STUCK again (R20, R21). In phase 2 of a FULL reset the routes it leaves STUCK are then opened by the reset (R73). DESIGN
CHOICE, unsafe (log entry 40): where this end also completes a RUN reset, the CLEAR reply is built before the RESET reply
(R183, R190). -/
def State.checkClear (i : SiteId) (s : State) : State :=
  match s.sites[i].clear with
  | none => s
  | some c =>
    if !s.holdsRoute i then
      let s := s.modSite i fun x => { x with state := .idle, stopCause := none, clear := none }
      ((s.reply 0x06 c.tag (siteByte i) .ok [byte SiteState.idle.code]).push (.next i)).siteEnded i
    else if !c.forced && s.allStuck i then
      let s := s.modSite i fun x => { x with stopCause := some .dischargeTimeout, clear := none }
      let s := s.reply 0x06 c.tag (siteByte i) .dischargeTimeout [byte s.sites[i].state.code]
      if s.inPhase .stuck then forEach (s.routeLanes i) State.unstick s else s.siteEnded i
    else s

/-! ### Route removal (R67) -/

/-- The owning site's business once a route has left the table: the end of its RELEASE, teardown or CLEAR, and in phase 2 of a
FULL reset the return of a SAFE site to IDLE (R67 step 5, R73, R88, R20, R21). A site that only enters SAFE with this removal
stays SAFE, also where that begins phase 2 (R88). -/
def State.afterRemoval (i : SiteId) (s : State) : State :=
  let opened := s.inPhase .stuck && decide (s.sites[i].state = .safe)
  let s :=
    match s.active i with
    | some (⟨_, .release _⟩, .releasing, _) => s.endOk i
    | _ => s
  let s := (s.checkTeardown i).checkClear i
  let s :=
    if opened && decide (s.sites[i].state = .safe) && !s.holdsRoute i then
      s.modSite i fun x => { x with state := .idle, stopCause := none }
    else s
  s.stuckPhaseEnd

/-- A route leaves the table (R67): its record, its episode and latch (R82, R84), the lane's state, the lane waiter list,
the claim, then its site. -/
def State.removeRoute (l : LaneId) (s : State) : State :=
  match s.lanes[l].route with
  | none => s
  | some r =>
    let retiring := decide (s.lanes[l].state = .retiring)
    let old := s.health.record
    let s := s.modLane l fun x =>
      { x with state := .free, route := none, quiet := none, wait := none, episode := none, latch := false }
    let s := if retiring then (s.retire l).healthDue old else s.serveLaneWaiters
    (s.freeClaim r.port).afterRemoval r.site

/-! ### Faults (R12, R13) -/

/-- The site takes a fault: the carrying step becomes ENDED with the code, the others are discarded, and the site enters
SAFING with its teardown (R12). The ENDED steps at the head keep their DONEs; the oldest step that has not started carries
the fault behind them, and its DONE waits in its turn (log entry 11). -/
def State.carryFault (i : SiteId) (f : Failure) (s : State) : State :=
  let q := s.sites[i].queue
  let running := s.sites[i].running
  let ended := s.sites[i].begunSteps
  let s := (s.stopRunning i).modSite i fun x =>
    { x with held := false, stopCause := none, state := .safing, teardown := some (.fault f) }
  match running, q with
  | some ⟨.ended, _⟩, _ =>
    match q.drop ended with
    | b :: rest =>
      s.modSite i fun x =>
        { x with
          queue := q.take ended ++ [b]
          carried := x.carried ++ [makeDone i b 0 .failed (some f) none (rest.map Step.tag)] }
    | [] => s
  | some _, a :: rest =>
    (s.modSite i fun x => { x with queue := [a] }).finishStep i .failed (some f) none (rest.map Step.tag)
  | none, a :: rest =>
    (s.modSite i fun x => { x with queue := [a], running := some ⟨.active .starting, 0⟩ }).finishStep i .failed (some f)
      none (rest.map Step.tag)
  | _, [] => s

/-- A fault reaches a site: carried in IDLE, RUNNING, HELD and STOPPED (R12), absorbed otherwise (R13). -/
def State.takeFault (i : SiteId) (f : Failure) (s : State) : State :=
  match s.sites[i].state with
  | .idle => (s.carryFault i f).beginTeardown i
  | .running => (s.carryFault i f).beginTeardown i
  | .held => (s.carryFault i f).beginTeardown i
  | .stopped => (s.carryFault i f).beginTeardown i
  | .aborting => s
  | .safing => s
  | .safe => s

end Sys2Proof.Machine
end

