-- ==== Sys2Proof/Machine/Events.lean ====
section
/-! DEFINITION. What each event of a timer, a lane, an instrument, the meter, the clock and the silence timer does
(chapters 2 to 9). An event whose timer has not reached its expiry, or whose timer or subject is absent, has no effect
(R166, R167, log entries 4 and 22). -/

namespace Sys2Proof.Machine

/-! ### CONNECT and WAIT timers -/

/-- A claim timer expires (R34, R62). -/
def State.claimExpired (i : SiteId) (s : State) : State :=
  match s.expired s.sites[i].claimTimer with
  | none => s
  | some _ =>
    let s := s.modSite i fun x => { x with claimTimer := none }
    match s.active i with
    | some (_, .portWait, _) => (s.leaveLists i).failLogic i .portTimeout
    | some (_, .laneWait, _) => (s.leaveLists i).failLogic i .noLane
    | _ => s

/-- A WAIT timer expires: the WAIT ends OK (R173). -/
def State.waitExpired (i : SiteId) (s : State) : State :=
  match s.expired s.sites[i].waitTimer with
  | none => s
  | some _ =>
    let s := s.modSite i fun x => { x with waitTimer := none }
    match s.active i with
    | some (_, .waiting, _) => s.endOk i
    | _ => s

/-! ### Chain loads and their waits -/

/-- A route whose closing or switching ended: teardown opens it, or it goes on, or its coil fault fails the step
(R50, R59, R70, R71). -/
def State.loadGoesOn (l : LaneId) (r : Route) (clean : Bool) (k : WaitKind) (d : Duration) (s : State) : State :=
  if s.tearing r.site then s.enterOpening l
  else if clean then s.startWait l k d
  else (s.setRoute l .ready).takeFault r.site .coilFault

/-- The sequence that made a load goes on at its done (R51, R59, R66, R69, R70, R90). -/
def State.afterLoad (l : LaneId) (r : Route) (ld : Load) (clean : Bool) (s : State) : State :=
  match ld.kind, r.state with
  | .hot, _ => s.startWait l .release s.releaseTime
  | .opening, .switching => s.loadGoesOn l r clean .release s.releaseTime
  | .opening, _ => s.startWait l .release s.releaseTime
  | .closing, _ => s.loadGoesOn l r clean .operate s.operateTime

/-- A chain load ends (R48): HEALTH is informed (R50), then the sequence goes on. -/
def State.loadEnds (l : LaneId) (readback : List Relay) (s : State) : State :=
  match s.lanes[l].load with
  | none => s
  | some ld =>
    let s := (s.modLane l fun x => { x with load := none }).healthLoad l ld readback
    match s.lanes[l].route with
    | none => s
    | some r => s.afterLoad l r ld readback.isEmpty

/-- The settle duration of the step that made a load: a CONNECT's settle, a SCAN's per-point settle (R51). -/
def State.settleTime (i : SiteId) (s : State) : Duration :=
  match s.active i with
  | some (⟨_, .connect _ _ settle _ _⟩, _, _) => settle
  | some (⟨_, .scan _ settle _⟩, _, _) => settle
  | _ => 0

/-- The wait of kind `k` on a lane, if it is present. -/
def Lane.waitOf (k : WaitKind) (x : Lane) : Option Timer :=
  match x.wait with
  | some w => if w.kind = k then some w.timer else none
  | none => none

/-- A lane's wait ends at its timer's expiry. -/
def State.endWait (l : LaneId) (s : State) : State := s.modLane l fun x => { x with wait := none }

/-- The operate timer expires: the settle wait begins (R51, R59). -/
def State.operateExpired (l : LaneId) (s : State) : State :=
  match s.expired (s.lanes[l].waitOf .operate), s.lanes[l].route with
  | some _, some r => (s.endWait l).startWait l .settle (s.settleTime r.site)
  | _, _ => s

/-- A SCAN's switch is complete: it asks METER for its point's acquisition (R69 step 4, R122 step 3). -/
def State.switchComplete (i : SiteId) (s : State) : State :=
  match s.active i with
  | some (⟨tag, .scan m _ pts⟩, .switch, n) =>
    match pts[n]? with
    | some pt => s.startAcquisition i tag n m (pointLimits m pt)
    | none => s
  | _ => s

/-- The settle timer expires: the route enters READY; a CONNECT ends OK, a switch is complete (R59, R69). -/
def State.settleExpired (l : LaneId) (s : State) : State :=
  match s.expired (s.lanes[l].waitOf .settle), s.lanes[l].route with
  | some _, some r =>
    let s := (s.endWait l).setRoute l .ready
    match s.active r.site with
    | some (⟨_, .connect ..⟩, .closing, _) => s.endOk r.site
    | _ => s.switchComplete r.site
  | _, _ => s

/-- The pin of the running SCAN's point and its settle (R122). -/
def State.switchTarget (i : SiteId) (s : State) : Option (Pin × Duration) :=
  match s.active i with
  | some (⟨_, .scan _ settle pts⟩, _, n) => (pts[n]?).map fun pt => (pt.pin, settle)
  | _ => none

/-- The release timer expires: a switch closes its new pin, an opening or a hot sequence makes its next load, or the route
leaves the table (R66, R69, R90). -/
def State.releaseExpired (l : LaneId) (s : State) : State :=
  match s.expired (s.lanes[l].waitOf .release), s.lanes[l].route with
  | some _, some r =>
    let s := s.endWait l
    match r.state with
    | .switching =>
      match s.switchTarget r.site with
      | some (p, settle) => s.switchClose l p settle
      | none => s
    | .opening => if s.lanes[l].closed.isEmpty then s.removeRoute l else s.openingStep l
    | .stuck => if s.lanes[l].closed.isEmpty then s.removeRoute l else s.hotStep l
    | _ => s
  | _, _ => s

/-! ### Quiet waits (R77 to R80) -/

/-- A disarm's quiet wait ends by quiet: DISARM returns its route to READY, RELEASE and a teardown open it
(R65, R80, R86). -/
def State.disarmQuiet (l : LaneId) (i : SiteId) (s : State) : State :=
  if s.tearing i then s.enterOpening l
  else
    match s.active i with
    | some (_, .disarming, _) => (s.setRoute l .ready).endOk i
    | some (_, .releasing, _) => s.enterOpening l
    | _ => s

/-- What a fall of LIVE releases: the load, disarm or opening that waits for quiet, or a lane for the waiters
(R61, R73, R77). -/
def State.quietEffects (l : LaneId) (s : State) : State :=
  match s.lanes[l].quiet, s.lanes[l].route with
  | some ⟨.load ld, _⟩, _ => s.beginLoad l ld
  | some ⟨.disarm, _⟩, some r => (s.modLane l fun x => { x with quiet := none }).disarmQuiet l r.site
  | some ⟨.unstick, _⟩, _ => s.enterOpening l
  | _, _ => if s.lanes[l].state = .free then s.serveLaneWaiters else s

/-- LIVE falls (R75, R77). -/
def State.liveFalls (l : LaneId) (s : State) : State :=
  if s.isLive l then (s.modPins fun p => { p with live := upd p.live l fun _ => false }).quietEffects l else s

/-- LIVE rises; nothing acts on it (R75). -/
def State.liveRises (l : LaneId) (s : State) : State := s.modPins fun p => { p with live := upd p.live l fun _ => true }

/-- The discharge timer of a lane's quiet wait (R77). -/
def Lane.dischargeTimer (x : Lane) : Option Timer := x.quiet.bind QuietWait.timer

/-- A discharge timer expires: the route becomes STUCK (R78), and its site fails its step, goes on with its teardown or
with its CLEAR (R79). -/
def State.dischargeExpired (l : LaneId) (s : State) : State :=
  match s.expired s.lanes[l].dischargeTimer, s.lanes[l].route with
  | some _, some r =>
    let s := (s.modLane l fun x => { x with quiet := none }).setRoute l .stuck
    if s.tearing r.site then s.checkTeardown r.site
    else if s.sites[r.site].clear.isSome then s.checkClear r.site
    else s.takeFault r.site .dischargeTimeout
  | _, _ => s

/-! ### Overcurrent (R81 to R84) -/

/-- OVER rises (R81). -/
def State.overRises (l : LaneId) (s : State) : State :=
  if s.pins.overIn[l] then s else (s.modPins fun p => { p with overIn := upd p.overIn l fun _ => true }).startEpisode l

/-- OVER falls: an episode ends without a fault (R82). -/
def State.overFalls (l : LaneId) (s : State) : State :=
  (s.modPins fun p => { p with overIn := upd p.overIn l fun _ => false }).modLane l fun x => { x with episode := none }

/-- An episode's persistence timer expires: the lane faults (R83). -/
def State.ocExpired (l : LaneId) (s : State) : State :=
  match s.expired s.lanes[l].episode with
  | none => s
  | some t =>
    let s := (s.modLane l fun x => { x with episode := none, latch := true }).countOvercurrent
    match s.lanes[l].route with
    | none => s
    | some r =>
      (s.notice (.laneFault l r.site r.handle r.port t.start s.time.now)).takeFault r.site .overcurrent

/-! ### Triggers and done lines (R40 to R43) -/

/-- Trigger-to-done time: the difference of two counts modulo 2^48, saturating at 32 bits (R41, R168). -/
def elapsedTime (start stop : Nat) : Nat := min ((stop % 2 ^ 48 + 2 ^ 48 - start % 2 ^ 48) % 2 ^ 48) Config.max32

/-- A done event of a present trigger wait: the MARK reading, and the TRIGGER ends OK (R41). -/
def State.markDone (p : PortId) (w : TriggerWait) (s : State) : State :=
  let r : MarkReading :=
    { tag := w.tag, stamp := s.count, uncertain := s.time.uncertain, port := p,
      elapsed := elapsedTime w.stamp s.time.now }
  ((s.endTriggerWait p).place w.site (.mark r)).endOk w.site

/-- A done line is asserted: the end of the trigger wait, or a stray done (R41, R43). -/
def State.doneAsserted (p : PortId) (s : State) : State :=
  if s.pins.done[p] || decide (p = 0) then s
  else
    let s := s.modPins fun q => { q with done := upd q.done p fun _ => true }
    match s.ports[p].wait with
    | some w => s.markDone p w
    | none => s.notice (.strayDone p s.time.now)

/-- A done line is deasserted: no effect but on the line (R41). -/
def State.doneDeasserted (p : PortId) (s : State) : State :=
  s.modPins fun q => { q with done := upd q.done p fun _ => false }

/-- A done timer expires: no reading, the reserved place is given back, TRIGGER_TIMEOUT (R42, R136). -/
def State.doneExpired (p : PortId) (s : State) : State :=
  match s.expired s.ports[p].doneTimer, s.ports[p].wait with
  | some _, some w => ((s.endTriggerWait p).giveBack w.site).failLogic w.site .triggerTimeout
  | _, _ => s

/-- A TRIGGER of the port's claiming site that waits for the end of a pulse (R39). -/
def State.pulseWaiter (p : PortId) (s : State) : Option (SiteId × Byte × Duration) :=
  match s.ports[p].claim with
  | none => none
  | some c =>
    match s.active c.site with
    | some (⟨tag, .trigger h d⟩, .pulseWait, _) =>
      match s.findRoute c.site h with
      | some (_, r) => if r.port = p then some (c.site, tag, d) else none
      | none => none
    | _ => none

/-- A pulse timer expires: the line is released, and a TRIGGER that waited for the pulse goes on (R39, R40). -/
def State.pulseExpired (p : PortId) (s : State) : State :=
  match s.expired s.ports[p].pulseTimer with
  | none => s
  | some _ =>
    let s := s.modPort p fun x => { x with trigger := false, pulseTimer := none }
    match s.pulseWaiter p with
    | some (i, tag, d) => s.assertTrigger i tag p d
    | none => s

/-! ### The meter (R99, R107 to R110, R121, R123, R124) -/

/-- The SCAN moves to its next point: SUSPENDED at a hold, else the next point's room wait (R124). -/
def State.scanBoundary (i : SiteId) (n : Nat) (s : State) : State :=
  if s.sites[i].held then
    (s.modSite i fun x => { x with running := some ⟨.suspended, n + 1⟩ }).setSite i .held
  else (s.modSite i fun x => { x with running := some ⟨.active .blockWait, n + 1⟩ }).askRoom i

/-- The site learns a verdict (R121, R123, R124). -/
def State.learnVerdict (i : SiteId) (v : Verdict) (s : State) : State :=
  match s.active i with
  | some (⟨_, .measure m⟩, .acquire, _) => if StopSetHas m.stop v then s.failLogic i .verdictStop else s.endOk i
  | some (⟨_, .scan m _ pts⟩, .acquire, n) =>
    if StopSetHas m.stop v then s.failLogic i .verdictStop
    else if n + 1 = pts.length then s.endOk i
    else s.scanBoundary i n
  | _ => s

/-- The final pass: the reading is placed, the acquisition becomes absent, the site learns the verdict (R110). -/
def State.finishAcquisition (a : Acquisition) (s : State) : State :=
  let r := readingOf a
  ((s.modMeter fun t => { t with acq := none }).place a.site (.meter r)).learnVerdict a.site r.verdict

/-- The decision after a sample: the next sample, a retry, or the final pass (R99, R107). -/
def State.afterSample (a : Acquisition) (s : State) : State :=
  if a.taken < 2 ^ a.aperture.val then
    s.modMeter fun t => { t with acq := some { a with timer := Timer.begin a.interval s.time.now } }
  else
    match retryRange a with
    | some r => s.modMeter fun t => { t with acq := some (beginRetry r s.time.now a) }
    | none => s.finishAcquisition a

/-- The sample timer expires: METER takes one sample (R99). -/
def State.sampleExpired (v : BitVec 18) (s : State) : State :=
  match s.meter.acq with
  | some a =>
    if a.switching || (s.expired (some a.timer)).isNone then s
    else s.afterSample (takeSample a v.toInt s.time.now s.time.uncertain)
  | none => s

/-- The range-switch timer expires: the next pass begins (R108). -/
def State.rangeSwitchExpired (s : State) : State :=
  match s.meter.acq with
  | some a =>
    if a.switching && (s.expired (some a.timer)).isSome then
      s.modMeter fun t => { t with acq := some (beginPass s.time.now a) }
    else s
  | none => s

/-! ### The silence timer (R171, R172) -/

/-- Start the silence timer anew with SILENCE, or turn it OFF (R171). -/
def State.startSilence (s : State) : State :=
  let d := s.silenceTime
  s.modTime fun b =>
    { b with silence := if Duration.count d = 0 then .off else .running (Timer.begin d b.now) }

/-- A good frame is received (R171). -/
def State.silenceFrame (s : State) : State :=
  match s.time.silence with
  | .off => s
  | _ => s.startSilence

/-- The site holds a step that is not ENDED, a route, or a claim without a route (R172). -/
def State.holdsWork (i : SiteId) (s : State) : Bool :=
  let ended := match s.sites[i].running with
    | some ⟨.ended, _⟩ => s.sites[i].begunSteps
    | _ => 0
  decide (ended < s.sites[i].queue.length) || s.holdsRoute i || !(s.routelessPorts i).isEmpty

/-- The site takes a fault rather than absorbing it (R12, R13). -/
def State.takesFaults (i : SiteId) (s : State) : Bool :=
  !(s.tearing i) && decide (s.sites[i].state ≠ .safe)

/-- The timer of the silence timer's state. -/
def Silence.timer : Silence → Option Timer
  | .running t => some t
  | .off => none
  | .waitingFirst => none
  | .expired => none

/-- The silence timer expires (R172). A timer that a good frame has started anew does not (R171). -/
def State.silenceExpired (s : State) : State :=
  match s.expired s.time.silence.timer with
  | some _ =>
    let s := s.modTime fun b => { b with silence := .expired }
    let sites := allSites.filter fun i => s.holdsWork i && s.takesFaults i
    (forEach sites (fun i s => s.takeFault i .hostSilent) s).notice (.hostSilent s.time.now sites)
  | none => s

/-! ### The clock monitor (R169) -/

/-- The reference shows no edge for 10 us. -/
def State.referenceLost (s : State) : State :=
  let s := s.modPins fun p => { p with refEdges := false }
  match s.time.monitor with
  | .present =>
    (s.modTime fun b => { b with monitor := .lost, source := .oscillator, uncertain := true }).notice
      (.clock .oscillator s.time.now)
  | .qualifying _ => s.modTime fun b => { b with monitor := .lost, uncertain := true }
  | .lost => s

/-- The reference shows an edge. -/
def State.referenceEdge (s : State) : State :=
  let s := s.modPins fun p => { p with refEdges := true }
  match s.time.monitor with
  | .lost => s.modTime fun b => { b with monitor := .qualifying (Timer.micros Config.qualification b.now) }
  | _ => s

/-- The qualification timer of the monitor's state. -/
def Monitor.timer : Monitor → Option Timer
  | .qualifying t => some t
  | .present => none
  | .lost => none

/-- The qualification time ends. -/
def State.qualificationEnds (s : State) : State :=
  match s.expired s.time.monitor.timer with
  | some _ =>
    let s := s.modTime fun b => { b with monitor := .present, source := .reference }
    s.notice (.clock .reference s.time.now)
  | none => s

end Sys2Proof.Machine
end

