-- ==== Sys2Proof/Machine/Requests.lean ====
section
/-! DEFINITION. The requests of the control link as their owning blocks take them: refusals in the order of their rules,
effects and replies (R5, R14 to R16, R19 to R26, R30, R31, R53, R113, R114, R161 to R163, R170, R179 to R184, R191). -/

namespace Sys2Proof.Machine

/-- The TAG and SITE of a request's frame. -/
structure Head where
  tag : Byte
  site : Byte
  deriving DecidableEq, Repr

/-- Refuse a request: a REPLY with the code and no data (R199). -/
def State.refuse (kind : Byte) (h : Head) (c : ReplyCode) (s : State) : State := s.reply kind h.tag h.site c []

/-- Answer a request OK with data. -/
def State.answer (kind : Byte) (h : Head) (data : List Byte) (s : State) : State := s.reply kind h.tag h.site .ok data

/-! ### STATUS (R191) -/

/-- A site's three bytes in the STATUS reply. -/
def Site.statusBytes (x : Site) : List Byte := [byte x.state.code, flag x.held, byte (failureCode x.stopCause)]

/-- The data of the STATUS reply (R199). -/
def State.statusData (s : State) : List Byte :=
  let fail := s.store.loadFailed
  (s.sites.toList.map Site.statusBytes).flatten
    ++ [flag s.health.low, flags s.time.uncertain s.storeBusy s.freeze false false false,
        flags fail[configItem] fail[calItem] fail[reachItem] fail[healthItem] false false]
    ++ nat16 (bitSet ((allLanes.filter fun l => fail[laneItem l]).map Fin.val))

/-- STATUS (R191). -/
def State.takeStatus (h : Head) (s : State) : State :=
  if h.site ≠ partByte then s.refuse 0x01 h .badSite else s.answer 0x01 h s.statusData

/-! ### STEP (R5 to R7) -/

/-- The pins a step names (R7). -/
def StepBody.pins : StepBody → List Pin
  | .connect _ _ _ _ pins => pins
  | .scan _ _ pts => pts.map ScanPoint.pin
  | _ => []

/-- The limits a step names (R7). -/
def StepBody.limits : StepBody → List Limits
  | .measure m => m.limits.toList
  | .scan m _ pts => m.limits.toList ++ (pts.map fun p => p.own.toList).flatten
  | _ => []

/-- A pin lies in a reach (R7). -/
def Reach.contains (r : Reach) (p : Pin) : Bool :=
  match r.range with
  | some (a, b) => decide (a ≤ p ∧ p ≤ b)
  | .none => false

/-- The step needs high-voltage permission: a CONNECT to a port whose HV flag is on, a MEASURE or SCAN on range 3 (R7). -/
def State.needsHv (b : StepBody) (s : State) : Bool :=
  match b with
  | .connect _ p _ _ _ => s.ports[p].desc.hv
  | .measure m => decide (m.range = 3)
  | .scan m _ _ => decide (m.range = 3)
  | _ => false

/-- BAD_FIELD conditions that the port records and the route table decide: a CONNECT to a port of kind NONE (R6), a TRIGGER
whose handle names a route on port 0 (R38). -/
def State.badPort (i : SiteId) (b : StepBody) (s : State) : Bool :=
  match b with
  | .connect _ p _ _ _ => decide (s.ports[p].desc.kind = .none)
  | .trigger h _ =>
    match s.findRoute i h with
    | some (_, r) => decide (r.port = 0)
    | none => false
  | _ => false

/-- The site accepts steps (R2). -/
def SiteState.accepts : SiteState → Bool
  | .idle => true
  | .running => true
  | .held => true
  | _ => false

/-- The acceptance checks 2 to 9 of R5, in order, at a site. -/
def State.acceptStep (i : SiteId) (tag : Byte) (r : StepReq) (s : State) : Except ReplyCode StepBody :=
  let x := s.sites[i]
  if x.reach.range.isNone then .error .noReach
  else if !x.state.accepts then .error .siteState
  else if Config.queueDepth ≤ x.queue.length then .error .queueFull
  else if x.queue.any fun st => decide (st.tag = tag) then .error .tagInUse
  else
    match stepBody r with
    | none => .error .badField
    | some b =>
      if s.badPort i b then .error .badField
      else if !(b.pins.all x.reach.contains) then .error .outOfReach
      else if s.needsHv b && !x.reach.hv then .error .hvDenied
      else if b.limits.any fun l => decide (l.hi.toInt < l.lo.toInt) then .error .badLimits
      else .ok b

/-- STEP (R5): refused with BUSY during a FULL reset (R184), else by the checks of R5; an accepted step joins the tail of
the queue, is answered, and the site looks whether it starts (R9). -/
def State.takeStep (r : StepReq) (h : Head) (s : State) : State :=
  if s.fullReset then s.refuse 0x02 h .busy
  else
    match siteOf h.site with
    | none => s.refuse 0x02 h .badSite
    | some i =>
      match s.acceptStep i h.tag r with
      | .error c => s.refuse 0x02 h c
      | .ok b =>
        ((s.modSite i fun x => { x with queue := x.queue ++ [⟨h.tag, b⟩] }).answer 0x02 h []).push (.next i)

/-! ### HOLD, RESUME, ABORT, CLEAR (R14 to R21) -/

/-- The reply data of HOLD and RESUME: state and held flag. -/
def State.holdData (i : SiteId) (s : State) : List Byte := [byte s.sites[i].state.code, flag s.sites[i].held]

/-- Answer HOLD or RESUME with the site as it then stands. -/
def State.answerHold (kind : Byte) (h : Head) (i : SiteId) (s : State) : State := s.answer kind h (s.holdData i)

/-- HOLD (R14). -/
def State.takeHold (h : Head) (s : State) : State :=
  match siteOf h.site with
  | none => s.refuse 0x03 h .badSite
  | some i =>
    match s.sites[i].state with
    | .idle => (s.modSite i fun x => { x with held := true, state := .held }).answerHold 0x03 h i
    | .running => (s.modSite i fun x => { x with held := true }).answerHold 0x03 h i
    | .held => s.answerHold 0x03 h i
    | _ => s.refuse 0x03 h .siteState

/-- What RESUME does in HELD: a SUSPENDED SCAN becomes ACTIVE at its point; otherwise the site starts its head step or
enters IDLE (R15). -/
def State.resumeHeld (i : SiteId) (s : State) : State :=
  match s.sites[i].running with
  | some ⟨.suspended, n⟩ =>
    (s.modSite i fun x =>
      { x with held := false, state := .running, running := some ⟨.active .blockWait, n⟩ }).askRoom i
  | _ => (s.modSite i fun x => { x with held := false, state := .idle }).tryStart i

/-- RESUME (R15). -/
def State.takeResume (h : Head) (s : State) : State :=
  match siteOf h.site with
  | none => s.refuse 0x04 h .badSite
  | some i =>
    match s.sites[i].state with
    | .held => (s.resumeHeld i).answerHold 0x04 h i
    | .running => (s.modSite i fun x => { x with held := false }).answerHold 0x04 h i
    | .idle => s.answerHold 0x04 h i
    | _ => s.refuse 0x04 h .siteState

/-- The steps an ABORT discards: every step that is neither the running step nor ENDED (R16, R17). -/
def Site.abortTags (x : Site) : List Byte := (x.queue.drop x.begunSteps).map Step.tag

/-- An ABORT that is taken (R16, R17): queue discarded but for the steps that have started, running step stopped, ABORTING, END closure, teardown. -/
def State.abortSite (i : SiteId) (tag : Byte) (s : State) : State :=
  let disc := s.sites[i].abortTags
  let running := s.sites[i].running
  let s := (s.stopRunning i).modSite i fun x =>
    { x with
      queue := x.queue.take x.begunSteps
      held := false
      stopCause := none
      state := .aborting
      teardown := some .abort
      abort := some { tag := tag, discarded := disc } }
  let s :=
    match running with
    | some ⟨.ended, _⟩ => s
    | some _ => s.finishStep i .aborted none none []
    | none => s
  (s.noteClosure i .ended).beginTeardown i

/-- ABORT (R16). -/
def State.takeAbort (h : Head) (s : State) : State :=
  match siteOf h.site with
  | none => s.refuse 0x05 h .badSite
  | some i =>
    match s.sites[i].state with
    | .safing => s.refuse 0x05 h .siteState
    | .safe => s.refuse 0x05 h .siteState
    | .aborting => s.refuse 0x05 h .busy
    | _ => s.abortSite i h.tag

/-- CLEAR that returns a site to IDLE at once (R19). -/
def State.clearAtOnce (h : Head) (i : SiteId) (s : State) : State :=
  ((s.modSite i fun x => { x with state := .idle, stopCause := none }).answer 0x06 h [byte SiteState.idle.code]).push
    (.next i)

/-- CLEAR of a SAFE site with STUCK routes (R20, R21): forced by hot loads, plain by the opening sequence once every lane
reads quiet. -/
def State.clearStuck (force : Bool) (h : Head) (i : SiteId) (s : State) : State :=
  let lanes := s.routeLanes i
  if force then
    forEach lanes State.hotStep (s.modSite i fun x => { x with clear := some { tag := h.tag, forced := true } })
  else if lanes.any fun l => s.isLive l then
    s.reply 0x06 h.tag h.site .dischargeTimeout [byte s.sites[i].state.code]
  else forEach lanes State.enterOpening (s.modSite i fun x => { x with clear := some { tag := h.tag, forced := false } })

/-- A CLEAR is in flight at the site, or a FULL reset is opening its STUCK routes (R19, R73). -/
def State.clearBusy (i : SiteId) (s : State) : Bool :=
  s.sites[i].clear.isSome || (s.inPhase .stuck && s.holdsRoute i)

/-- CLEAR (R19 to R21). -/
def State.takeClear (force : Bool) (h : Head) (s : State) : State :=
  match siteOf h.site with
  | none => s.refuse 0x06 h .badSite
  | some i =>
    match s.sites[i].state with
    | .stopped => s.clearAtOnce h i
    | .safe =>
      if s.clearBusy i then s.refuse 0x06 h .busy
      else if s.holdsRoute i then s.clearStuck force h i
      else s.clearAtOnce h i
    | _ => s.refuse 0x06 h .notStopped

/-! ### Reach (R22 to R26) -/

/-- REACH_GET (R22). The retained copy has no retained field: its flags byte sends that bit clear (log entry 35). -/
def State.takeReachGet (h : Head) (s : State) : State :=
  match siteOf h.site with
  | none => s.refuse 0x07 h .badSite
  | some i => (s.answer 0x07 h (s.workingBytes i 0 ++ s.reachBytes s.sites[i].retained false 2)).drew 4

/-- Two pin ranges share a pin. -/
def rangesMeet (a b : Option (Pin × Pin)) : Bool :=
  match a, b with
  | some (a0, a1), some (b0, b1) => decide (a0 ≤ b1 ∧ b0 ≤ a1)
  | _, _ => false

/-- OVERLAP (R24): with another site's working reach, or, if retain is asked, its retained copy. -/
def State.reachOverlaps (i : SiteId) (new : Reach) (retain : Bool) (s : State) : Bool :=
  allSites.any fun j =>
    decide (j ≠ i) && (rangesMeet new.range s.sites[j].reach.range
      || (retain && rangesMeet new.range s.sites[j].retained.range))

/-- ROUTES_OUTSIDE (R24): a route with a pin outside the new range, or a route to an HV port without permission. -/
def State.routesOutside (i : SiteId) (new : Reach) (s : State) : Bool :=
  (s.routeLanes i).any fun l =>
    !((s.lanes[l].pinSet).all new.contains) ||
      (!new.hv &&
        match s.lanes[l].route with
        | some r => s.ports[r.port].desc.hv
        | none => false)

/-- Checks 3 to 8 of R24, in order. -/
def State.checkReachSet (i : SiteId) (new : Reach) (retain : Bool) (s : State) : Option ReplyCode :=
  let x := s.sites[i]
  if s.freeze then some .frozen
  else if (match new.range with | some (a, b) => decide (b < a) | none => false) then some .badField
  else if decide (x.state = .running) || decide (x.state = .aborting) || decide (x.state = .safing)
      || !x.queue.isEmpty then some .siteState
  else if s.hasReq (.reachSet i) then some .busy
  else if s.reachOverlaps i new retain then some .overlap
  else if s.routesOutside i new then some .routesOutside
  else none

/-- A REACH_SET that passed every check (R24, R25). -/
def State.setReach (h : Head) (i : SiteId) (new : Reach) (retain : Bool) (s : State) : State :=
  if retain then
    let changed := decide (s.sites[i].retained ≠ new)
    let s := s.modSite i fun x => { x with reach := new, retainedFlag := true, retained := new }
    ((s.await { owner := .reachSet i, tag := h.tag, failed := [] } [reachItem]).touchIf changed reachItem).due reachItem
  else
    let s := s.modSite i fun x => { x with reach := new, retainedFlag := false }
    (s.answer 0x08 h (s.workingBytes i 0)).drew 2

/-- REACH_SET (R23, R24). -/
def State.takeReachSet (new : Reach) (retain : Bool) (h : Head) (s : State) : State :=
  match siteOf h.site with
  | none => s.refuse 0x08 h .badSite
  | some i =>
    if s.link.marker ≠ some (0x07, h.site) then s.refuse 0x08 h .sequence
    else
      match s.checkReachSet i new retain with
      | some c => s.refuse 0x08 h c
      | none => s.setReach h i new retain

/-- REACH_FREEZE (R26). -/
def State.takeReachFreeze (h : Head) (s : State) : State :=
  if h.site ≠ partByte then s.refuse 0x09 h .badSite
  else ({ s with freeze := true } : State).answer 0x09 h []

/-! ### Ports and routes (R30, R31, R53) -/

/-- The waiter sites of a port: three bytes, 0xFF unused (R199). -/
def waiterBytes (l : List Claim) : List Byte :=
  ((l.map fun (w : Claim) => siteByte w.site) ++ [0xFF, 0xFF, 0xFF]).take 3

/-- The data of the PORT_GET reply (R30, R199); the site and handle of an absent claim are free bytes (log entry 7). -/
def State.portData (p : PortId) (s : State) : List Byte :=
  let x := s.ports[p]
  let claim := match x.claim with
    | some c => [1, siteByte c.site, byte c.handle.val]
    | none => [0, s.freeByte 0, s.freeByte 1]
  byte p.val :: x.desc.bytes ++ claim ++ [byte x.waiters.length] ++ waiterBytes x.waiters
    ++ [flags x.arm x.trigger x.wait.isSome false false false]

/-- PORT_GET (R30, which gives its two refusals no order: BAD_SITE comes first, log entry 33). -/
def State.takePortGet (port : Byte) (h : Head) (s : State) : State :=
  if h.site ≠ partByte then s.refuse 0x0A h .badSite
  else
    match fin? 12 port with
    | none => s.refuse 0x0A h .badField
    | some p => (s.answer 0x0A h (s.portData p)).drew 2

/-- The kind a code selects (R196). -/
def portKindOf (b : Byte) : Option PortKind :=
  match b.toNat with
  | 0 => some .none
  | 1 => some .source
  | 2 => some .sense
  | _ => none

/-- The trigger style a code selects (R196). -/
def triggerStyleOf (b : Byte) : Option TriggerStyle :=
  match b.toNat with
  | 0 => some .pulse
  | 1 => some .hold
  | _ => none

/-- The external port and the description of a PORT_SET, if its fields select them (R31). -/
def portSetFields (port kind : Byte) (hv : Bool) (style : Byte) (width : BitVec 16) : Option (PortId × PortDesc) :=
  match fin? 12 port, portKindOf kind, triggerStyleOf style with
  | some p, some k, some t =>
    if p = 0 then none else some (p, { kind := k, hv := hv, style := t, width := clampWidth width.toNat })
  | _, _, _ => none

/-- The CONFIG item becomes due if a stored value changed (R31, R180). -/
def State.configDue (changed : Bool) (s : State) : State :=
  if changed then (s.touch configItem).due configItem else s

/-- PORT_SET (R31). -/
def State.takePortSet (port kind : Byte) (hv : Bool) (style : Byte) (width : BitVec 16) (h : Head) (s : State) : State :=
  if h.site ≠ partByte then s.refuse 0x0B h .badSite
  else
    match portSetFields port kind hv style width with
    | none => s.refuse 0x0B h .badField
    | some (p, d) =>
      if s.ports[p].claim.isSome then s.refuse 0x0B h .portBusy
      else
        let changed := decide (s.ports[p].desc ≠ d)
        ((s.modPort p fun x => { x with desc := d }).configDue changed).answer 0x0B h (byte p.val :: d.bytes)

/-- The settle deadline of a lane's route as kind and six-byte count; the count of an absent deadline is free bytes, from
the `n`th on (R52, R199, log entry 7). -/
def State.deadlineBytes (x : Lane) (n : Nat) (s : State) : List Byte :=
  match x.wait with
  | some ⟨.operate, t⟩ => 1 :: nat48 t.due
  | some ⟨.settle, t⟩ => 2 :: nat48 t.due
  | _ => [0, s.freeByte n, s.freeByte (n + 1), s.freeByte (n + 2), s.freeByte (n + 3), s.freeByte (n + 4),
          s.freeByte (n + 5)]

/-- The bytes of the route on a lane, none if it holds none (R199). -/
def State.routeBytes (l : LaneId) (s : State) : List Byte :=
  let x := s.lanes[l]
  match x.route with
  | none => []
  | some r =>
    [siteByte r.site, byte r.handle.val, byte r.port.val, byte l.val, byte r.state.code, byte x.pinSet.length]
      ++ (x.pinSet ++ List.replicate 16 0).take 16 ++ s.deadlineBytes x (6 * l.val)

/-- The lanes of a site's routes in handle order (R53). -/
def State.routesByHandle (i : SiteId) (s : State) : List LaneId := allHandles.filterMap fun h => s.routeLane i h

/-- A site's claims without a route, handle and port (R53). DESIGN CHOICE, unsafe (log entry 38): their order in the reply
is handle order; R53 and R199 give them none. -/
def State.routelessByHandle (i : SiteId) (s : State) : List (Handle × PortId) :=
  allHandles.filterMap fun h => if (s.routeLane i h).isSome then none else (s.claimPort i h).map fun p => (h, p)

/-- A lane's state and status byte (R199). -/
def Lane.statusBytes (x : Lane) : List Byte :=
  [byte x.state.code, byte (x.route.isSome.toNat + 2 * loadCode x.load + 8 * x.quiet.isSome.toNat)]

/-- The ROUTE_GET data of a site: its routes in handle order (R53), then its claims without a route (R53, their order by log
entry 38). -/
def State.siteRouteData (i : SiteId) (s : State) : List Byte :=
  let ls := s.routesByHandle i
  let cs := s.routelessByHandle i
  byte ls.length :: (ls.map fun l => s.routeBytes l).flatten
    ++ byte cs.length :: (cs.map fun c => [byte c.1.val, byte c.2.val]).flatten

/-- The ROUTE_GET data of the part (R53). -/
def State.partRouteData (s : State) : List Byte :=
  let ls := allLanes.filter fun l => (s.lanes[l].route).isSome
  byte ls.length :: (ls.map fun l => s.routeBytes l).flatten
    ++ (allLanes.map fun l => s.lanes[l].statusBytes).flatten
    ++ byte s.laneWaiters.length :: (s.laneWaiters.map fun w => [siteByte w.site, w.tag, byte w.handle.val]).flatten

/-- ROUTE_GET (R53). -/
def State.takeRouteGet (h : Head) (s : State) : State :=
  if h.site = partByte then (s.answer 0x0C h s.partRouteData).drew 96
  else
    match siteOf h.site with
    | none => s.refuse 0x0C h .badSite
    | some i => (s.answer 0x0C h (s.siteRouteData i)).drew 96

/-! ### Calibration (R113, R114) -/

/-- The data of CAL_GET and CAL_SET: range, Z, G, UNCAL. -/
def State.calData (r : Range) (s : State) : List Byte :=
  let c := s.meter.cal[r]
  byte r.val :: bytes16 (BitVec.ofInt 16 c.z) ++ nat16 c.g ++ [flag c.uncal]

/-- CAL_GET (R113; BAD_SITE comes first, log entry 33). -/
def State.takeCalGet (range : Byte) (h : Head) (s : State) : State :=
  if h.site ≠ partByte then s.refuse 0x0D h .badSite
  else
    match fin? 6 range with
    | none => s.refuse 0x0D h .badField
    | some r => s.answer 0x0D h (s.calData r)

/-- The record a CAL_SET stores (R114). -/
def calRecord (z g : BitVec 16) : Cal :=
  { z := clampInt (-8192) 8191 z.toInt, g := clampNat 16384 49151 g.toNat, uncal := false }

/-- CAL_SET (R114): METER's memory only; the CAL item's differs flag is set by a change, the item is not due (R176). -/
def State.takeCalSet (range : Byte) (z g : BitVec 16) (h : Head) (s : State) : State :=
  if h.site ≠ partByte then s.refuse 0x0E h .badSite
  else
    match fin? 6 range with
    | none => s.refuse 0x0E h .badField
    | some r =>
      let new := calRecord z g
      let old := s.meter.cal[r]
      let s := (s.modMeter fun t => { t with cal := upd t.cal r fun _ => new }).touchIf
        (decide (old.z ≠ new.z ∨ old.g ≠ new.g)) calItem
      s.answer 0x0E h (s.calData r)

/-! ### Configuration (R180, R181) -/

/-- The item a pair's index names. -/
def itemIndex (b : Byte) : Option (Fin 16) := fin? 16 b

/-- CONFIG_GET (R181; BAD_SITE comes first, log entry 33). -/
def State.takeConfigGet (start count : Byte) (h : Head) (s : State) : State :=
  if h.site ≠ partByte then s.refuse 0x0F h .badSite
  else
    match itemIndex start with
    | none => s.refuse 0x0F h .badField
    | some a =>
      if count.toNat = 0 ∨ 16 < count.toNat then s.refuse 0x0F h .badField
      else
        s.answer 0x0F h ([start, count] ++
          ((List.range count.toNat).map fun k => bytes32 s.store.config[(Fin.ofNat 16 (a.val + k))]).flatten)

/-- The pairs of a CONFIG_SET with their items and clamped values; none if an index is above 15 (R180). -/
def configPairs : List (Byte × BitVec 32) → Option (List (Fin 16 × BitVec 32))
  | [] => some []
  | (b, v) :: rest =>
    match itemIndex b, configPairs rest with
    | some i, some ps => some ((i, clampConfig i v) :: ps)
    | _, _ => none

/-- Store pairs in the order given: the later of two pairs with one index stands (R180). -/
def storePairs (ps : List (Fin 16 × BitVec 32)) (c : ConfigItems) : ConfigItems :=
  ps.foldl (fun c p => upd c p.1 fun _ => p.2) c

/-- The request sets item `i`. -/
def setsItem (i : Fin 16) (ps : List (Fin 16 × BitVec 32)) : Bool := ps.any fun p => decide (p.1 = i)

/-- The nine notice kinds in order. -/
def allKinds : List (Fin 9) := [0, 1, 2, 3, 4, 5, 6, 7, 8]

/-- Remove the pending entries of masked kinds (R193). -/
def State.dropMasked (s : State) : State :=
  forEach (allKinds.filter fun k => !s.noticeMask.getLsbD k.val)
    (fun k s => s.modLink fun x => { x with notices := upd x.notices k fun _ => none }) s

/-- The effects of the items a CONFIG_SET sets, on the values now stored (R154, R156, R159, R171, R180, R193, log
entry 12). -/
def State.configEffects (ps : List (Fin 16 × BitVec 32)) (s : State) : State :=
  let old := s.health.record
  let s := if setsItem 1 ps then s.startSilence else s
  let s := if setsItem 2 ps then s.dropMasked else s
  let s := if setsItem 4 ps then s.computeLives else s
  let s := if setsItem 4 ps || (setsItem 12 ps && s.retireAtEnd) then forEach allLanes State.checkEndOfLife s else s
  let s := if setsItem 3 ps || setsItem 4 ps || setsItem 5 ps then s.recompute else s
  s.healthDue old

/-- CONFIG_SET (R180; BAD_SITE comes first, log entry 33). The CONFIG item becomes due after the effects, and only if an item
ends at another value than it had (log entry 12). -/
def State.takeConfigSet (pairs : List (Byte × BitVec 32)) (h : Head) (s : State) : State :=
  if h.site ≠ partByte then s.refuse 0x10 h .badSite
  else if pairs.isEmpty || decide (16 < pairs.length) then s.refuse 0x10 h .badField
  else
    match configPairs pairs with
    | none => s.refuse 0x10 h .badField
    | some ps =>
      let config := storePairs ps s.store.config
      let changed := decide (config ≠ s.store.config)
      let s := (s.modStore fun t => { t with config := config }).configEffects ps
      (s.configDue changed).answer 0x10 h ((ps.map fun p => byte p.1.val :: bytes32 p.2).flatten)

/-! ### HEALTH, COUNT_GET, LANE_RENEW (R161 to R164) -/

/-- A lane's entry of the HEALTH reply (R199). -/
def State.laneHealthBytes (l : LaneId) (s : State) : List Byte :=
  let w := s.health.lanes[l]
  [byte s.lanes[l].state.code, byte w.life] ++ nat32 w.counts.largest ++ nat16 w.marks.length ++ [flag w.countLost]

/-- The data of the HEALTH reply (R161, R199). -/
def State.healthData (s : State) : List Byte :=
  let h := s.health
  [byte h.life, byte h.record.lifeWorst, byte h.inService, byte h.spares, byte h.sparePct, flag h.low,
    flag h.record.latch] ++ nat32 h.record.hotOps ++ nat32 h.record.coilFaults ++ nat32 h.record.ocFaults
    ++ (allLanes.map fun l => s.laneHealthBytes l).flatten

/-- HEALTH (R161). -/
def State.takeHealth (h : Head) (s : State) : State :=
  if h.site ≠ partByte then s.refuse 0x11 h .badSite else s.answer 0x11 h s.healthData

/-- The counts and marks of `n` relays from `first` on. -/
def countBytes (w : LaneHealth) (first n : Nat) : List Byte :=
  ((List.range n).map fun k =>
    nat32 (w.counts.get (Fin.ofNat 268 (first + k))) ++ [flag (w.marks.contains (Fin.ofNat 268 (first + k)))]).flatten

/-- COUNT_GET (R162; BAD_SITE comes first, log entry 33). -/
def State.takeCountGet (lane : Byte) (first : BitVec 16) (number : Byte) (h : Head) (s : State) : State :=
  if h.site ≠ partByte then s.refuse 0x12 h .badSite
  else
    match fin? 16 lane with
    | none => s.refuse 0x12 h .badField
    | some l =>
      if 267 < first.toNat ∨ number.toNat = 0 ∨ 128 < number.toNat ∨ 268 < first.toNat + number.toNat then
        s.refuse 0x12 h .badField
      else
        let w := s.health.lanes[l]
        s.answer 0x12 h ([lane] ++ bytes16 first ++ [number] ++ nat32 w.unsaved
          ++ [flag (s.store.pendingWrites.contains (laneItem l))] ++ countBytes w first.toNat number.toNat)

/-- A LANE_RENEW that is taken: the seven effects of R163 in order. -/
def State.renewLane (l : LaneId) (tag : Byte) (s : State) : State :=
  let old := s.health.lanes[l]
  let oldRecord := s.health.record
  let s := s.modWear l fun _ => LaneHealth.fresh
  let s := s.computeLife l
  let s :=
    if s.lanes[l].state = .retired then (s.modLane l fun x => { x with state := .free }).serveLaneWaiters else s
  let s := s.recompute
  let s := s.modHealth fun h =>
    { h with record := { h.record with latch := h.record.latch && s.levelReached, lifeWorst := h.life } }
  let s := s.await { owner := .laneRenew l, tag := tag, failed := [] } [laneItem l, healthItem]
  let s := s.touchIf (decide (old.counts ≠ [] ∨ old.marks ≠ [])) (laneItem l)
  let s := s.touchIf (decide (s.health.record ≠ oldRecord)) healthItem
  (s.due (laneItem l)).due healthItem

/-- LANE_RENEW (R163). -/
def State.takeLaneRenew (lane : Byte) (h : Head) (s : State) : State :=
  if h.site ≠ partByte then s.refuse 0x13 h .badSite
  else
    match fin? 16 lane with
    | none => s.refuse 0x13 h .badField
    | some l =>
      if decide (s.lanes[l].state = .inUse) || decide (s.lanes[l].state = .retiring) || s.hasReq (.laneRenew l) then
        s.refuse 0x13 h .busy
      else s.renewLane l h.tag

/-! ### SAVE, RESET, TIME (R170, R179, R183, R184) -/

/-- SAVE (R179; BAD_SITE comes first, log entry 33). -/
def State.takeSaveRequest (h : Head) (s : State) : State :=
  if h.site ≠ partByte then s.refuse 0x14 h .badSite
  else if s.hasReq .save || s.fullReset then s.refuse 0x14 h .busy
  else s.takeSave .save h.tag

/-- A site at the event a RESET is taken: its running step is stopped and its queue discarded with no DONE (R28). -/
def State.resetStop (i : SiteId) (s : State) : State :=
  (s.stopRunning i).modSite i fun x => { x with queue := [], running := none, held := false, carried := [] }

/-- A site goes on at a RESET according to its state (R28, R89). -/
def State.resetSite (i : SiteId) (s : State) : State :=
  match s.sites[i].state with
  | .aborting => s
  | .safing => s
  | .safe =>
    if s.sites[i].clear.isSome then s
    else if s.holdsRoute i then s.siteEnded i
    else (s.modSite i fun x => { x with state := .idle, stopCause := none }).siteEnded i
  | _ =>
    (s.modSite i fun x => { x with state := .aborting, stopCause := none, teardown := some .runReset }).beginTeardown i

/-- A RESET that is taken: the blocks and the completion queue are emptied, every step stopped, every site torn down
(R28, R145, R183, R192). -/
def State.beginReset (full : Bool) (tag : Byte) (s : State) : State :=
  let s := s.discardResults.modLink fun k => { k with completion := [], doneWaiting := [] }
  let s := forEach allSites State.resetStop s
  let s : State :=
    { s with resetReq := some { tag := tag, full := full, phase := .teardown, waiting := allSites,
                                ends := s.sites.map Site.state } }
  forEach allSites State.resetSite s

/-- RESET (R183, R184; BAD_SITE comes first, then BAD_FIELD, log entry 33). -/
def State.takeReset (mode : Byte) (h : Head) (s : State) : State :=
  if h.site ≠ partByte then s.refuse 0x15 h .badSite
  else if 1 < mode.toNat then s.refuse 0x15 h .badField
  else if s.resetReq.isSome then s.refuse 0x15 h .busy
  else s.beginReset (decide (mode = 1)) h.tag

/-- The data of the TIME reply, from one snapshot (R170, R199). -/
def State.timeData (s : State) : List Byte :=
  nat32 (s.count / 1000000) ++ nat32 (s.count % 1000000)
    ++ [flag s.time.uncertain, byte s.time.source.code, byte s.time.monitor.code]

/-- TIME (R170). -/
def State.takeTime (ack : Bool) (h : Head) (s : State) : State :=
  if h.site ≠ partByte then s.refuse 0x16 h .badSite
  else
    let s :=
      if ack && decide (s.time.monitor = .present) then s.modTime fun b => { b with uncertain := false } else s
    s.answer 0x16 h s.timeData

/-- Hand a request to its owning block (R189 step 3). -/
def State.takeRequest (r : Request) (h : Head) (s : State) : State :=
  match r with
  | .status => s.takeStatus h
  | .step q => s.takeStep q h
  | .hold => s.takeHold h
  | .resume => s.takeResume h
  | .abort => s.takeAbort h
  | .clear force => s.takeClear force h
  | .reachGet => s.takeReachGet h
  | .reachSet a b empty hv retain => s.takeReachSet { range := if empty then none else some (a, b), hv := hv } retain h
  | .reachFreeze => s.takeReachFreeze h
  | .portGet p => s.takePortGet p h
  | .portSet p k hv style width => s.takePortSet p k hv style width h
  | .routeGet => s.takeRouteGet h
  | .calGet r => s.takeCalGet r h
  | .calSet r z g => s.takeCalSet r z g h
  | .configGet a n => s.takeConfigGet a n h
  | .configSet pairs => s.takeConfigSet pairs h
  | .health => s.takeHealth h
  | .countGet l first n => s.takeCountGet l first n h
  | .laneRenew l => s.takeLaneRenew l h
  | .save => s.takeSaveRequest h
  | .reset mode => s.takeReset mode h
  | .time ack => s.takeTime ack h

end Sys2Proof.Machine
end

