-- ==== Sys2Proof/Machine/Link.lean ====
section
/-! DEFINITION. LINK's receiver, its receive slots, the dispatch of frames, and the transmitter's choice (R187 to R190,
R194). -/

namespace Sys2Proof.Machine

/-! ### The receiver (R187, R188) -/

/-- A frame is discarded: the receiver hunts again and LINK_ERROR is raised with the count at the discard (R187). -/
def State.discardFrame (c : LinkCause) (s : State) : State :=
  (s.modLink fun k => { k with rx := .hunting }).notice (.linkError c s.count)

/-- A frame whose CRC is good has ended: it is discarded with OVERRUN if the four slots are full, else it enters a slot
and restarts the silence timer; its dispatch may follow at this event (R171, R187, R189). -/
def State.receiveGood (f : Frame) (s : State) : State :=
  if Config.receiveSlots ≤ s.link.slots.length then s.discardFrame .overrun
  else ((s.modLink fun k => { k with rx := .hunting, slots := k.slots ++ [f] }).silenceFrame).push .dispatch

/-- LEN of a frame (R186). -/
def frameLen (f : Frame) : Nat := 3 + f.payload.length

/-- LEN is in its range (R186). -/
def lenGood (n : Nat) : Bool := decide (3 ≤ n ∧ n ≤ 1027)

/-- The last byte of a frame arrives (R187). -/
def State.frameEnd (f : Frame) (crc : BitVec 16) (s : State) : State :=
  if !lenGood (frameLen f) then s.discardFrame .length
  else if crc ≠ frameCrc f then s.discardFrame .crc
  else s.receiveGood f

/-- A byte in HUNTING: only 0x7E begins a frame (R187). -/
def State.huntByte (b : Byte) (s : State) : State :=
  if b = 0x7E then s.modLink fun k => { k with rx := .receiving [] s.time.now } else s

/-- The bytes of a frame after START, once all have come: KIND, TAG, SITE, PAYLOAD and CRC. -/
def parseFrame (rest : List Byte) : Option (Frame × BitVec 16) :=
  match rest with
  | k :: t :: i :: more =>
    let n := more.length - 2
    match more.drop n with
    | [c0, c1] => some ({ kind := k, tag := t, site := i, payload := more.take n }, le16 c0 c1)
    | _ => none
  | _ => none

/-- What the bytes after START come to: LEN is judged at its second byte, the frame ends with LEN + 2 further bytes
(R187). -/
def State.takeBytes (bytes : List Byte) (s : State) : State :=
  let go := s.modLink fun k => { k with rx := .receiving bytes s.time.now }
  match bytes with
  | l0 :: l1 :: rest =>
    let len := (le16 l0 l1).toNat
    if !lenGood len then s.discardFrame .length
    else if rest.length < len + 2 then go
    else
      match parseFrame rest with
      | some (f, crc) => s.frameEnd f crc
      | none => go
  | _ => go

/-- A byte arrives (R187). More than 2 ms after the byte before it, it ends the gap: the frame is discarded and hunting
resumes with this byte. -/
def State.byteArrives (b : Byte) (s : State) : State :=
  match s.link.rx with
  | .hunting => s.huntByte b
  | .receiving bytes last =>
    if Config.rxGap < s.time.now - last then (s.discardFrame .gap).huntByte b else s.takeBytes (bytes ++ [b])

/-- More than 2 ms of the count have passed since the last byte of an unfinished frame (R187, log entry 23). -/
def State.gapDue (s : State) : Bool :=
  match s.link.rx with
  | .hunting => false
  | .receiving _ last => decide (Config.rxGap < s.time.now - last)

/-- The gap of an unfinished frame is complete (R187); an event before that has no effect. -/
def State.gapEnds (s : State) : State := if s.gapDue then s.discardFrame .gap else s

/-! ### Dispatch (R189) -/

/-- Step 4 of a dispatch: the handshake marker, and the next frame's turn. -/
def State.afterDispatch (f : Frame) (s : State) : State :=
  (s.modLink fun k => { k with marker := some (f.kind, f.site) }).push .dispatch

/-- Steps 2 and 3 of a dispatch: LINK's own checks, then the owning block. -/
def State.judge (f : Frame) (s : State) : State :=
  match checkFrame f with
  | .error c => s.reply f.kind f.tag f.site c []
  | .ok r => s.takeRequest r ⟨f.tag, f.site⟩

/-- Dispatch the oldest frame, if a reply place is free (R189). -/
def State.dispatchOne (s : State) : State :=
  match s.link.slots with
  | [] => s
  | f :: rest =>
    if s.linkUp && decide (s.link.reserved < Config.replyPlaces) then
      ((s.modLink fun k => { k with slots := rest, reserved := k.reserved + 1 }).judge f).afterDispatch f
    else s

/-! ### The transmitter (R190, R192 to R194) -/

/-- The pending notice of lowest kind number (R194). -/
def State.firstNotice (s : State) : Option NoticeEntry := allKinds.findSome? fun k => s.link.notices[k]

/-- The frame the transmitter takes: the first of reply queue, completion queue, notices and result blocks that holds
something (R194). -/
def State.nextFrame (s : State) : Option TxFrame :=
  match s.link.replies with
  | r :: _ => some (.reply r)
  | [] =>
    match s.link.completion with
    | d :: _ => some (.done d)
    | [] =>
      match s.firstNotice with
      | some e => some (.notice e)
      | none =>
        match s.results.outbound with
        | b :: _ => some (.result b)
        | [] => none

/-- Beginning a frame removes what it carries from its queue or set (R194); a REPLY frees its place (R190). -/
def State.beginFrame (f : TxFrame) (s : State) : State :=
  let s := s.modLink fun k => { k with tx := some f }
  match f with
  | .reply _ => s.modLink fun k => { k with replies := k.replies.tail, reserved := k.reserved - 1 }
  | .done _ => s.modLink fun k => { k with completion := k.completion.tail }
  | .notice e => s.modLink fun k => { k with notices := upd k.notices e.notice.kind fun _ => none }
  | .result _ => { s with results := { s.results with outbound := s.results.outbound.tail } }

/-- What a freed place lets in at the same event: a frame's dispatch (R189), a waiting DONE (R192), a waiting block
(R139). -/
def State.placeFreed (f : TxFrame) (s : State) : State :=
  match f with
  | .reply _ => s.push .dispatch
  | .done _ => s.push .admitDone
  | .notice _ => s
  | .result _ => s.admitBlock

/-- The transmitter may begin a frame: it is free, RTS is asserted and the link is up (R194, R184). -/
def State.mayBegin (s : State) : Bool := s.linkUp && s.link.tx.isNone && s.pins.rts

/-- The transmitter chooses at the end of an event at which it is free (R194, log entry 6). -/
def State.pump (s : State) : State :=
  if s.mayBegin then
    match s.nextFrame with
    | some f => (s.beginFrame f).placeFreed f
    | none => s
  else s

/-- The transmitter finishes its frame. The end of a FULL reset's REPLY begins the last phase of the reset (R184). -/
def State.frameSent (s : State) : State :=
  let t := s.modLink fun k => { k with tx := none }
  match s.link.tx with
  | some (.reply r) =>
    if r.fullReset then { t with resetReq := t.resetReq.map fun q => { q with phase := .startup } } else t
  | _ => t

end Sys2Proof.Machine
end

