-- ==== Sys2Proof/Machine/Settle.lean ====
section
/-! DEFINITION. The end of an event: the follow-ups on the agenda run at the same event, then the transmitter chooses
(log entry 6). -/

namespace Sys2Proof.Machine

/-- Run one follow-up. -/
def State.runTask (t : Task) (s : State) : State :=
  match t with
  | .next i => s.tryStart i
  | .done d => s.handleDone d
  | .closure i c => s.closeNow i c
  | .claimExpired i => s.claimExpired i
  | .waitExpired i => s.waitExpired i
  | .operateExpired l => s.operateExpired l
  | .settleExpired l => s.settleExpired l
  | .releaseExpired l => s.releaseExpired l
  | .ocExpired l => s.ocExpired l
  | .doneExpired p => s.doneExpired p
  | .dispatch => s.dispatchOne
  | .admitDone => s.admitDone

/-- Run the agenda in the order of its ranks, at most `n` follow-ups; those that a follow-up brings join the ones that wait. -/
def drain : Nat → State → State
  | 0, s => s
  | n + 1, s =>
    match s.agenda with
    | [] => s
    | t :: ts => drain n (({ s with agenda := ts } : State).runTask t)

/-- Finish an event: the agenda, the transmitter's choice, and what that choice brings. -/
def State.settle (s : State) : State := drain Config.cascadeBound (drain Config.cascadeBound s).pump

/-- The outcome of an event: the settled state, or a fault where the follow-ups did not end within the bound. -/
def State.finish (s : State) : Host.Outcome State Fault Refusal :=
  if s.settle.agenda = [] then .next s.settle else .fault .cascade

/-- An event that reaches a part with power; without power it has no effect (log entry 10). -/
def event (f : State → State) (s : State) : Host.Outcome State Fault Refusal :=
  if s.powered then (f s).finish else .next s

/-- The arrival of the good frame that carries a request (log entry 5). While the link is down it is discarded without a
notice (R182, R184). -/
def request (r : Request) (tag site : Byte) (s : State) : Host.Outcome State Fault Refusal :=
  event (fun s => if s.linkUp then s.receiveGood (requestFrame r tag site) else s) s

end Sys2Proof.Machine
end

