-- ==== Sys2Proof/Machine/Startup.lean ====
section
/-! DEFINITION. Start-up, the reset pin and the loss of power (R27, R44, R72, R92, R93, R116, R146, R165, R174, R178,
R182, R185, R195). -/

namespace Sys2Proof.Machine

/-- The configuration items and the port descriptions of a start-up; port 0's description is fixed (R182, R29). -/
def Stored.loadConfig (n : Stored) : ConfigItems × Vector PortDesc 12 :=
  match n.readConfig with
  | some (items, ports) => (items, ports.set 0 PortDesc.meter)
  | none => (.default, PortDesc.defaults)

/-- The calibration of a start-up (R116). -/
def Stored.loadCal (n : Stored) : Vector Cal 6 :=
  match n.readCal with
  | some v => v.map fun c => { c with uncal := false }
  | none => Vector.replicate 6 { Cal.default with uncal := true }

/-- The retained reaches of a start-up (R182). -/
def Stored.loadReach (n : Stored) : Vector Reach 4 := n.readReach.getD (Vector.replicate 4 .none)

/-- The HEALTH record of a start-up (R165). -/
def Stored.loadHealth (n : Stored) : HealthRecord := n.readHealth.getD .fresh

/-- A lane's wear at a start-up (R165, R182), with its life from RATED_LIFE (R154). -/
def loadWear (rated : Nat) (r : Option (Counts × List Relay)) : LaneHealth :=
  match r with
  | some (c, m) => { counts := c, marks := m, countLost := false, unsaved := 0, life := lifePercent rated c.largest }
  | none => { counts := [], marks := [], countLost := true, unsaved := 0, life := lifePercent rated 0 }

/-- A site at a start-up (R27): its working reach equals its retained copy. -/
def Site.started (r : Reach) : Site := { Site.fresh with reach := r, retained := r }

/-- A lane comes up RETIRED if it has a mark, or is at life 0 with RETIRE_AT_END on; else FREE (R72). -/
def Lane.started (retire : Bool) (w : LaneHealth) : Lane :=
  { Lane.fresh with state := if !w.marks.isEmpty || (retire && decide (w.life = 0)) then .retired else .free }

/-- The load order of the items (R182). -/
def loadOrder : List ItemId := [16, 17, 18, 19, 0, 1, 2, 3, 4, 5, 6, 7, 8, 9, 10, 11, 12, 13, 14, 15]

/-- TIMEBASE at a start-up (R174). -/
def TimeBase.started (edges : Bool) (silence : Duration) : TimeBase :=
  { now := 0
    source := if edges then .reference else .oscillator
    monitor := if edges then .present else .lost
    uncertain := !edges
    silence := if Duration.count silence = 0 then .off else .waitingFirst }

/-- STORE at a start-up (R176, R182, R185). -/
def Store.started (n : Stored) : Store :=
  { stored := n, config := n.loadConfig.1, differs := Vector.ofFn n.fails, pendingWrites := [], inFlight := none,
    loadFailed := Vector.ofFn n.fails, awaits := [], reqs := [] }

/-- Every block once the items are loaded, before HEALTH's recomputation (R182). -/
def State.loaded (s : State) : State :=
  let n := s.store.stored
  let items := n.loadConfig.1
  let wear := Vector.ofFn fun l : LaneId => loadWear (items[(4 : Fin 16)]).toNat (n.readLane l)
  { powered := true
    freeze := false
    pins := s.pins
    link := Link.fresh s.pins.straps
    sites := n.loadReach.map Site.started
    ports := n.loadConfig.2.map Port.fresh
    lanes := wear.map (Lane.started (items[(12 : Fin 16)] != 0))
    laneWaiters := []
    meter := { cal := n.loadCal, acq := none }
    results := { sites := Vector.replicate 4 .fresh, outbound := [], waiting := [] }
    health := { lanes := wear, record := n.loadHealth, life := 0, inService := 0, spares := 0, sparePct := 0,
                low := false }
    time := TimeBase.started s.pins.refEdges ((items[(1 : Fin 16)]).setWidth 16)
    store := Store.started n
    resetReq := none
    agenda := []
    freeReads := s.freeReads
    pending := s.pending }

/-- The notices of a start-up: STORE_FAULT for each failed item in the load order, CLOCK if the reference is absent
(R174, R182, log entry 15). -/
def State.loadNotices (s : State) : State :=
  let s := forEach (loadOrder.filter fun it => s.store.loadFailed[it]) (fun it s => s.notice (.storeFault it false)) s
  if s.pins.refEdges then s else s.notice (.clock .oscillator 0)

/-- The start-up sequence (R182): items loaded, HEALTH's recomputation with the leveling latch, then the notices. A first
STATE of LOW raises its HEALTH notice there. No item is due after it (R182, R185, log entry 13). -/
def State.startUp (s : State) : State := s.loaded.recompute.loadNotices

/-- The write in flight is cut off; `cut` is what the store then holds (R178). -/
def State.cutWrite (cut : CutOff) (s : State) : State :=
  s.modStore fun t => { t with stored := t.stored.cutOff t.inFlight cut, inFlight := none }

/-- The part without power: the store and the inputs stand, everything else is lost (R178, log entry 26). -/
def State.unpowered (s : State) : State :=
  { State.reset with
    powered := false
    pins := s.pins
    store := { State.reset.store with stored := s.store.stored }
    freeReads := s.freeReads
    pending := s.pending }

end Sys2Proof.Machine
end

