-- ==== Sys2Proof/Machine/LinkCommands.lean ====
section
/-! DEFINITION. The commands of the control link: FRAME_RECEIVED, RX_GAP_TIMEOUT, FRAME_DISPATCH, BYTE_RECEIVED,
RTS_RISE, RTS_FALL, TX_FRAME_END. -/

namespace Sys2Proof.Machine

/-- An event of the receiver: while the link is down every byte is discarded without a notice (R182, R184). -/
def receiverEvent (f : State → State) (s : State) : Host.Outcome State Fault Refusal :=
  event (fun s => if s.linkUp then f s else s) s

/-- An event of an input pin: without power only the pin changes (log entry 26). -/
def inputEvent (pin : Pins → Pins) (f : State → State) (s : State) : Host.Outcome State Fault Refusal :=
  if s.powered then (f s).finish else .next (s.modPins pin)

/-- FRAME_RECEIVED (R187, R188). -/
def execFrameReceived (f : Frame) (crc : BitVec 16) (s : State) : Host.Outcome State Fault Refusal :=
  receiverEvent (State.frameEnd f crc) s

/-- RX_GAP_TIMEOUT (R187). -/
def execRxGapTimeout (s : State) : Host.Outcome State Fault Refusal := receiverEvent State.gapEnds s

/-- FRAME_DISPATCH (R189). -/
def execFrameDispatch (s : State) : Host.Outcome State Fault Refusal := event State.dispatchOne s

/-- BYTE_RECEIVED (R187). -/
def execByteReceived (b : Byte) (s : State) : Host.Outcome State Fault Refusal := receiverEvent (State.byteArrives b) s

/-- The host asserts RTS. -/
def rtsUp (p : Pins) : Pins := { p with rts := true }

/-- The host deasserts RTS. -/
def rtsDown (p : Pins) : Pins := { p with rts := false }

/-- RTS_RISE (R194): the transmitter resumes its frame or begins the next. -/
def execRtsRise (s : State) : Host.Outcome State Fault Refusal := inputEvent rtsUp (State.modPins rtsUp) s

/-- RTS_FALL (R194): the transmitter begins no frame (log entry 29). -/
def execRtsFall (s : State) : Host.Outcome State Fault Refusal := inputEvent rtsDown (State.modPins rtsDown) s

/-- TX_FRAME_END (R194, R184). -/
def execTxFrameEnd (s : State) : Host.Outcome State Fault Refusal := event State.frameSent s

end Sys2Proof.Machine
end

