-- ==== Sys2Proof/Machine/EventCommands.lean ====
section
/-! DEFINITION. The commands of the timers, the lanes, the instruments, the meter, the reference and the store: each hands
its event to the block concerned (Sys2Proof/Machine/Events.lean, Sys2Proof/Machine/Store.lean). -/

namespace Sys2Proof.Machine

/-- Lane `l` reads live. -/
def liveUp (l : LaneId) (p : Pins) : Pins := { p with live := upd p.live l fun _ => true }

/-- Lane `l` reads quiet. -/
def liveDown (l : LaneId) (p : Pins) : Pins := { p with live := upd p.live l fun _ => false }

/-- OVER of lane `l` reads high. -/
def overUp (l : LaneId) (p : Pins) : Pins := { p with overIn := upd p.overIn l fun _ => true }

/-- OVER of lane `l` reads low. -/
def overDown (l : LaneId) (p : Pins) : Pins := { p with overIn := upd p.overIn l fun _ => false }

/-- The done line of port `q` is asserted; port 0 has none. -/
def doneUp (q : PortId) (p : Pins) : Pins := if q = 0 then p else { p with done := upd p.done q fun _ => true }

/-- The done line of port `q` is deasserted. -/
def doneDown (q : PortId) (p : Pins) : Pins := { p with done := upd p.done q fun _ => false }

/-- The reference shows no edges. -/
def edgesStop (p : Pins) : Pins := { p with refEdges := false }

/-- The reference shows edges. -/
def edgesCome (p : Pins) : Pins := { p with refEdges := true }

/-- CLAIM_TIMER_EXPIRY (R34, R62). -/
def execClaimTimerExpiry (site : SiteId) (s : State) : Host.Outcome State Fault Refusal :=
  event (State.claimExpired site) s

/-- LOAD_DONE (R48, R50: the readback is the set of relays whose coils were found open or shorted). -/
def execLoadDone (lane : LaneId) (readback : List Relay) (s : State) : Host.Outcome State Fault Refusal :=
  event (State.loadEnds lane readback) s

/-- OPERATE_WAIT_EXPIRY (R51, R59). -/
def execOperateWaitExpiry (lane : LaneId) (s : State) : Host.Outcome State Fault Refusal :=
  event (State.operateExpired lane) s

/-- SETTLE_WAIT_EXPIRY (R51, R59, R69). -/
def execSettleWaitExpiry (lane : LaneId) (s : State) : Host.Outcome State Fault Refusal :=
  event (State.settleExpired lane) s

/-- RELEASE_WAIT_EXPIRY (R51, R66, R69, R90). -/
def execReleaseWaitExpiry (lane : LaneId) (s : State) : Host.Outcome State Fault Refusal :=
  event (State.releaseExpired lane) s

/-- LIVE_RISE (R75). -/
def execLiveRise (lane : LaneId) (s : State) : Host.Outcome State Fault Refusal :=
  inputEvent (liveUp lane) (State.liveRises lane) s

/-- LIVE_FALL (R75, R77). -/
def execLiveFall (lane : LaneId) (s : State) : Host.Outcome State Fault Refusal :=
  inputEvent (liveDown lane) (State.liveFalls lane) s

/-- DISCHARGE_TIMER_EXPIRY (R78, R79). -/
def execDischargeTimerExpiry (lane : LaneId) (s : State) : Host.Outcome State Fault Refusal :=
  event (State.dischargeExpired lane) s

/-- OVER_RISE (R81). -/
def execOverRise (lane : LaneId) (s : State) : Host.Outcome State Fault Refusal :=
  inputEvent (overUp lane) (State.overRises lane) s

/-- OVER_FALL (R82). -/
def execOverFall (lane : LaneId) (s : State) : Host.Outcome State Fault Refusal :=
  inputEvent (overDown lane) (State.overFalls lane) s

/-- OC_PERSIST_EXPIRY (R83). -/
def execOcPersistExpiry (lane : LaneId) (s : State) : Host.Outcome State Fault Refusal :=
  event (State.ocExpired lane) s

/-- DONE_LINE_ASSERT (R41; port 0 has no done line). -/
def execDoneLineAssert (port : PortId) (s : State) : Host.Outcome State Fault Refusal :=
  inputEvent (doneUp port) (State.doneAsserted port) s

/-- DONE_LINE_DEASSERT (R41). -/
def execDoneLineDeassert (port : PortId) (s : State) : Host.Outcome State Fault Refusal :=
  inputEvent (doneDown port) (State.doneDeasserted port) s

/-- DONE_TIMER_EXPIRY (R42). -/
def execDoneTimerExpiry (port : PortId) (s : State) : Host.Outcome State Fault Refusal :=
  event (State.doneExpired port) s

/-- PULSE_TIMER_EXPIRY (R39, R40). -/
def execPulseTimerExpiry (port : PortId) (s : State) : Host.Outcome State Fault Refusal :=
  event (State.pulseExpired port) s

/-- SAMPLE_TIMER_EXPIRY (R99: `sample` is the converter's output, signed). -/
def execSampleTimerExpiry (sample : BitVec 18) (s : State) : Host.Outcome State Fault Refusal :=
  event (State.sampleExpired sample) s

/-- RANGE_SWITCH_EXPIRY (R108). -/
def execRangeSwitchExpiry (s : State) : Host.Outcome State Fault Refusal :=
  event State.rangeSwitchExpired s

/-- WAIT_TIMER_EXPIRY (R173). -/
def execWaitTimerExpiry (site : SiteId) (s : State) : Host.Outcome State Fault Refusal :=
  event (State.waitExpired site) s

/-- SILENCE_EXPIRY (R172). -/
def execSilenceExpiry (s : State) : Host.Outcome State Fault Refusal :=
  event State.silenceExpired s

/-- REFERENCE_LOST (R169). -/
def execReferenceLost (s : State) : Host.Outcome State Fault Refusal :=
  inputEvent edgesStop State.referenceLost s

/-- REFERENCE_EDGE (R169). -/
def execReferenceEdge (s : State) : Host.Outcome State Fault Refusal :=
  inputEvent edgesCome State.referenceEdge s

/-- QUALIFICATION_END (R169). -/
def execQualificationEnd (s : State) : Host.Outcome State Fault Refusal :=
  event State.qualificationEnds s

/-- STORE_WRITE_DONE (R176 to R178: `verified` is the result of the read-back verification). -/
def execStoreWriteDone (verified : Bool) (s : State) : Host.Outcome State Fault Refusal :=
  event (State.writeDone verified) s

end Sys2Proof.Machine
end

