-- ==== Sys2Proof/Machine/PowerCommands.lean ====
section
/-! DEFINITION. The commands of the supply, the reset pin and the start-up: POWER_ON, RESET_PIN, STARTUP, POWER_LOSS. -/

namespace Sys2Proof.Machine

/-- POWER_ON (R72, R182): the start-up runs from nothing (log entry 10). -/
def execPowerOn (s : State) : Host.Outcome State Fault Refusal := s.startUp.finish

/-- RESET_PIN (R44, R92, R178, R185, R195): the write in flight is cut off, everything but the store and the inputs is
discarded, and the start-up runs. -/
def execResetPin (cut : CutOff) (s : State) : Host.Outcome State Fault Refusal :=
  event (fun s => (s.cutWrite cut).startUp) s

/-- STARTUP (R182, R184): a FULL reset's start-up, once its reply has left and no write is in flight (log entry 21). -/
def execStartup (s : State) : Host.Outcome State Fault Refusal :=
  event (fun s => if s.inPhase .startup && s.store.inFlight.isNone then s.startUp else s) s

/-- POWER_LOSS (R178): the write in flight is cut off and all RAM state is lost (log entry 26). -/
def execPowerLoss (cut : CutOff) (s : State) : Host.Outcome State Fault Refusal :=
  if s.powered then .next (s.cutWrite cut).unpowered else .next s

end Sys2Proof.Machine
end

