-- ==== Sys2Proof/Machine/RequestCommands.lean ====
section
/-! DEFINITION. The request commands: each is the arrival of the good frame that carries the request (log entry 5). The
frame is dispatched at that event if a reply place is free, and its owning block takes it as Sys2Proof/Machine/Requests.lean
says (R189). -/

namespace Sys2Proof.Machine

/-- STATUS (R191). -/
def execStatus (tag site : Byte) (s : State) : Host.Outcome State Fault Refusal :=
  request .status tag site s

/-- STEP_CONNECT (R5, R6, R33). -/
def execStepConnect (tag site handle port : Byte) (settle claimTimeout : Duration) (pins : List Pin) (s : State) :
    Host.Outcome State Fault Refusal :=
  request (.step (.connect handle port settle claimTimeout pins)) tag site s

/-- STEP_ARM (R5, R6, R64). -/
def execStepArm (tag site handle : Byte) (s : State) : Host.Outcome State Fault Refusal :=
  request (.step (.arm handle)) tag site s

/-- STEP_DISARM (R5, R6, R80). -/
def execStepDisarm (tag site handle : Byte) (s : State) : Host.Outcome State Fault Refusal :=
  request (.step (.disarm handle)) tag site s

/-- STEP_RELEASE (R5, R6, R65). -/
def execStepRelease (tag site handle : Byte) (s : State) : Host.Outcome State Fault Refusal :=
  request (.step (.release handle)) tag site s

/-- STEP_MEASURE (R5, R6, R117). -/
def execStepMeasure (tag site : Byte) (m : MeterReq) (s : State) : Host.Outcome State Fault Refusal :=
  request (.step (.measure m)) tag site s

/-- STEP_SCAN (R5, R6, R118). -/
def execStepScan (tag site : Byte) (m : MeterReq) (settle : Duration) (points : List ScanPoint) (s : State) :
    Host.Outcome State Fault Refusal :=
  request (.step (.scan m settle points)) tag site s

/-- STEP_TRIGGER (R5, R6, R38). -/
def execStepTrigger (tag site handle : Byte) (doneTimeout : Duration) (s : State) :
    Host.Outcome State Fault Refusal :=
  request (.step (.trigger handle doneTimeout)) tag site s

/-- STEP_WAIT (R5, R6, R173). -/
def execStepWait (tag site : Byte) (duration : Duration) (s : State) : Host.Outcome State Fault Refusal :=
  request (.step (.wait duration)) tag site s

/-- STEP_FLUSH (R5, R6, R141). -/
def execStepFlush (tag site : Byte) (s : State) : Host.Outcome State Fault Refusal :=
  request (.step .flush) tag site s

/-- HOLD (R14). -/
def execHold (tag site : Byte) (s : State) : Host.Outcome State Fault Refusal :=
  request .hold tag site s

/-- RESUME (R15). -/
def execResume (tag site : Byte) (s : State) : Host.Outcome State Fault Refusal :=
  request .resume tag site s

/-- ABORT (R16 to R18). -/
def execAbort (tag site : Byte) (s : State) : Host.Outcome State Fault Refusal :=
  request .abort tag site s

/-- CLEAR (R19, R20). -/
def execClear (tag site : Byte) (s : State) : Host.Outcome State Fault Refusal :=
  request (.clear false) tag site s

/-- CLEAR_FORCE (R19, R21). -/
def execClearForce (tag site : Byte) (s : State) : Host.Outcome State Fault Refusal :=
  request (.clear true) tag site s

/-- REACH_GET (R22). -/
def execReachGet (tag site : Byte) (s : State) : Host.Outcome State Fault Refusal :=
  request .reachGet tag site s

/-- REACH_SET (R23 to R25). -/
def execReachSet (tag site : Byte) (first last : Pin) (empty hv retain : Bool) (s : State) :
    Host.Outcome State Fault Refusal :=
  request (.reachSet first last empty hv retain) tag site s

/-- REACH_FREEZE (R26). -/
def execReachFreeze (tag site : Byte) (s : State) : Host.Outcome State Fault Refusal :=
  request .reachFreeze tag site s

/-- PORT_GET (R30). -/
def execPortGet (tag site port : Byte) (s : State) : Host.Outcome State Fault Refusal :=
  request (.portGet port) tag site s

/-- PORT_SET (R31). -/
def execPortSet (tag site port kind : Byte) (hv : Bool) (style : Byte) (width : BitVec 16) (s : State) :
    Host.Outcome State Fault Refusal :=
  request (.portSet port kind hv style width) tag site s

/-- ROUTE_GET (R53). -/
def execRouteGet (tag site : Byte) (s : State) : Host.Outcome State Fault Refusal :=
  request .routeGet tag site s

/-- CAL_GET (R113). -/
def execCalGet (tag site range : Byte) (s : State) : Host.Outcome State Fault Refusal :=
  request (.calGet range) tag site s

/-- CAL_SET (R114). -/
def execCalSet (tag site range : Byte) (z g : BitVec 16) (s : State) : Host.Outcome State Fault Refusal :=
  request (.calSet range z g) tag site s

/-- CONFIG_GET (R181). -/
def execConfigGet (tag site start count : Byte) (s : State) : Host.Outcome State Fault Refusal :=
  request (.configGet start count) tag site s

/-- CONFIG_SET (R180). -/
def execConfigSet (tag site : Byte) (pairs : List (Byte × BitVec 32)) (s : State) :
    Host.Outcome State Fault Refusal :=
  request (.configSet pairs) tag site s

/-- HEALTH (R161). -/
def execHealth (tag site : Byte) (s : State) : Host.Outcome State Fault Refusal :=
  request .health tag site s

/-- COUNT_GET (R162). -/
def execCountGet (tag site lane : Byte) (first : BitVec 16) (number : Byte) (s : State) :
    Host.Outcome State Fault Refusal :=
  request (.countGet lane first number) tag site s

/-- LANE_RENEW (R163, R164). -/
def execLaneRenew (tag site lane : Byte) (s : State) : Host.Outcome State Fault Refusal :=
  request (.laneRenew lane) tag site s

/-- SAVE (R179). -/
def execSave (tag site : Byte) (s : State) : Host.Outcome State Fault Refusal :=
  request .save tag site s

/-- RESET with mode RUN (R183). -/
def execResetRun (tag site : Byte) (s : State) : Host.Outcome State Fault Refusal :=
  request (.reset 0) tag site s

/-- RESET with mode FULL (R183, R184). -/
def execResetFull (tag site : Byte) (s : State) : Host.Outcome State Fault Refusal :=
  request (.reset 1) tag site s

/-- TIME (R170). -/
def execTime (tag site : Byte) (acknowledge : Bool) (s : State) : Host.Outcome State Fault Refusal :=
  request (.time acknowledge) tag site s

end Sys2Proof.Machine
end

