-- ==== Sys2Proof/Machine/Dispatch.lean ====
section
/-! DEFINITION. The meaning of every command. -/

namespace Sys2Proof.Machine

def exec (i : Instr) (s : State) : Host.Outcome State Fault Refusal :=
  match i with
  | .powerOn => Sys2Proof.Machine.execPowerOn s
  | .resetPin cut => Sys2Proof.Machine.execResetPin cut s
  | .startup => Sys2Proof.Machine.execStartup s
  | .frameReceived frame crc => Sys2Proof.Machine.execFrameReceived frame crc s
  | .rxGapTimeout => Sys2Proof.Machine.execRxGapTimeout s
  | .frameDispatch => Sys2Proof.Machine.execFrameDispatch s
  | .status tag site => Sys2Proof.Machine.execStatus tag site s
  | .stepConnect tag site handle port settle claimTimeout pins => Sys2Proof.Machine.execStepConnect tag site handle port settle claimTimeout pins s
  | .stepArm tag site handle => Sys2Proof.Machine.execStepArm tag site handle s
  | .stepDisarm tag site handle => Sys2Proof.Machine.execStepDisarm tag site handle s
  | .stepRelease tag site handle => Sys2Proof.Machine.execStepRelease tag site handle s
  | .stepMeasure tag site m => Sys2Proof.Machine.execStepMeasure tag site m s
  | .stepScan tag site m settle points => Sys2Proof.Machine.execStepScan tag site m settle points s
  | .stepTrigger tag site handle doneTimeout => Sys2Proof.Machine.execStepTrigger tag site handle doneTimeout s
  | .stepWait tag site duration => Sys2Proof.Machine.execStepWait tag site duration s
  | .stepFlush tag site => Sys2Proof.Machine.execStepFlush tag site s
  | .hold tag site => Sys2Proof.Machine.execHold tag site s
  | .resume tag site => Sys2Proof.Machine.execResume tag site s
  | .abort tag site => Sys2Proof.Machine.execAbort tag site s
  | .clear tag site => Sys2Proof.Machine.execClear tag site s
  | .clearForce tag site => Sys2Proof.Machine.execClearForce tag site s
  | .reachGet tag site => Sys2Proof.Machine.execReachGet tag site s
  | .reachSet tag site first last empty hv retain => Sys2Proof.Machine.execReachSet tag site first last empty hv retain s
  | .reachFreeze tag site => Sys2Proof.Machine.execReachFreeze tag site s
  | .portGet tag site port => Sys2Proof.Machine.execPortGet tag site port s
  | .portSet tag site port kind hv style width => Sys2Proof.Machine.execPortSet tag site port kind hv style width s
  | .routeGet tag site => Sys2Proof.Machine.execRouteGet tag site s
  | .calGet tag site range => Sys2Proof.Machine.execCalGet tag site range s
  | .calSet tag site range z g => Sys2Proof.Machine.execCalSet tag site range z g s
  | .configGet tag site start count => Sys2Proof.Machine.execConfigGet tag site start count s
  | .configSet tag site pairs => Sys2Proof.Machine.execConfigSet tag site pairs s
  | .health tag site => Sys2Proof.Machine.execHealth tag site s
  | .countGet tag site lane first number => Sys2Proof.Machine.execCountGet tag site lane first number s
  | .laneRenew tag site lane => Sys2Proof.Machine.execLaneRenew tag site lane s
  | .save tag site => Sys2Proof.Machine.execSave tag site s
  | .resetRun tag site => Sys2Proof.Machine.execResetRun tag site s
  | .resetFull tag site => Sys2Proof.Machine.execResetFull tag site s
  | .time tag site acknowledge => Sys2Proof.Machine.execTime tag site acknowledge s
  | .rtsRise => Sys2Proof.Machine.execRtsRise s
  | .rtsFall => Sys2Proof.Machine.execRtsFall s
  | .txFrameEnd => Sys2Proof.Machine.execTxFrameEnd s
  | .claimTimerExpiry site => Sys2Proof.Machine.execClaimTimerExpiry site s
  | .loadDone lane readback => Sys2Proof.Machine.execLoadDone lane readback s
  | .operateWaitExpiry lane => Sys2Proof.Machine.execOperateWaitExpiry lane s
  | .settleWaitExpiry lane => Sys2Proof.Machine.execSettleWaitExpiry lane s
  | .releaseWaitExpiry lane => Sys2Proof.Machine.execReleaseWaitExpiry lane s
  | .liveRise lane => Sys2Proof.Machine.execLiveRise lane s
  | .liveFall lane => Sys2Proof.Machine.execLiveFall lane s
  | .dischargeTimerExpiry lane => Sys2Proof.Machine.execDischargeTimerExpiry lane s
  | .overRise lane => Sys2Proof.Machine.execOverRise lane s
  | .overFall lane => Sys2Proof.Machine.execOverFall lane s
  | .ocPersistExpiry lane => Sys2Proof.Machine.execOcPersistExpiry lane s
  | .doneLineAssert port => Sys2Proof.Machine.execDoneLineAssert port s
  | .doneLineDeassert port => Sys2Proof.Machine.execDoneLineDeassert port s
  | .doneTimerExpiry port => Sys2Proof.Machine.execDoneTimerExpiry port s
  | .pulseTimerExpiry port => Sys2Proof.Machine.execPulseTimerExpiry port s
  | .sampleTimerExpiry sample => Sys2Proof.Machine.execSampleTimerExpiry sample s
  | .rangeSwitchExpiry => Sys2Proof.Machine.execRangeSwitchExpiry s
  | .waitTimerExpiry site => Sys2Proof.Machine.execWaitTimerExpiry site s
  | .silenceExpiry => Sys2Proof.Machine.execSilenceExpiry s
  | .referenceLost => Sys2Proof.Machine.execReferenceLost s
  | .referenceEdge => Sys2Proof.Machine.execReferenceEdge s
  | .qualificationEnd => Sys2Proof.Machine.execQualificationEnd s
  | .storeWriteDone verified => Sys2Proof.Machine.execStoreWriteDone verified s
  | .byteReceived byte => Sys2Proof.Machine.execByteReceived byte s
  | .powerLoss cut => Sys2Proof.Machine.execPowerLoss cut s

end Sys2Proof.Machine
end

