-- ==== Sys2Proof/Machine/Tick.lean ====
section
/-! DEFINITION. The passing of time on an empty queue: one microsecond, and the expiry commands that have become due (log
entry 3). -/

namespace Sys2Proof.Machine

/-- The expiry command of a timer, once the count has reached its expiry (R166). -/
def State.dueCommand (t : Option Timer) (c : Instr) (s : State) : List Instr :=
  if (s.expired t).isSome then [c] else []

/-- The expiries of a lane's timers. -/
def State.laneDue (s : State) (l : LaneId) : List Instr :=
  let x := s.lanes[l]
  s.dueCommand x.dischargeTimer (.dischargeTimerExpiry l)
    ++ s.dueCommand (x.waitOf .operate) (.operateWaitExpiry l)
    ++ s.dueCommand (x.waitOf .settle) (.settleWaitExpiry l)
    ++ s.dueCommand (x.waitOf .release) (.releaseWaitExpiry l)
    ++ s.dueCommand x.episode (.ocPersistExpiry l)

/-- The expiries of a site's timers. -/
def State.siteDue (s : State) (i : SiteId) : List Instr :=
  s.dueCommand s.sites[i].claimTimer (.claimTimerExpiry i) ++ s.dueCommand s.sites[i].waitTimer (.waitTimerExpiry i)

/-- The expiries of a port's timers. -/
def State.portDue (s : State) (p : PortId) : List Instr :=
  s.dueCommand s.ports[p].doneTimer (.doneTimerExpiry p) ++ s.dueCommand s.ports[p].pulseTimer (.pulseTimerExpiry p)

/-- The meter's expiry: a sample, with the converter's free output (log entry 8), or the end of a range switch. -/
def State.meterDue (s : State) : List Instr :=
  match s.meter.acq with
  | none => []
  | some a =>
    s.dueCommand (some a.timer)
      (if a.switching then .rangeSwitchExpiry else .sampleTimerExpiry (Config.converterSample s.freeReads))

/-- The commands that have become due, in a fixed order: receiver, reference, sites, lanes, ports, meter, silence timer,
start-up. -/
def State.dueCommands (s : State) : List Instr :=
  (if s.gapDue then [.rxGapTimeout] else [])
    ++ s.dueCommand s.time.monitor.timer .qualificationEnd
    ++ allSites.flatMap s.siteDue ++ allLanes.flatMap s.laneDue ++ allPorts.flatMap s.portDue
    ++ s.meterDue
    ++ s.dueCommand s.time.silence.timer .silenceExpiry
    ++ (if s.inPhase .startup && s.store.inFlight.isNone then [.startup] else [])

/-- One microsecond passes (log entry 3): the count rises by one, and what has become due enters the queue. Without power
nothing happens. -/
def State.tick (s : State) : State :=
  if s.powered then
    let s := s.modTime fun b => { b with now := b.now + 1 }
    ({ s with pending := s.pending ++ s.dueCommands } : State).drew 1
  else s

end Sys2Proof.Machine
end

