-- ==== Sys2Proof/WellFormed.lean ====
section
/-! DEFINITION. Well-formed commands: the conditions on a command's operands that its type does not already say. A
request is well formed when a frame can carry it (R186, R197). -/

namespace Sys2Proof

/-- A pin or point list whose count fits its one-byte field (R197). -/
def countFits {α : Type} (l : List α) : Bool := decide (l.length < 256)

/-- A payload that a frame can carry: at most 1,024 bytes (R186). -/
def payloadFits (n : Nat) : Bool := decide (n ≤ 1024)

/-- The request frames that can be sent, the events that can occur. -/
def Instr.wellFormed : Instr → Bool
  | .stepConnect _ _ _ _ _ _ pins => countFits pins
  | .stepScan _ _ _ _ points => countFits points && payloadFits (21 + 14 * points.length)
  | .configSet _ _ pairs => payloadFits (5 * pairs.length)
  | .frameReceived f _ => payloadFits f.payload.length
  | .loadDone _ readback => decide readback.Nodup
  | .doneLineAssert p => p != 0
  | .doneLineDeassert p => p != 0
  | .doneTimerExpiry p => p != 0
  | .pulseTimerExpiry p => p != 0
  | _ => true

end Sys2Proof
end

