-- ==== Sys2Proof/Safety.lean ====
section
/-! DEFINITION. The terms in which statements about the part are made: what the transmitter does at an event's end, the
shape of an answered request, and the invariants of a run. -/

namespace Sys2Proof.Machine

/-! ### Between events -/

/-- No follow-up waits and nothing waits for a place: no frame in the receive slots, no DONE in the completion waiting
list, no block in the closed-block waiting list. -/
def State.noBacklog (s : State) : Prop :=
  s.agenda = [] ∧ s.link.slots = [] ∧ s.link.doneWaiting = [] ∧ s.results.waiting = []

/-- The part takes the next frame at the event it arrives: it has power, its link is up, no frame waits and a reply place
is free (R188 to R190). -/
def State.ready (s : State) : Prop :=
  s.powered = true ∧ s.linkUp = true ∧ s.agenda = [] ∧ s.link.slots = [] ∧ s.link.reserved < 32

/-- A part with power between two events. -/
def State.awake (s : State) : Prop := s.powered = true ∧ s.noBacklog

/-! ### The link's part of an event -/

/-- The transmitter's choice at the end of an event (R194): when it may begin a frame and something waits, it begins it. -/
def State.transmit (s : State) : State :=
  if s.mayBegin then
    match s.nextFrame with
    | some f => s.beginFrame f
    | none => s
  else s

/-- The arrival of a good frame that is dispatched at once (R187, R189 step 1, R171): the receiver hunts, the silence
timer is restarted, one reply place is reserved. -/
def State.arrive (s : State) : State :=
  (s.modLink fun k => { k with rx := .hunting, slots := [], reserved := k.reserved + 1 }).silenceFrame

/-- The frame sets the handshake marker (R189 step 4), then the transmitter chooses. -/
def State.marked (kind site : Byte) (s : State) : State :=
  (s.modLink fun k => { k with marker := some (kind, site) }).transmit

/-- An answered request: its REPLY is placed (R190), the marker set, and the transmitter chooses. -/
def State.answered (kind tag site : Byte) (code : ReplyCode) (data : List Byte) (s : State) : State :=
  (s.reply kind tag site code data).marked kind site

/-- A DONE frame joins the completion queue, and its step leaves the head of its site's queue, which then is empty
(R8, R10). -/
def State.doneQueued (d : DoneFrame) (s : State) : State :=
  (s.modLink fun k => { k with completion := k.completion ++ [d] }).modSite d.site fun x =>
    { x with queue := [], running := none }

/-- Site `i` runs a single step, ACTIVE in phase `ph`, and its DONE finds a free entry in the completion queue (R192). -/
def State.runsAlone (i : SiteId) (st : Step) (ph : Phase) (n : Nat) (s : State) : Prop :=
  s.sites[i].queue = [st] ∧ s.sites[i].running = some ⟨.active ph, n⟩ ∧ s.sites[i].state = .running ∧
    s.sites[i].held = false ∧ s.sites[i].carried = [] ∧ s.link.completion.length < 16

/-- Site `i` counts as torn down, in the state it is in, for a RUN reset that waits for it; the last such site brings the
RESET reply, with the states in which the sites ended and no failed item (R28, R88, R89, R183, R199). -/
def State.tornDown (i : SiteId) (s : State) : State :=
  match s.resetReq with
  | some q =>
    if q.phase = .teardown ∧ i ∈ q.waiting then
      let ends := q.ends.set i s.sites[i].state
      if ∃ j ∈ q.waiting, j ≠ i then
        { s with resetReq := some { q with waiting := q.waiting.filter fun j => decide (j ≠ i), ends := ends } }
      else
        ({ s with resetReq := none } : State).reply 0x15 q.tag 0xFF .ok
          ([0] ++ (ends.toList.map fun st => byte st.code) ++ [0])
    else s
  | none => s

/-! ### Requests that fit a frame -/

/-- A request whose payload a frame can carry and whose counts fit their fields (R186, R197). -/
def requestFits : Request → Prop
  | .step (.connect _ _ _ _ pins) => pins.length < 256
  | .step (.scan _ _ points) => points.length < 256
  | _ => True

/-- The requests that name the part: KIND, TAG and SITE of their frames. -/
def partRequest : Instr → Option (Byte × Byte × Byte)
  | .status t i => some (0x01, t, i)
  | .reachFreeze t i => some (0x09, t, i)
  | .portGet t i _ => some (0x0A, t, i)
  | .portSet t i _ _ _ _ _ => some (0x0B, t, i)
  | .calGet t i _ => some (0x0D, t, i)
  | .calSet t i _ _ _ => some (0x0E, t, i)
  | .configGet t i _ _ => some (0x0F, t, i)
  | .configSet t i _ => some (0x10, t, i)
  | .health t i => some (0x11, t, i)
  | .countGet t i _ _ _ => some (0x12, t, i)
  | .laneRenew t i _ => some (0x13, t, i)
  | .save t i => some (0x14, t, i)
  | .resetRun t i => some (0x15, t, i)
  | .resetFull t i => some (0x15, t, i)
  | .time t i _ => some (0x16, t, i)
  | _ => none

/-- The requests other than STEP that name a site. -/
def siteRequest : Instr → Option (Byte × Byte × Byte)
  | .hold t i => some (0x03, t, i)
  | .resume t i => some (0x04, t, i)
  | .abort t i => some (0x05, t, i)
  | .clear t i => some (0x06, t, i)
  | .clearForce t i => some (0x06, t, i)
  | .reachGet t i => some (0x07, t, i)
  | .reachSet t i _ _ _ _ _ => some (0x08, t, i)
  | _ => none

/-- The STEP commands: TAG, SITE and the step's fields. -/
def stepCommand : Instr → Option (Byte × Byte × StepReq)
  | .stepConnect t i h p settle claim pins => some (t, i, .connect h p settle claim pins)
  | .stepArm t i h => some (t, i, .arm h)
  | .stepDisarm t i h => some (t, i, .disarm h)
  | .stepRelease t i h => some (t, i, .release h)
  | .stepMeasure t i m => some (t, i, .measure m)
  | .stepScan t i m settle points => some (t, i, .scan m settle points)
  | .stepTrigger t i h d => some (t, i, .trigger h d)
  | .stepWait t i d => some (t, i, .wait d)
  | .stepFlush t i => some (t, i, .flush)
  | _ => none

/-- The part is at rest: every site IDLE with nothing but its reach, no route, no claim, no RESET in flight. -/
def State.atRest (s : State) : Prop :=
  (∀ i : SiteId, s.sites[i] = { Site.fresh with reach := s.sites[i].reach, retainedFlag := s.sites[i].retainedFlag,
                                                retained := s.sites[i].retained }) ∧
    (∀ l : LaneId, s.lanes[l].route = none) ∧ (∀ p : PortId, s.ports[p].claim = none) ∧ s.resetReq = none

/-- The commands that stand for something the passing of time brings about: the expiries, the end of the qualification time
and of a gap, and a FULL reset's start-up. SAMPLE_TIMER_EXPIRY, which also carries the converter's output, is not among
them. -/
def timerCommand : Instr → Bool
  | .claimTimerExpiry _ => true
  | .waitTimerExpiry _ => true
  | .operateWaitExpiry _ => true
  | .settleWaitExpiry _ => true
  | .releaseWaitExpiry _ => true
  | .dischargeTimerExpiry _ => true
  | .ocPersistExpiry _ => true
  | .doneTimerExpiry _ => true
  | .pulseTimerExpiry _ => true
  | .rangeSwitchExpiry => true
  | .silenceExpiry => true
  | .qualificationEnd => true
  | .rxGapTimeout => true
  | .startup => true
  | _ => false

/-- The health attributes are those of the lanes as they stand (R155, R157), and LIFE_WORST does not exceed LIFE (R156). -/
def State.healthCurrent (s : State) : Prop :=
  let lanes := allLanes.filter fun l => decide (s.lanes[l].state ≠ .retired)
  let need := s.laneNeed
  let h := s.health
  h.inService = lanes.length ∧ h.spares = lanes.length - need ∧
    h.sparePct = (if need < 16 then 100 * h.spares / (16 - need) else 100) ∧
    (lanes = [] → h.life = 0) ∧ (lanes ≠ [] → ∃ l ∈ lanes, h.life = (h.lanes[l]).life) ∧
    (∀ l ∈ lanes, h.life ≤ (h.lanes[l]).life) ∧
    (h.low = true ↔ h.life < s.lifeThreshold ∨ (need < 16 ∧ h.spares = 0) ∨ (need = 16 ∧ lanes.length < 16)) ∧
    h.record.lifeWorst ≤ h.life

/-! ### Invariants -/

/-- Every queue of fixed size is within it: receive slots (R188), reply places (R190), completion queue (R192), outbound
result queue (R139). -/
def State.withinCapacity (s : State) : Prop :=
  s.link.slots.length ≤ 4 ∧ s.link.reserved ≤ 32 ∧ s.link.completion.length ≤ 16 ∧ s.results.outbound.length ≤ 16

/-- The counts a content of a lane record holds are in canonical form. -/
def ItemContent.countsWf : ItemContent → Bool
  | .lane _ c _ => c.wf
  | .config .. => true
  | .cal _ => true
  | .reach _ => true
  | .health _ => true

/-- The counts a stored lane record holds are in canonical form. -/
def storedCountsWf (r : Item (Counts × List Relay)) : Bool := r.content.1.wf

/-- The operation counts are in canonical form wherever the part holds them: in HEALTH, in the store and in the write in
flight. -/
def State.countsWf (s : State) : Prop :=
  (∀ l : LaneId, (s.health.lanes[l]).counts.wf = true) ∧ (∀ l : LaneId, storedCountsWf s.store.stored.lanes[l] = true) ∧
    ∀ w ∈ s.store.inFlight, w.content.countsWf = true

/-- A lane holds a route exactly while it is IN_USE or RETIRING (R46). -/
def State.lanesAgree (s : State) : Prop :=
  ∀ l : LaneId, (s.lanes[l].route).isSome = (decide (s.lanes[l].state = .inUse) || decide (s.lanes[l].state = .retiring))

/-- Port 0's description is its fixed one (R29). -/
def State.meterPortFixed (s : State) : Prop := (s.ports[(0 : PortId)]).desc = PortDesc.meter

/-- What is kept in a list or a set has no entry twice: a site's queue holds at most 32 steps with distinct tags (R4), the
pending-write set holds no item twice (R177), and each pending notice stands in the place of its kind (R193). -/
def State.entriesDistinct (s : State) : Prop :=
  (∀ i : SiteId, s.sites[i].queue.length ≤ 32 ∧ (s.sites[i].queue.map Step.tag).Nodup) ∧
    s.store.pendingWrites.Nodup ∧ ∀ (n : Fin 9) (e : NoticeEntry), s.link.notices[n] = some e → e.notice.kind = n

/-- An asserted arm line is that of a port whose route is LIVE (R36). -/
def State.armsLive (s : State) : Prop :=
  ∀ p : PortId, s.ports[p].arm = true →
    ∃ (l : LaneId) (r : Route), s.lanes[l].route = some r ∧ r.port = p ∧ r.state = .live

/-- Between `s` and `t` no closing or opening load began on a lane that reads live (R49): a load that is new on a lane is a
hot load, or the lane reads quiet. -/
def noLiveSwitching (s t : State) : Prop :=
  ∀ (l : LaneId) (ld : Load), t.lanes[l].load = some ld → s.lanes[l].load ≠ some ld → ld.kind = .hot ∨ t.isLive l = false

end Sys2Proof.Machine
end

