-- ==== Sys2Proof/Certificates/Slice0/Obligations.lean ====
section
/-! DEFINITION. The statements about the HCF-416. Each says in its docstring which rule of spec/ it formalises. -/

open Sys2Proof Sys2Proof.Machine

/-! ### The queue of commands -/

/-- A step with command `c` at the front of the queue is `exec` of `c` with the queue's rest. -/
def Obligations.StepRunsFrontCommand : Prop :=
  ∀ (c : Instr) (rest : List Instr) (s : State), s.pending = c :: rest → step s = exec c (s.withPending rest)

/-- On an empty queue a part with power lets one microsecond pass: the count rises by one (R168) and the commands that have
become due enter the queue; nothing else changes. Without power nothing happens. An expiry command is due exactly while its
timer is present and the count has reached its expiry (R166, R167), and an expiry command that is not due has no effect, so a
timer that was stopped or started anew does not expire. MODEL'S CHOICES: the passing of time on an empty queue (log entry 3),
expiry commands (log entries 4, 22), the converter's free output (log entry 8), the gap's last microsecond (log entry 23),
the start-up's command (log entry 21), the transmitter's choice (log entry 6). -/
def Obligations.EmptyQueuePassesTime : Prop :=
  (∀ s : State, s.pending = [] →
    let later := s.modTime fun b => { b with now := b.now + 1 }
    (s.powered = true → step s = .next ((later.withPending later.dueCommands).drew 1)) ∧
      (s.powered = false → step s = .next s)) ∧
  (∀ (s : State) (i : SiteId) (l : LaneId) (p : PortId) (v : BitVec 18),
    let due := fun (o : Option Timer) => ∃ t : Timer, o = some t ∧ t.expiry ≤ s.time.now
    let waits := fun (k : WaitKind) => ∃ t : Timer, s.lanes[l].wait = some ⟨k, t⟩ ∧ t.expiry ≤ s.time.now
    (.claimTimerExpiry i ∈ s.dueCommands ↔ due s.sites[i].claimTimer) ∧
    (.waitTimerExpiry i ∈ s.dueCommands ↔ due s.sites[i].waitTimer) ∧
    (.dischargeTimerExpiry l ∈ s.dueCommands ↔ ∃ q : QuietWait, s.lanes[l].quiet = some q ∧ due q.timer) ∧
    (.operateWaitExpiry l ∈ s.dueCommands ↔ waits .operate) ∧ (.settleWaitExpiry l ∈ s.dueCommands ↔ waits .settle) ∧
    (.releaseWaitExpiry l ∈ s.dueCommands ↔ waits .release) ∧
    (.ocPersistExpiry l ∈ s.dueCommands ↔ due s.lanes[l].episode) ∧
    (.doneTimerExpiry p ∈ s.dueCommands ↔ due s.ports[p].doneTimer) ∧
    (.pulseTimerExpiry p ∈ s.dueCommands ↔ due s.ports[p].pulseTimer) ∧
    (.rangeSwitchExpiry ∈ s.dueCommands ↔
      ∃ a : Acquisition, s.meter.acq = some a ∧ a.switching = true ∧ a.timer.expiry ≤ s.time.now) ∧
    (.sampleTimerExpiry v ∈ s.dueCommands ↔ v = Config.converterSample s.freeReads ∧
      ∃ a : Acquisition, s.meter.acq = some a ∧ a.switching = false ∧ a.timer.expiry ≤ s.time.now) ∧
    (.silenceExpiry ∈ s.dueCommands ↔ ∃ t : Timer, s.time.silence = .running t ∧ t.expiry ≤ s.time.now) ∧
    (.qualificationEnd ∈ s.dueCommands ↔ ∃ t : Timer, s.time.monitor = .qualifying t ∧ t.expiry ≤ s.time.now) ∧
    (.rxGapTimeout ∈ s.dueCommands ↔
      ∃ (b : List Byte) (last : Nat), s.link.rx = .receiving b last ∧ last + 2000 < s.time.now) ∧
    (.startup ∈ s.dueCommands ↔ s.inPhase .startup = true ∧ s.store.inFlight = none)) ∧
  ∀ (s : State) (c : Instr), s.awake → timerCommand c = true → c ∉ s.dueCommands → exec c s = .next s.transmit

/-! ### Frames (R186, R189, R196, R197) -/

/-- Every request that fits a frame is read back from its frame, every operand at every value. -/
def Obligations.RequestFramesReadBack : Prop :=
  ∀ (r : Request) (tag site : Byte), requestFits r → checkFrame (requestFrame r tag site) = .ok r

/-- The bytes of a frame from LEN to the CRC are taken as that frame with that CRC, whatever CRC follows it (R186, R187).
The receiver (R187). In HUNTING every byte but 0x7E is discarded, and 0x7E begins a frame; in RECEIVING a LEN outside 3 to
1,027 discards the frame with cause LENGTH at its second byte; a byte before the last joins the frame; the last byte ends
the frame as FRAME_RECEIVED of it with its CRC does. A gap of more than 2,000 us discards the frame with cause GAP; a byte
that comes after it finds the receiver hunting. Model's choices: the gap is complete 2,001 us of the count after the last
byte, and a late byte ends it where no timeout did before (log entry 23), the transmitter chooses at the event's end (log
entry 6). -/
def Obligations.Receiver : Prop :=
  (∀ (f : Frame) (crc : BitVec 16) (s : State), f.payload.length ≤ 1024 →
       State.takeBytes (frameBody f.kind f.tag f.site f.payload ++ bytes16 crc) s = s.frameEnd f crc) ∧
  (∀ s : State, s.awake → s.linkUp = true →
       (s.link.rx = .hunting → exec (.byteReceived 0x7E) s =
         .next (s.modLink fun k => { k with rx := .receiving [] s.time.now }).transmit) ∧
       (∀ b : Byte, s.link.rx = .hunting → b ≠ 0x7E → exec (.byteReceived b) s = .next s.transmit) ∧
       (∀ (b0 b1 : Byte) (last : Nat), s.link.rx = .receiving [b0] last → s.time.now ≤ last + 2000 →
         ((le16 b0 b1).toNat < 3 ∨ 1027 < (le16 b0 b1).toNat) →
         exec (.byteReceived b1) s =
           .next ((s.modLink fun k => { k with rx := .hunting }).notice (.linkError .length s.count)).transmit) ∧
       (∀ (bytes : List Byte) (last : Nat) (b : Byte), s.link.rx = .receiving bytes last → s.time.now ≤ last + 2000 →
         let all := bytes ++ [b]
         let more := all.length < 2 ∨ ∃ (l0 l1 : Byte) (rest : List Byte), all = l0 :: l1 :: rest ∧
           3 ≤ (le16 l0 l1).toNat ∧ (le16 l0 l1).toNat ≤ 1027 ∧ rest.length < (le16 l0 l1).toNat + 2
         (more → exec (.byteReceived b) s =
           .next (s.modLink fun k => { k with rx := .receiving all s.time.now }).transmit) ∧
         ∀ (f : Frame) (crc : BitVec 16), f.payload.length ≤ 1024 →
           all = frameBody f.kind f.tag f.site f.payload ++ bytes16 crc →
           exec (.byteReceived b) s = exec (.frameReceived f crc) s) ∧
       ∀ (bytes : List Byte) (last : Nat), s.link.rx = .receiving bytes last → last + 2000 < s.time.now →
         let gone := (s.modLink fun k => { k with rx := .hunting }).notice (.linkError .gap s.count)
         exec .rxGapTimeout s = .next gone.transmit ∧
         exec (.byteReceived 0x7E) s = .next (gone.modLink fun k => { k with rx := .receiving [] s.time.now }).transmit ∧
         ∀ b : Byte, b ≠ 0x7E → exec (.byteReceived b) s = .next gone.transmit)

/-! ### Durations (R166) -/

/-- R166: a timer with count 0 expires where it starts; with count n ≥ 1 and tick t at a whole multiple of t, no earlier
than n × t and before (n + 1) × t after its start, and at no earlier such multiple. -/
def Obligations.TimerExpiry : Prop :=
  ∀ (d : Duration) (now : Nat),
    (Duration.count d = 0 → (Timer.begin d now).expiry = now) ∧
      (1 ≤ Duration.count d →
        (Timer.begin d now).expiry % Duration.tick d = 0 ∧
        now + Duration.count d * Duration.tick d ≤ (Timer.begin d now).expiry ∧
        (Timer.begin d now).expiry < now + (Duration.count d + 1) * Duration.tick d ∧
        ∀ m : Nat, now + Duration.count d * Duration.tick d ≤ m → m % Duration.tick d = 0 →
          (Timer.begin d now).expiry ≤ m)

/-! ### The meter's stages (R102 to R105) -/

/-- R102: with N = 2^a from 1 to 256, m is S for N = 1 and floor((S + N/2) / N) otherwise: the nearest integer to S / N,
halves toward plus infinity; it lies within −139,263 to +139,263 if every d of the sum does. R103: q is the nearest integer
to m × G / 32,768, halves away from zero; it is m for G = 32,768, which is taken with the raw flag, and lies within −208,890
to +208,890 for an m and a G in their ranges; G is that of the current range's record otherwise. -/
def Obligations.MeterRounding : Prop :=
  (∀ (a : Nat) (s : Int), a ≤ 8 →
       (a = 0 → meanStage (2 ^ a) s = s) ∧
       (1 ≤ a → meanStage (2 ^ a) s = (s + (2 ^ a / 2 : Nat)) / (2 ^ a : Nat)) ∧
       2 * s - (2 ^ a : Nat) < 2 * (meanStage (2 ^ a) s) * (2 ^ a : Nat) ∧
         2 * (meanStage (2 ^ a) s) * (2 ^ a : Nat) ≤ 2 * s + (2 ^ a : Nat) ∧
       (-139263 * (2 ^ a : Nat) ≤ s → s ≤ 139263 * (2 ^ a : Nat) →
         -139263 ≤ meanStage (2 ^ a) s ∧ meanStage (2 ^ a) s ≤ 139263)) ∧
  (∀ (m : Int) (g : Nat),
       gainStage (-m) g = -gainStage m g ∧
         (0 ≤ m → 0 ≤ gainStage m g ∧ 2 * (m * g) - 32768 < 65536 * gainStage m g ∧
           65536 * gainStage m g ≤ 2 * (m * g) + 32768) ∧
         gainStage m 32768 = m ∧
         (-139263 ≤ m → m ≤ 139263 → g ≤ 49151 → -208890 ≤ gainStage m g ∧ gainStage m g ≤ 208890)) ∧
  ∀ a : Acquisition,
    (a.raw = true → gainOf a = 32768) ∧ (a.raw = false → gainOf a = a.cal[a.range].g) ∧
      valueOf a = gainStage (meanStage (2 ^ a.aperture.val) a.sum) (gainOf a) * weight a.range

/-- R105: the verdict is decided by the first condition of the table that applies, the sums lo + gb and hi − gb formed
exactly. -/
def Obligations.VerdictTable : Prop :=
  (∀ (k : Nat) (lim : Option Limits) (v : Int), 0 < k → verdictOf k lim v = .overrange) ∧
    (∀ v : Int, verdictOf 0 none v = .none) ∧
    ∀ (l : Limits) (v : Int),
      (verdictOf 0 (some l) v = .low ↔ v < l.lo.toInt) ∧
      (verdictOf 0 (some l) v = .high ↔ l.lo.toInt ≤ v ∧ l.hi.toInt < v) ∧
      (verdictOf 0 (some l) v = .marginal ↔
        l.lo.toInt ≤ v ∧ v ≤ l.hi.toInt ∧ (v < l.lo.toInt + l.gb.toNat ∨ l.hi.toInt - l.gb.toNat < v)) ∧
      (verdictOf 0 (some l) v = .pass ↔
        l.lo.toInt ≤ v ∧ v ≤ l.hi.toInt ∧ l.lo.toInt + l.gb.toNat ≤ v ∧ v ≤ l.hi.toInt - l.gb.toNat)

/-! ### Life (R154) -/

/-- R154: a lane's life percentage is floor(100 × (L − min(c_max, L)) / L); it lies from 0 to 100; it is 100 only while
c_max is 0, 99 while c_max is from 1 to L/100, and 0 once c_max exceeds 99 % of L. -/
def Obligations.LifePercentage : Prop :=
  ∀ L c : Nat, 1000 ≤ L →
    lifePercent L c = 100 * (L - min c L) / L ∧ lifePercent L c ≤ 100 ∧ (lifePercent L c = 100 ↔ c = 0) ∧
      (1 ≤ c → 100 * c ≤ L → lifePercent L c = 99) ∧ (99 * L < 100 * c → lifePercent L c = 0)

/-! ### Reset, start-up and power -/

/-- POWER_ON, RESET_PIN and a due STARTUP run the start-up (R182); RESET_PIN first cuts off the write in flight
(R178); POWER_LOSS cuts it off and leaves the store and the inputs alone. A write cut off leaves its item with the earlier
content, the new content, or a content that fails its check; every other item reads as before (R178). A start-up takes each
item from the store, or its stated fallback where the item fails its check (R182, R116, R165); LIFE_WORST and the leveling
latch then take part in its recomputation (R156, R158). The load failure flags and the differs flags are those of the failed
items, nothing is due and no write is in flight (R176, R182, R185). Model's choices: the transmitter chooses at the event's
end (log entry 6), the part without power and the start-up as one event (log entries 10, 15, 26), nothing due after a start-up
(log entry 13), STARTUP's conditions (log entry 21). -/
def Obligations.PowerAndResetCommands : Prop :=
  ((∀ s : State, exec .powerOn s = .next s.startUp.transmit) ∧
       (∀ (s : State) (cut : CutOff), s.powered = true →
         exec (.resetPin cut) s = .next (s.cutWrite cut).startUp.transmit) ∧
       (∀ s : State, s.powered = true → s.inPhase .startup = true → s.store.inFlight = none →
         exec .startup s = .next s.startUp.transmit) ∧
       ∀ (s : State) (cut : CutOff), s.powered = true →
         ∃ t : State, exec (.powerLoss cut) s = .next t ∧ t.powered = false ∧ t.pins = s.pins ∧ t.pending = s.pending ∧
           t.store.stored = (s.cutWrite cut).store.stored) ∧
  (∀ (s : State) (cut : CutOff), s.store.inFlight = none → (s.cutWrite cut).store.stored = s.store.stored) ∧
  (∀ (s : State) (w : Write), s.store.inFlight = some w →
       (s.cutWrite .earlier).store.stored = s.store.stored ∧
       (s.cutWrite .mixture).store.stored.fails w.content.item = true ∧
       (match w.content with
         | .lane l c m => (s.cutWrite .new).store.stored.readLane l = some (c, m)
         | .config c d => (s.cutWrite .new).store.stored.readConfig = some (c, d)
         | .cal v => (s.cutWrite .new).store.stored.readCal = some v
         | .reach v => (s.cutWrite .new).store.stored.readReach = some v
         | .health r => (s.cutWrite .new).store.stored.readHealth = some r) ∧
       ∀ cut : CutOff,
         let n := (s.cutWrite cut).store.stored
         (∀ l : LaneId, laneItem l ≠ w.content.item → n.readLane l = s.store.stored.readLane l) ∧
         (configItem ≠ w.content.item → n.readConfig = s.store.stored.readConfig) ∧
         (calItem ≠ w.content.item → n.readCal = s.store.stored.readCal) ∧
         (reachItem ≠ w.content.item → n.readReach = s.store.stored.readReach) ∧
         (healthItem ≠ w.content.item → n.readHealth = s.store.stored.readHealth)) ∧
  ∀ s : State,
    let n := s.store.stored
    let u := s.startUp
    let r := n.readHealth.getD { lifeWorst := 100, latch := false, hotOps := 0, coilFaults := 0, ocFaults := 0 }
    (∀ c d, n.readConfig = some (c, d) → u.store.config = c ∧ ∀ p : PortId, p ≠ 0 → u.ports[p].desc = d[p]) ∧
    (n.readConfig = none → u.store.config = ConfigItems.default ∧
      ∀ p : PortId, p ≠ 0 → u.ports[p].desc = { kind := .none, hv := false, style := .pulse, width := 10 }) ∧
    u.ports[(0 : PortId)].desc = PortDesc.meter ∧
    (∀ (v : Vector Cal 6) (r : Range), n.readCal = some v → u.meter.cal[r] = { v[r] with uncal := false }) ∧
    (∀ r : Range, n.readCal = none → u.meter.cal[r] = { z := 0, g := 32768, uncal := true }) ∧
    (∀ (v : Vector Reach 4) (i : SiteId), n.readReach = some v → u.sites[i].retained = v[i]) ∧
    (∀ i : SiteId, n.readReach = none → u.sites[i].retained = { range := none, hv := false }) ∧
    (∀ (l : LaneId) (c : Counts) (m : List Relay), n.readLane l = some (c, m) →
      (u.health.lanes[l]).counts = c ∧ (u.health.lanes[l]).marks = m ∧ (u.health.lanes[l]).countLost = false) ∧
    (∀ l : LaneId, n.readLane l = none →
      (u.health.lanes[l]).counts = [] ∧ (u.health.lanes[l]).marks = [] ∧ (u.health.lanes[l]).countLost = true) ∧
    u.health.record.hotOps = r.hotOps ∧ u.health.record.coilFaults = r.coilFaults ∧
    u.health.record.ocFaults = r.ocFaults ∧ u.health.record.lifeWorst = min r.lifeWorst u.health.life ∧
    (u.health.record.latch = true ↔ r.latch = true ∨
      ∃ l : LaneId, u.lanes[l].state ≠ .retired ∧ (u.health.lanes[l]).life ≤ u.levelThreshold) ∧
    (∀ it : ItemId, u.store.loadFailed[it] = n.fails it ∧ u.store.differs[it] = n.fails it) ∧
    u.store.pendingWrites = [] ∧ u.store.inFlight = none

/-- A start-up leaves every site IDLE with an empty queue and its reach equal to its retained copy (R27), every port
unclaimed with its lines released (R44), every lane FREE or RETIRED with all relays open and nothing in progress
(R72, R93), no acquisition (R116), the count at 0 (R174), and LINK empty (R195). R146: RESULTS begins every start-up
with every block position EMPTY, both queues empty, no reservation, every next sequence 0 and every last closed
sequence absent. -/
def Obligations.StartUpClearsWork : Prop :=
  (∀ s : State,
       (∀ i : SiteId, s.startUp.sites[i] =
         { Site.fresh with reach := s.startUp.sites[i].retained, retained := s.startUp.sites[i].retained }) ∧
       (∀ p : PortId, s.startUp.ports[p] = Port.fresh s.startUp.ports[p].desc) ∧
       (∀ l : LaneId, s.startUp.lanes[l] = { Lane.fresh with state := s.startUp.lanes[l].state } ∧
         (s.startUp.lanes[l].state = .free ∨ s.startUp.lanes[l].state = .retired)) ∧
       s.startUp.laneWaiters = [] ∧ s.startUp.meter.acq = none ∧ s.startUp.time.now = 0 ∧ s.startUp.freeze = false ∧
       s.startUp.link.rx = .hunting ∧ s.startUp.link.slots = [] ∧ s.startUp.link.marker = none ∧
       s.startUp.link.replies = [] ∧ s.startUp.link.completion = [] ∧ s.startUp.link.doneWaiting = []) ∧
  (∀ s : State, s.startUp.results.outbound = [] ∧ s.startUp.results.waiting = [] ∧
       ∀ i : SiteId, s.startUp.results.sites[i] = { pos := .empty, reserved := false, nextSeq := 0, lastSeq := none })

/-! ### LINK (R187 to R195) -/

/-- The end of a frame (R187, R188): a wrong CRC discards it with cause CRC and no reply; a good frame that names no request
is answered UNKNOWN_KIND at its dispatch; a good frame that finds four full slots is discarded with OVERRUN. Model's
choices: a request command is its frame's arrival (log entry 5), the transmitter chooses at the event's end (log entry
6). -/
def Obligations.FrameReceivedOutcomes : Prop :=
  (∀ (s : State) (f : Frame) (crc : BitVec 16), s.awake → s.linkUp = true → f.payload.length ≤ 1024 → crc ≠ frameCrc f →
    exec (.frameReceived f crc) s =
      .next ((s.modLink fun k => { k with rx := .hunting }).notice (.linkError .crc s.count)).transmit) ∧
    (∀ (s : State) (f : Frame), s.ready → f.payload.length ≤ 1024 → 0x16 < f.kind.toNat →
      exec (.frameReceived f (frameCrc f)) s = .next (s.arrive.answered f.kind f.tag f.site .unknownKind [])) ∧
    ∀ (s : State) (f : Frame), s.powered = true → s.linkUp = true → s.agenda = [] → s.link.slots.length = 4 →
      s.mayBegin = false → f.payload.length ≤ 1024 →
      exec (.frameReceived f (frameCrc f)) s =
        .next ((s.modLink fun k => { k with rx := .hunting }).notice (.linkError .overrun s.count))

/-- FRAME_DISPATCH (R189): the frames in the slots are dispatched in arrival order, each as soon as a reply place is free. One
frame that LINK's own checks refuse is answered with that refusal and sets the marker. Of two such frames, the older is
answered first, both at one event while places last; with a single place left and the transmitter not free, the younger
waits. A frame that passes LINK's checks is handed to its owning block, here one that is answered at its dispatch. Model's
choices: the transmitter chooses at the event's end (log entry 6). -/
def Obligations.DispatchAnswers : Prop :=
  (∀ (s : State) (f : Frame) (c : ReplyCode), s.powered = true → s.linkUp = true → s.agenda = [] → s.link.slots = [f] →
    s.link.reserved < 32 → checkFrame f = .error c →
    exec .frameDispatch s =
      .next ((s.modLink fun k => { k with slots := [], reserved := k.reserved + 1 }).answered f.kind f.tag f.site c [])) ∧
  (∀ (s : State) (f g : Frame) (c d : ReplyCode), s.powered = true → s.linkUp = true → s.agenda = [] →
    s.link.slots = [f, g] → checkFrame f = .error c → checkFrame g = .error d →
    (s.link.reserved < 31 → exec .frameDispatch s =
      .next (((s.modLink fun k => { k with slots := [], reserved := k.reserved + 2 }).reply f.kind f.tag f.site c []).answered
        g.kind g.tag g.site d [])) ∧
    (s.link.reserved = 31 → s.mayBegin = false → exec .frameDispatch s =
      .next (((s.modLink fun k => { k with slots := [g], reserved := 32 }).reply f.kind f.tag f.site c []).modLink fun k =>
        { k with marker := some (f.kind, f.site) }))) ∧
  ∀ (s : State) (f : Frame) (r : Request), s.powered = true → s.linkUp = true → s.agenda = [] → s.link.slots = [f] →
    s.link.reserved < 32 → checkFrame f = .ok r →
    let v := (s.modLink fun k => { k with slots := [], reserved := k.reserved + 1 }).takeRequest r ⟨f.tag, f.site⟩
    v.agenda = [] → v.link.slots = [] → v.link.replies ≠ [] → exec .frameDispatch s = .next (v.marked f.kind f.site)

/-- The transmitter's commands (R194): a fall of RTS stops no frame and begins none, a rise lets it choose, the end
of a frame other than a FULL reset's REPLY frees it to choose; the end of that REPLY begins the last phase of the
reset (R184). The transmitter's order (R194): replies, then the completion queue, then the pending notice of lowest
kind number, then the outbound result queue. Beginning a REPLY frees its place (R190). Model's choices: the
transmitter chooses at the event's end (log entry 6), a fall of RTS leaves the frame as it is and TX_FRAME_END may come with
RTS low (log entry 29), TX_FRAME_END without a frame only lets the transmitter choose (log entry 22). -/
def Obligations.Transmitter : Prop :=
  (∀ s : State, s.awake →
       exec .rtsFall s = .next (s.modPins fun p => { p with rts := false }) ∧
       exec .rtsRise s = .next (s.modPins fun p => { p with rts := true }).transmit ∧
       ((∀ r : Reply, s.link.tx = some (.reply r) → r.fullReset = false) →
         exec .txFrameEnd s = .next (s.modLink fun k => { k with tx := none }).transmit) ∧
       ∀ (r : Reply) (q : ResetReq), s.link.tx = some (.reply r) → r.fullReset = true → s.resetReq = some q →
         exec .txFrameEnd s =
           .next { s.modLink fun k => { k with tx := none } with resetReq := some { q with phase := .startup } }) ∧
  (∀ s : State, s.mayBegin = true →
       (∀ r rs, s.link.replies = r :: rs →
         s.transmit = s.modLink fun k => { k with tx := some (.reply r), replies := rs, reserved := k.reserved - 1 }) ∧
       (∀ d ds, s.link.replies = [] → s.link.completion = d :: ds →
         s.transmit = s.modLink fun k => { k with tx := some (.done d), completion := ds }) ∧
       (∀ (n : Fin 9) (e : NoticeEntry), s.link.replies = [] → s.link.completion = [] → s.link.notices[n] = some e →
         e.notice.kind = n → (∀ m : Fin 9, m < n → s.link.notices[m] = none) →
         s.transmit = s.modLink fun k => { k with tx := some (.notice e), notices := upd k.notices n fun _ => none }) ∧
       ∀ b bs, s.link.replies = [] → s.link.completion = [] → (∀ m : Fin 9, s.link.notices[m] = none) →
         s.results.outbound = b :: bs →
         s.transmit.link.tx = some (.result b) ∧ s.transmit.results.outbound = bs)

/-- The pending-notice set (R193), one place for each of the nine kinds in their order. A masked kind enters nothing; a
kind without an entry makes one with REPEATED clear; a kind with an entry has its data replaced and REPEATED set; no other
kind's entry changes. An entry leaves when the transmitter begins its frame. A CONFIG_SET of NOTICE_MASK removes the entries
of the kinds it masks and enters nothing. -/
def Obligations.NoticeEntries : Prop :=
  (∀ (s : State) (n : Notice),
    (s.noticeMask.getLsbD n.kind.val = false → s.notice n = s) ∧
    (s.noticeMask.getLsbD n.kind.val = true →
      (s.link.notices[n.kind] = none → (s.notice n).link.notices[n.kind] = some { notice := n, repeated := false }) ∧
      (s.link.notices[n.kind] ≠ none → (s.notice n).link.notices[n.kind] = some { notice := n, repeated := true }) ∧
      ∀ m : Fin 9, m ≠ n.kind → (s.notice n).link.notices[m] = s.link.notices[m])) ∧
  (∀ (s : State) (e : NoticeEntry),
    (s.beginFrame (.notice e)).link.notices[e.notice.kind] = none ∧
      ∀ m : Fin 9, m ≠ e.notice.kind → (s.beginFrame (.notice e)).link.notices[m] = s.link.notices[m]) ∧
  (∀ (s : State) (tag : Byte) (v : BitVec 32) (m : Fin 9),
    (s.takeConfigSet [(2, v)] ⟨tag, 0xFF⟩).link.notices[m] =
      if (clampConfig 2 v).getLsbD m.val then s.link.notices[m] else none) ∧
  (∀ (i : SiteId) (st : SiteState) (f : Option Failure) (l : LaneId) (h : Handle) (p : PortId) (t u : Nat) (b : Bool)
    (it : ItemId) (c : LinkCause) (src : Source) (sites : List SiteId),
    (Notice.siteState i st f).kind = 0 ∧ (Notice.laneFault l i h p t u).kind = 1 ∧ (Notice.laneRetired l b t u).kind = 2 ∧
      (Notice.health b t u).kind = 3 ∧ (Notice.storeFault it b).kind = 4 ∧ (Notice.linkError c t).kind = 5 ∧
      (Notice.strayDone p t).kind = 6 ∧ (Notice.clock src t).kind = 7 ∧ (Notice.hostSilent t sites).kind = 8)

/-! ### Requests that name the wrong target -/

/-- A request that names the part is refused with BAD_SITE where SITE is not 0xFF, and changes nothing but the link and the
silence timer. Model's choices: BAD_SITE is answered whatever else is wrong with the request (log entry 33), a request
command is its frame's arrival (log entry 5), the transmitter chooses at the event's end (log entry 6). -/
def Obligations.PartRequestsNeedPartSite : Prop :=
  ∀ (c : Instr) (kind tag site : Byte) (s : State), partRequest c = some (kind, tag, site) → site ≠ 0xFF → s.ready →
    exec c s = .next (s.arrive.answered kind tag site .badSite [])

/-- A request that names a site is refused with BAD_SITE where SITE is not 0 to 3; so is a STEP (R5 check 1) outside a FULL
reset (R184), and a ROUTE_GET whose SITE is neither 0 to 3 nor 0xFF (R53). Nothing changes but the link and the silence
timer. Model's choices: a request command is its frame's arrival (log entry 5), the transmitter chooses at the event's end
(log entry 6). -/
def Obligations.SiteRequestsNeedSite : Prop :=
  (∀ (c : Instr) (kind tag site : Byte) (s : State), siteRequest c = some (kind, tag, site) → 3 < site.toNat → s.ready →
    exec c s = .next (s.arrive.answered kind tag site .badSite [])) ∧
    (∀ (c : Instr) (tag site : Byte) (r : StepReq) (s : State), stepCommand c = some (tag, site, r) →
      c.wellFormed = true → 3 < site.toNat → s.ready → s.fullReset = false →
      exec c s = .next (s.arrive.answered 0x02 tag site .badSite [])) ∧
    ∀ (tag site : Byte) (s : State), 3 < site.toNat → site ≠ 0xFF → s.ready →
      exec (.routeGet tag site) s = .next (s.arrive.answered 0x0C tag site .badSite [])

/-! ### Queries: answered at once, nothing changed but the link, the silence timer and the free values drawn -/

/-- STATUS (R191): per site state, held flag and stop cause, then the health STATE, TIME_UNCERTAIN, store busy, the freeze
flag and the load failure flags, as they stand. HEALTH (R161) is answered with the attributes, the totals and the sixteen
lanes; TIME (R170) with one snapshot of the count, whose seconds and microseconds make it up, after the acknowledge has
cleared TIME_UNCERTAIN while the monitor is PRESENT. Model's choices: bits of a flag byte that no rule names are clear (log
entry 35), a request command is its frame's arrival (log entry 5), the transmitter chooses at the event's end (log entry
6). -/
def Obligations.StatusHealthAndTimeAnswers : Prop :=
  (∀ (tag : Byte) (s : State), s.ready →
       exec (.status tag 0xFF) s = .next (s.arrive.answered 0x01 tag 0xFF .ok
         ((allSites.map fun i => [byte s.sites[i].state.code, flag s.sites[i].held,
           byte (failureCode s.sites[i].stopCause)]).flatten
           ++ [flag s.health.low, byte (s.time.uncertain.toNat + 2 * s.storeBusy.toNat + 4 * s.freeze.toNat),
             byte ((s.store.loadFailed[(16 : ItemId)]).toNat + 2 * (s.store.loadFailed[(17 : ItemId)]).toNat
               + 4 * (s.store.loadFailed[(18 : ItemId)]).toNat + 8 * (s.store.loadFailed[(19 : ItemId)]).toNat)]
           ++ nat16 (bitSet ((allLanes.filter fun l => s.store.loadFailed[laneItem l]).map Fin.val))))) ∧
  ((∀ (tag : Byte) (s : State), s.ready →
       exec (.health tag 0xFF) s = .next (s.arrive.answered 0x11 tag 0xFF .ok
         ([byte s.health.life, byte s.health.record.lifeWorst, byte s.health.inService, byte s.health.spares,
             byte s.health.sparePct, flag s.health.low, flag s.health.record.latch]
           ++ nat32 s.health.record.hotOps ++ nat32 s.health.record.coilFaults ++ nat32 s.health.record.ocFaults
           ++ (allLanes.map fun l => [byte s.lanes[l].state.code, byte (s.health.lanes[l]).life]
             ++ nat32 (s.health.lanes[l]).counts.largest ++ nat16 (s.health.lanes[l]).marks.length
             ++ [flag (s.health.lanes[l]).countLost]).flatten))) ∧
       ∀ (tag : Byte) (ack : Bool) (s : State), s.ready →
         let u := if ack ∧ s.time.monitor = .present then false else s.time.uncertain
         exec (.time tag 0xFF ack) s = .next ((s.arrive.modTime fun b => { b with uncertain := u }).answered 0x16 tag 0xFF .ok
           (nat32 (s.time.now % 2 ^ 48 / 1000000) ++ nat32 (s.time.now % 2 ^ 48 % 1000000)
             ++ [flag u, byte s.time.source.code, byte s.time.monitor.code])))

/-- REACH_GET (R22): the working reach with its retained field, then the retained copy; PORT_GET (R30) of each port, and its
BAD_FIELD; ROUTE_GET of a site, its routes in handle order and its claims without a route, and of the part, its routes in
lane order, the sixteen lane records and the lane waiter list (R53), each in the bytes of R199. The route that a handle
names is the site's route of that handle (R55). Model's choices: the claims without a route stand in handle order (log entry
38), a request command is its frame's arrival (log entry 5), the transmitter chooses at the event's end (log entry 6), bytes
of absent fields are free values (log entry 7), bits that no rule names are clear (log entry 35). -/
def Obligations.ReachRouteAndPortAnswers : Prop :=
  (∀ (s : State) (i : SiteId) (h : Handle),
    (∀ l : LaneId, s.routeLane i h = some l → ∃ r : Route, s.lanes[l].route = some r ∧ r.site = i ∧ r.handle = h) ∧
    (s.routeLane i h = none → ∀ (l : LaneId) (r : Route), s.lanes[l].route = some r → ¬(r.site = i ∧ r.handle = h)) ∧
    (∀ p : PortId, s.claimPort i h = some p → s.ports[p].claim = some ⟨i, h⟩) ∧
    (s.claimPort i h = none → ∀ p : PortId, s.ports[p].claim ≠ some ⟨i, h⟩)) ∧
  ∀ (tag : Byte) (s : State), s.ready →
    let free := fun n : Nat => Config.freeByte (s.freeReads + n)
    let reach := fun (r : Reach) (kept : Bool) (n : Nat) =>
      match r.range with
      | some (a, b) => [a, b, byte (2 * r.hv.toNat + 4 * kept.toNat)]
      | none => [free n, free (n + 1), byte (1 + 2 * r.hv.toNat + 4 * kept.toNat)]
    let route := fun l : LaneId =>
      match s.lanes[l].route with
      | none => []
      | some r =>
        let pins := (s.lanes[l].closed.filter fun q => decide (q.val < 256)).map fun q => BitVec.ofNat 8 q.val
        [siteByte r.site, byte r.handle.val, byte r.port.val, byte l.val, byte r.state.code, byte pins.length]
          ++ (pins ++ List.replicate 16 0).take 16
          ++ (match s.lanes[l].wait with
            | some ⟨.operate, t⟩ => 1 :: nat48 t.due
            | some ⟨.settle, t⟩ => 2 :: nat48 t.due
            | _ => 0 :: (List.range 6).map fun k => free (6 * l.val + k))
    let loadKind := fun (x : Option Load) =>
      match x with
      | none => 0
      | some ⟨.closing, _, _⟩ => 1
      | some ⟨.opening, _, _⟩ => 2
      | some ⟨.hot, _, _⟩ => 3
    (∀ i : SiteId, exec (.reachGet tag (siteByte i)) s = .next ((s.arrive.drew 4).answered 0x07 tag (siteByte i) .ok
      (reach s.sites[i].reach s.sites[i].retainedFlag 0 ++ reach s.sites[i].retained false 2))) ∧
    (∀ i : SiteId,
      let routes := allHandles.filterMap fun h => s.routeLane i h
      let claims := allHandles.filterMap fun h =>
        if s.routeLane i h = none then (s.claimPort i h).map fun p => [byte h.val, byte p.val] else none
      exec (.routeGet tag (siteByte i)) s = .next ((s.arrive.drew 96).answered 0x0C tag (siteByte i) .ok
        (byte routes.length :: (routes.map route).flatten ++ byte claims.length :: claims.flatten))) ∧
    exec (.routeGet tag 0xFF) s = .next ((s.arrive.drew 96).answered 0x0C tag 0xFF .ok
      (byte (allLanes.filter fun l => (s.lanes[l].route).isSome).length :: (allLanes.map route).flatten
        ++ (allLanes.map fun l => [byte s.lanes[l].state.code,
          byte (s.lanes[l].route.isSome.toNat + 2 * loadKind s.lanes[l].load + 8 * s.lanes[l].quiet.isSome.toNat)]).flatten
        ++ byte s.laneWaiters.length
          :: (s.laneWaiters.map fun w => [siteByte w.site, w.tag, byte w.handle.val]).flatten)) ∧
    (∀ p : PortId,
      let x := s.ports[p]
      exec (.portGet tag 0xFF (byte p.val)) s = .next ((s.arrive.drew 2).answered 0x0A tag 0xFF .ok
        ([byte p.val, byte x.desc.kind.code, flag x.desc.hv, byte x.desc.style.code] ++ nat16 x.desc.width
          ++ (match x.claim with
            | some c => [1, siteByte c.site, byte c.handle.val]
            | none => [0, free 0, free 1])
          ++ [byte x.waiters.length] ++ ((x.waiters.map fun (w : Claim) => siteByte w.site) ++ [0xFF, 0xFF, 0xFF]).take 3
          ++ [byte (x.arm.toNat + 2 * x.trigger.toNat + 4 * x.wait.isSome.toNat)]))) ∧
    ∀ b : Byte, 11 < b.toNat → exec (.portGet tag 0xFF b) s = .next (s.arrive.answered 0x0A tag 0xFF .badField [])

/-- CAL_GET (R113), CONFIG_GET (R181, wrapping from item 15 to 0) and COUNT_GET (R162: for each relay its count and its
mark), with their BAD_SITE and BAD_FIELD refusals; the values are those held when the request is taken. Model's choices:
BAD_SITE is answered whatever else is wrong with the request (log entry 33), a request command is its frame's arrival (log
entry 5), the transmitter chooses at the event's end (log entry 6). -/
def Obligations.CalConfigAndCountAnswers : Prop :=
  ∀ (tag : Byte) (s : State), s.ready →
    (∀ r : Range, exec (.calGet tag 0xFF (byte r.val)) s = .next (s.arrive.answered 0x0D tag 0xFF .ok
      ([byte r.val] ++ bytes16 (BitVec.ofInt 16 s.meter.cal[r].z) ++ nat16 s.meter.cal[r].g ++ [flag s.meter.cal[r].uncal]))) ∧
    (∀ (a : Fin 16) (n : Byte), 1 ≤ n.toNat → n.toNat ≤ 16 →
      exec (.configGet tag 0xFF (byte a.val) n) s = .next (s.arrive.answered 0x0F tag 0xFF .ok
        ([byte a.val, n] ++ ((List.range n.toNat).map fun k =>
          bytes32 s.store.config[(⟨(a.val + k) % 16, Nat.mod_lt _ (by decide)⟩ : Fin 16)]).flatten))) ∧
    (∀ a n : Byte, (15 < a.toNat ∨ n = 0 ∨ 16 < n.toNat) →
      exec (.configGet tag 0xFF a n) s = .next (s.arrive.answered 0x0F tag 0xFF .badField [])) ∧
    (∀ (l : LaneId) (first : BitVec 16) (n : Byte), 1 ≤ n.toNat → n.toNat ≤ 128 → first.toNat + n.toNat ≤ 268 →
      exec (.countGet tag 0xFF (byte l.val) first n) s = .next (s.arrive.answered 0x12 tag 0xFF .ok
        ([byte l.val] ++ bytes16 first ++ [n] ++ nat32 (s.health.lanes[l]).unsaved
          ++ [flag (s.store.pendingWrites.contains (laneItem l))]
          ++ ((List.range n.toNat).map fun k =>
            nat32 ((s.health.lanes[l]).counts.get (Fin.ofNat 268 (first.toNat + k)))
              ++ [flag ((s.health.lanes[l]).marks.contains (Fin.ofNat 268 (first.toNat + k)))]).flatten))) ∧
    (∀ b : Byte, 5 < b.toNat → exec (.calGet tag 0xFF b) s = .next (s.arrive.answered 0x0D tag 0xFF .badField [])) ∧
    (∀ (b : Byte) (first : BitVec 16) (n : Byte),
      (15 < b.toNat ∨ 267 < first.toNat ∨ n = 0 ∨ 128 < n.toNat ∨ 268 < first.toNat + n.toNat) →
      exec (.countGet tag 0xFF b first n) s = .next (s.arrive.answered 0x12 tag 0xFF .badField [])) ∧
    ∀ (site b n : Byte) (first : BitVec 16), site ≠ 0xFF →
      exec (.calGet tag site b) s = .next (s.arrive.answered 0x0D tag site .badSite []) ∧
      exec (.configGet tag site b n) s = .next (s.arrive.answered 0x0F tag site .badSite []) ∧
      exec (.countGet tag site b first n) s = .next (s.arrive.answered 0x12 tag site .badSite [])

/-! ### Settings -/

/-- REACH_FREEZE (R26) sets the freeze flag and is answered OK, whether or not it was set. The checks 3 to 8 of R24, in their
order, with the case that passes them all; a range that is not empty is reversed where its first pin is above its last. The
checks 2 to 9 of R5, in their order, with the case in which the step is accepted; and the fields that select nothing, for each
step kind (R6): a step whose fields are in range keeps them as they are. Model's choices: a request command is its frame's
arrival (log entry 5), the transmitter chooses at the event's end (log entry 6). -/
def Obligations.RequestCheckOrders : Prop :=
  (∀ (tag : Byte) (s : State), s.ready →
       exec (.reachFreeze tag 0xFF) s = .next (({ s.arrive with freeze := true } : State).answered 0x09 tag 0xFF .ok [])) ∧
  (∀ (s : State) (i : SiteId) (range : Option (Pin × Pin)) (hv retain : Bool),
       let new : Reach := ⟨range, hv⟩
       let reversed := ∃ a b : Pin, range = some (a, b) ∧ b < a
       let busySite := s.sites[i].state = .running ∨ s.sites[i].state = .aborting ∨ s.sites[i].state = .safing ∨
         s.sites[i].queue ≠ []
       let waiting := s.hasReq (.reachSet i) = true
       let meets := fun x : Reach =>
         ∃ a b c d : Pin, range = some (a, b) ∧ x.range = some (c, d) ∧ c ≤ b ∧ a ≤ d
       let overlaps := ∃ j : SiteId, j ≠ i ∧ (meets s.sites[j].reach ∨ (retain = true ∧ meets s.sites[j].retained))
       let outside := ∃ (l : LaneId) (r : Route), s.lanes[l].route = some r ∧ r.site = i ∧
         ((∃ q ∈ s.lanes[l].closed, q.val < 256 ∧
             ∀ a b : Pin, range = some (a, b) → ¬(a.toNat ≤ q.val ∧ q.val ≤ b.toNat)) ∨
           (hv = false ∧ s.ports[r.port].desc.hv = true))
       (s.freeze = true → s.checkReachSet i new retain = some .frozen) ∧
       (s.freeze = false → reversed → s.checkReachSet i new retain = some .badField) ∧
       (s.freeze = false → ¬reversed → busySite → s.checkReachSet i new retain = some .siteState) ∧
       (s.freeze = false → ¬reversed → ¬busySite → waiting → s.checkReachSet i new retain = some .busy) ∧
       (s.freeze = false → ¬reversed → ¬busySite → ¬waiting → overlaps →
         s.checkReachSet i new retain = some .overlap) ∧
       (s.freeze = false → ¬reversed → ¬busySite → ¬waiting → ¬overlaps → outside →
         s.checkReachSet i new retain = some .routesOutside) ∧
       (s.freeze = false → ¬reversed → ¬busySite → ¬waiting → ¬overlaps → ¬outside →
         s.checkReachSet i new retain = none)) ∧
  (∀ (s : State) (i : SiteId) (tag : Byte) (r : StepReq),
       let x := s.sites[i]
       let taken := ∃ st ∈ x.queue, st.tag = tag
       let open' := x.state = .idle ∨ x.state = .running ∨ x.state = .held
       let goesOn := x.reach.range ≠ none ∧ open' ∧ x.queue.length < 32 ∧ ¬taken
       (x.reach.range = none → s.acceptStep i tag r = .error .noReach) ∧
       (x.reach.range ≠ none → ¬open' → s.acceptStep i tag r = .error .siteState) ∧
       (x.reach.range ≠ none → open' → 32 ≤ x.queue.length → s.acceptStep i tag r = .error .queueFull) ∧
       (x.reach.range ≠ none → open' → x.queue.length < 32 → taken → s.acceptStep i tag r = .error .tagInUse) ∧
       (goesOn → stepBody r = none → s.acceptStep i tag r = .error .badField) ∧
       ∀ b : StepBody, goesOn → stepBody r = some b →
         let badPort := match b with
           | .connect _ p _ _ _ => s.ports[p].desc.kind = .none
           | .trigger h _ => ∃ (l : LaneId) (u : Route), s.routeLane i h = some l ∧ s.lanes[l].route = some u ∧ u.port = 0
           | _ => False
         let pins : List Pin := match b with
           | .connect _ _ _ _ ps => ps
           | .scan _ _ pts => pts.map ScanPoint.pin
           | _ => []
         let outside := ∃ p ∈ pins, ∀ a z : Pin, x.reach.range = some (a, z) → ¬(a ≤ p ∧ p ≤ z)
         let denied := x.reach.hv = false ∧ match b with
           | .connect _ p _ _ _ => s.ports[p].desc.hv = true
           | .measure m => m.range = 3
           | .scan m _ _ => m.range = 3
           | _ => False
         let limits : List Limits := match b with
           | .measure m => m.limits.toList
           | .scan m _ pts => m.limits.toList ++ pts.filterMap ScanPoint.own
           | _ => []
         let crossed := ∃ u ∈ limits, u.hi.toInt < u.lo.toInt
         (badPort → s.acceptStep i tag r = .error .badField) ∧
         (¬badPort → outside → s.acceptStep i tag r = .error .outOfReach) ∧
         (¬badPort → ¬outside → denied → s.acceptStep i tag r = .error .hvDenied) ∧
         (¬badPort → ¬outside → ¬denied → crossed → s.acceptStep i tag r = .error .badLimits) ∧
         (¬badPort → ¬outside → ¬denied → ¬crossed → s.acceptStep i tag r = .ok b)) ∧
  (∀ (h p : Byte) (d e : Duration) (pins : List Pin),
       stepBody (.connect h p d e pins) = none ↔
         7 < h.toNat ∨ 11 < p.toNat ∨ pins = [] ∨ 16 < pins.length ∨ ¬pins.Nodup) ∧
  (∀ (h : Byte) (d : Duration),
       (stepBody (.arm h) = none ↔ 7 < h.toNat) ∧ (stepBody (.disarm h) = none ↔ 7 < h.toNat) ∧
       (stepBody (.release h) = none ↔ 7 < h.toNat) ∧ (stepBody (.trigger h d) = none ↔ 7 < h.toNat) ∧
       stepBody (.wait d) = some (.wait d) ∧ stepBody .flush = some .flush) ∧
  (∀ (m : MeterReq) (d : Duration) (pts : List ScanPoint),
       let bad := 7 < m.handle.toNat ∨ 5 < m.range.toNat ∨ 8 < m.aperture.toNat
       (stepBody (.measure m) = none ↔ bad) ∧
         (stepBody (.scan m d pts) = none ↔ bad ∨ pts = [] ∨ 64 < pts.length)) ∧
  ∀ (h : Handle) (p : PortId) (d e : Duration) (pins : List Pin) (m : MeterSpec) (pts : List ScanPoint),
    let q : MeterReq := ⟨byte m.handle.val, byte m.range.val, byte m.aperture.val, m.autorange, m.raw, m.stop, m.limits⟩
    (pins ≠ [] → pins.length ≤ 16 → pins.Nodup →
      stepBody (.connect (byte h.val) (byte p.val) d e pins) = some (.connect h p d e pins)) ∧
    stepBody (.arm (byte h.val)) = some (.arm h) ∧ stepBody (.disarm (byte h.val)) = some (.disarm h) ∧
    stepBody (.release (byte h.val)) = some (.release h) ∧
    stepBody (.trigger (byte h.val) d) = some (.trigger h d) ∧ stepBody (.measure q) = some (.measure m) ∧
    (pts ≠ [] → pts.length ≤ 64 → stepBody (.scan q d pts) = some (.scan m d pts))

/-- PORT_SET (R31): a port of 0 or above 11 gives BAD_FIELD, a claimed port PORT_BUSY; otherwise the description is stored
with the width clamped to the nearest of the eight, and the reply gives it as stored. Storing the description the port has
leaves the store alone; a change makes the CONFIG item due. Model's choices: a request command is its frame's arrival
(log entry 5), the transmitter chooses at the event's end (log entry 6). -/
def Obligations.PortSetStores : Prop :=
  ∀ (tag : Byte) (s : State), s.ready →
    (∀ (b k st : Byte) (hv : Bool) (w : BitVec 16), (b = 0 ∨ 11 < b.toNat ∨ 2 < k.toNat ∨ 1 < st.toNat) →
      exec (.portSet tag 0xFF b k hv st w) s = .next (s.arrive.answered 0x0B tag 0xFF .badField [])) ∧
    ∀ (p : PortId) (kind : PortKind) (hv : Bool) (style : TriggerStyle) (w : BitVec 16), p ≠ 0 →
      let d : PortDesc := { kind := kind, hv := hv, style := style, width := clampWidth w.toNat }
      let c : Instr := .portSet tag 0xFF (byte p.val) (byte kind.code) hv (byte style.code) w
      (s.ports[p].claim ≠ none → exec c s = .next (s.arrive.answered 0x0B tag 0xFF .portBusy [])) ∧
      (s.ports[p].claim = none → s.ports[p].desc = d →
        exec c s = .next (s.arrive.answered 0x0B tag 0xFF .ok (byte p.val :: d.bytes))) ∧
      (s.ports[p].claim = none → s.ports[p].desc ≠ d →
        exec c s = .next ((((s.arrive.modPort p fun x => { x with desc := d }).touch configItem).due configItem).answered
          0x0B tag 0xFF .ok (byte p.val :: d.bytes)))

/-- R31: the stored width is one of the eight, and none of the eight is nearer to the width given; of two equally near, the
larger is taken. Every configuration item as R180 clamps it. CAL_SET (R114): Z and G are clamped and stored, UNCAL is cleared,
the CAL item's differs flag is set by a change of Z or G (which outdates a write of it in flight, R176), nothing joins the
pending-write set and no write begins; a range above 5 gives BAD_FIELD. CONFIG_SET of one item with effects (R180): SILENCE
starts the silence timer anew or turns it off (R171); RATED_LIFE gives every lane its life from the new value (R154); it and
RETIRE_AT_END set on retire a FREE lane and mark an IN_USE lane RETIRING at life 0 (R159, R47); RATED_LIFE, LANE_NEED and
LIFE_THRESHOLD, and each retirement, bring the attributes up to date (R156, R160). A change makes the CONFIG item due, or its
write is under way with the new content. Model's choices: a request command is its frame's arrival (log entry 5), the
transmitter chooses at the event's end (log entry 6), the order of the effects and of what becomes due (log entry 12). -/
def Obligations.SettingsAndCalibration : Prop :=
  (∀ w v : Nat, v ∈ [1, 2, 5, 10, 20, 50, 100, 200] →
       clampWidth w ∈ [1, 2, 5, 10, 20, 50, 100, 200] ∧
         (max w (clampWidth w) - min w (clampWidth w) < max w v - min w v ∨
           (max w (clampWidth w) - min w (clampWidth w) = max w v - min w v ∧ v ≤ clampWidth w))) ∧
  (∀ v : BitVec 32,
       let n := v.toNat
       let t := Duration.value (BitVec.ofNat 16 (min 65535 n))
       (clampConfig 0 v).toNat = max 1 (min 32 n) ∧ (clampConfig 1 v).toNat = min 65535 n ∧
       (clampConfig 2 v).toNat = n % 512 ∧ (clampConfig 3 v).toNat = max 1 (min 16 n) ∧
       (clampConfig 4 v).toNat = max 1000 (min 4000000000 n) ∧ (clampConfig 5 v).toNat = min 100 n ∧
       (clampConfig 6 v).toNat = min 100 n ∧ (clampConfig 7 v).toNat = max 1 (min 1000 n) ∧
       (clampConfig 8 v).toNat = min 65535 n ∧ (clampConfig 9 v).toNat = min 65535 n ∧
       (clampConfig 10 v).toNat = min 65535 n ∧
       (clampConfig 11 v).toNat = (if t < 100 then 100 else min 65535 n) ∧
       (clampConfig 12 v).toNat = (if n = 0 then 0 else 1) ∧ (clampConfig 13 v).toNat = max 1024 (min 131071 n) ∧
       (clampConfig 14 v).toNat = (if t < 5 then 5 else if 10000 < t then 10000 else min 65535 n) ∧
       (clampConfig 15 v).toNat = max 64 (min 65535 n)) ∧
  (∀ (tag : Byte) (s : State) (z g : BitVec 16), s.ready →
       (∀ r : Range,
         let new : Cal := { z := max (-8192) (min 8191 z.toInt), g := max 16384 (min 49151 g.toNat), uncal := false }
         let changed := decide (s.meter.cal[r].z ≠ new.z ∨ s.meter.cal[r].g ≠ new.g)
         ∃ t : State,
           exec (.calSet tag 0xFF (byte r.val) z g) s = .next (t.answered 0x0E tag 0xFF .ok
             ([byte r.val] ++ bytes16 (BitVec.ofInt 16 new.z) ++ nat16 new.g ++ [0])) ∧
           t.meter = { s.meter with cal := upd s.meter.cal r fun _ => new } ∧
           (∀ it : ItemId, t.store.differs[it] = (s.store.differs[it] || (decide (it = calItem) && changed))) ∧
           t.store = { s.store with
             differs := t.store.differs
             inFlight := s.store.inFlight.map fun w =>
               { w with changed := w.changed || (decide (w.content.item = calItem) && changed) } } ∧
           t.sites = s.sites ∧ t.ports = s.ports ∧ t.lanes = s.lanes ∧ t.results = s.results ∧ t.health = s.health ∧
           t.resetReq = s.resetReq ∧ t.laneWaiters = s.laneWaiters ∧ t.time = s.arrive.time ∧ t.pins = s.pins ∧
           t.freeze = s.freeze ∧ t.link = s.arrive.link) ∧
       ∀ b : Byte, 5 < b.toNat →
         exec (.calSet tag 0xFF b z g) s = .next (s.arrive.answered 0x0E tag 0xFF .badField [])) ∧
  (∀ (tag : Byte) (s : State) (v : BitVec 32), s.ready →
       let new := clampConfig 1 v
       let d : Duration := new.setWidth 16
       let u := (s.arrive.modStore fun t => { t with config := upd t.config 1 fun _ => new }).modTime fun b =>
         { b with silence := if Duration.count d = 0 then .off else .running (Timer.begin d b.now) }
       let data := byte 1 :: bytes32 new
       (s.store.config[(1 : Fin 16)] = new →
         exec (.configSet tag 0xFF [(1, v)]) s = .next (u.answered 0x10 tag 0xFF .ok data)) ∧
       (s.store.config[(1 : Fin 16)] ≠ new →
         exec (.configSet tag 0xFF [(1, v)]) s =
           .next (((u.touch configItem).due configItem).answered 0x10 tag 0xFF .ok data))) ∧
  ∀ (tag : Byte) (s : State) (k : Fin 16) (v : BitVec 32), s.ready → k ∈ ([3, 4, 5, 12] : List (Fin 16)) →
    let cfg := upd s.store.config k fun _ => clampConfig k v
    let life := fun l : LaneId =>
      if k = 4 then lifePercent (clampConfig 4 v).toNat (s.health.lanes[l]).counts.largest else (s.health.lanes[l]).life
    let atEnd := fun l : LaneId => (k = 4 ∨ k = 12) ∧ cfg[(12 : Fin 16)] ≠ 0 ∧ life l = 0
    ∃ u : State,
      exec (.configSet tag 0xFF [(byte k.val, v)]) s =
        .next (u.answered 0x10 tag 0xFF .ok (byte k.val :: bytes32 (clampConfig k v))) ∧
      u.store.config = cfg ∧
      (∀ l : LaneId,
        (u.health.lanes[l]).life = life l ∧ (u.health.lanes[l]).counts = (s.health.lanes[l]).counts ∧
        (u.health.lanes[l]).marks = (s.health.lanes[l]).marks ∧
        (¬atEnd l → u.lanes[l] = s.lanes[l]) ∧
        (atEnd l → u.lanes[l] = { s.lanes[l] with state := match s.lanes[l].state with
          | .free => .retired
          | .inUse => .retiring
          | .retiring => .retiring
          | .retired => .retired })) ∧
      ((k ≠ 12 ∨ ∃ l : LaneId, atEnd l ∧ s.lanes[l].state = .free) → u.healthCurrent) ∧
      (s.store.config[k] ≠ clampConfig k v → configItem ∈ u.store.pendingWrites ∨
        ∃ w : Write, u.store.inFlight = some w ∧ w.content = .config cfg (s.ports.map Port.desc)) ∧
      (s.health.record.latch = true → u.health.record.latch = true) ∧
      u.health.record.hotOps = s.health.record.hotOps ∧ u.health.record.coilFaults = s.health.record.coilFaults ∧
      u.health.record.ocFaults = s.health.record.ocFaults ∧ u.sites = s.sites ∧ u.ports = s.ports ∧
      u.results = s.results ∧ u.meter = s.meter ∧ u.time = s.arrive.time ∧ u.pins = s.pins ∧ u.freeze = s.freeze ∧
      u.laneWaiters = s.laneWaiters ∧ u.resetReq = s.resetReq

/-- CONFIG_SET (R180) with one pair of an item that acts only at its next point of use (BLOCK_FILL, HOT_WEIGHT, OC_PERSIST,
OPERATE_TIME, RELEASE_TIME, DISCHARGE_TIMEOUT, CLIP_LEVEL, SAMPLE_INTERVAL, AUTOSAVE_THRESHOLD, LEVEL_THRESHOLD): the
clamped value is stored and reported; a change makes the CONFIG item due, a set to the present value leaves the store alone.
With one pair of NOTICE_MASK the pending entries of the kinds it masks are removed too (R193). It is refused with BAD_FIELD,
and changes nothing, if it carries no pair, more than sixteen pairs, or an index above 15. With any pairs: each is clamped
and reported in the order given, and of two with one index the later stands; then the effects of the items set are taken on
the values stored: the silence timer anew or off (R171), the entries of masked kinds removed, the lives by RATED_LIFE
(R154), the end-of-life checks for RATED_LIFE or for RETIRE_AT_END set on, on the new lives (R159, R47), the attributes
(R156); and any change makes CONFIG due or puts its write under way with the new content (R177). Model's choices: a request
command is its frame's arrival (log entry 5), the transmitter chooses at the event's end (log entry 6), the order of the
effects and of what becomes due (log entry 12). -/
def Obligations.ConfigSetOutcomes : Prop :=
  (∀ (tag : Byte) (s : State) (i : Fin 16) (v : BitVec 32), s.ready →
    i ∈ ([0, 6, 7, 8, 9, 10, 11, 13, 14, 15] : List (Fin 16)) →
       let new := clampConfig i v
       let c : Instr := .configSet tag 0xFF [(byte i.val, v)]
       let data := byte i.val :: bytes32 new
       (s.store.config[i] = new → exec c s = .next (s.arrive.answered 0x10 tag 0xFF .ok data)) ∧
       (s.store.config[i] ≠ new → exec c s =
         .next ((((s.arrive.modStore fun t => { t with config := upd t.config i fun _ => new }).touch configItem).due
           configItem).answered 0x10 tag 0xFF .ok data))) ∧
  (∀ (tag : Byte) (s : State) (pairs : List (Byte × BitVec 32)), s.ready →
       (pairs = [] ∨ 16 < pairs.length ∨ ∃ e ∈ pairs, 15 < e.1.toNat) →
       exec (.configSet tag 0xFF pairs) s = .next (s.arrive.answered 0x10 tag 0xFF .badField [])) ∧
  (∀ (tag : Byte) (s : State) (v : BitVec 32), s.ready →
    let new := clampConfig 2 v
    let u := (s.arrive.modStore fun t => { t with config := upd t.config 2 fun _ => new }).modLink fun k =>
      { k with notices := Vector.ofFn fun m => if new.getLsbD m.val then k.notices[m] else none }
    let data := byte 2 :: bytes32 new
    (s.store.config[(2 : Fin 16)] = new →
      exec (.configSet tag 0xFF [(2, v)]) s = .next (u.answered 0x10 tag 0xFF .ok data)) ∧
    (s.store.config[(2 : Fin 16)] ≠ new → exec (.configSet tag 0xFF [(2, v)]) s =
      .next (((u.touch configItem).due configItem).answered 0x10 tag 0xFF .ok data))) ∧
  ∀ (tag : Byte) (s : State) (pairs : List (Fin 16 × BitVec 32)), s.ready → pairs ≠ [] → pairs.length ≤ 16 →
    let given := fun k : Fin 16 => (pairs.reverse.find? fun e => decide (e.1 = k)).map Prod.snd
    let value := fun k : Fin 16 => match given k with
      | some v => clampConfig k v
      | none => s.store.config[k]
    let sets := fun k : Fin 16 => (given k).isSome
    let life := fun l : LaneId =>
      if sets 4 then lifePercent (value 4).toNat (s.health.lanes[l]).counts.largest else (s.health.lanes[l]).life
    let atEnd := fun l : LaneId => (sets 4 = true ∨ sets 12 = true) ∧ value 12 ≠ 0 ∧ life l = 0
    let silence : Silence := if Duration.count ((value 1).setWidth 16) = 0 then .off
      else .running (Timer.begin ((value 1).setWidth 16) s.time.now)
    ∃ u : State,
      exec (.configSet tag 0xFF (pairs.map fun e => (byte e.1.val, e.2))) s = .next (u.answered 0x10 tag 0xFF .ok
        (pairs.map fun e => byte e.1.val :: bytes32 (clampConfig e.1 e.2)).flatten) ∧
      (∀ k : Fin 16, u.store.config[k] = value k) ∧
      (sets 1 = false → u.time = s.arrive.time) ∧
      (sets 1 = true → u.time = { s.arrive.time with silence := silence }) ∧
      (∀ m : Fin 9, sets 2 = true → (value 2).getLsbD m.val = false → u.link.notices[m] = none) ∧
      (∀ m : Fin 9, m ≠ 2 → m ≠ 3 → (sets 2 = false ∨ (value 2).getLsbD m.val = true) →
        u.link.notices[m] = s.link.notices[m]) ∧
      (∀ l : LaneId,
        (u.health.lanes[l]).life = life l ∧ (u.health.lanes[l]).counts = (s.health.lanes[l]).counts ∧
        (u.health.lanes[l]).marks = (s.health.lanes[l]).marks ∧ (¬atEnd l → u.lanes[l] = s.lanes[l]) ∧
        (atEnd l → u.lanes[l] = { s.lanes[l] with state := match s.lanes[l].state with
          | .free => .retired
          | .inUse => .retiring
          | .retiring => .retiring
          | .retired => .retired })) ∧
      ((sets 3 = true ∨ sets 4 = true ∨ sets 5 = true ∨ ∃ l : LaneId, atEnd l ∧ s.lanes[l].state = .free) →
        u.healthCurrent) ∧
      ((∃ k : Fin 16, value k ≠ s.store.config[k]) → configItem ∈ u.store.pendingWrites ∨
        ∃ w : Write, u.store.inFlight = some w ∧ w.content = .config u.store.config (s.ports.map Port.desc)) ∧
      u.sites = s.sites ∧ u.ports = s.ports ∧ u.results = s.results ∧ u.meter = s.meter ∧ u.pins = s.pins ∧
      u.freeze = s.freeze ∧ u.laneWaiters = s.laneWaiters ∧ u.resetReq = s.resetReq

/-- REACH_SET without its REACH_GET straight before it is refused with SEQUENCE (R23); with it, a REACH_SET that fails a
check of R24 is refused with that check's code; a volatile one that passes every check changes the working reach, its
retained field becomes no and the retained copy is unchanged (R24); a retained one changes both, and waits for the write of
the REACH item that is then due (R24, R25), which on an idle store begins at once with the new content (R177). Model's
choices: a request command is its frame's arrival (log entry 5), the transmitter chooses at the event's end (log entry 6),
free values are counted (log entry 7). -/
def Obligations.ReachSetOutcomes : Prop :=
  ∀ (tag : Byte) (s : State) (i : SiteId) (a b : Pin) (empty hv retain : Bool), s.ready →
    let new : Reach := { range := if empty then none else some (a, b), hv := hv }
    let c : Instr := .reachSet tag (siteByte i) a b empty hv retain
    (s.link.marker ≠ some (0x07, siteByte i) →
      exec c s = .next (s.arrive.answered 0x08 tag (siteByte i) .sequence [])) ∧
    (∀ code : ReplyCode, s.link.marker = some (0x07, siteByte i) → s.checkReachSet i new retain = some code →
      exec c s = .next (s.arrive.answered 0x08 tag (siteByte i) code [])) ∧
    (s.link.marker = some (0x07, siteByte i) → s.checkReachSet i new retain = none → retain = false →
      exec c s = .next (((s.arrive.modSite i fun x => { x with reach := new, retainedFlag := false }).drew 2).answered
        0x08 tag (siteByte i) .ok (s.reachBytes new false 0))) ∧
    (s.link.marker = some (0x07, siteByte i) → s.checkReachSet i new retain = none → retain = true → s.noBacklog →
      s.store.inFlight ≠ none →
      ∃ t : State, exec c s = .next (t.marked 0x08 (siteByte i)) ∧
        t.sites[i].reach = new ∧ t.sites[i].retainedFlag = true ∧ t.sites[i].retained = new ∧
        reachItem ∈ t.store.pendingWrites ∧ t.hasReq (.reachSet i) = true ∧ t.link = s.arrive.link ∧
        t.lanes = s.lanes ∧ t.ports = s.ports ∧ t.results = s.results ∧ t.health = s.health ∧ t.meter = s.meter) ∧
    (s.link.marker = some (0x07, siteByte i) → s.checkReachSet i new retain = none → retain = true → s.noBacklog →
      s.store.inFlight = none → s.store.pendingWrites = [] →
      exec c s = .next (((s.arrive.modSite i fun x =>
        { x with reach := new, retainedFlag := true, retained := new }).modStore fun t => { t with
          differs := if s.sites[i].retained = new then t.differs else upd t.differs reachItem fun _ => true,
          inFlight := some ⟨.reach ((upd s.sites i fun x => { x with retained := new }).map Site.retained), false⟩,
          reqs := t.reqs ++ [⟨.reachSet i, tag, []⟩],
          awaits := (t.awaits.map fun a => if a.item = reachItem then { a with begun := true } else a)
            ++ [⟨.reachSet i, reachItem, true⟩] }).marked 0x08 (siteByte i)))

/-! ### HOLD, RESUME, ABORT, CLEAR -/

/-- HOLD by the site's state (R14). Model's choices: a request command is its frame's arrival (log entry 5), the
transmitter chooses at the event's end (log entry 6). -/
def Obligations.HoldByState : Prop :=
  ∀ (tag : Byte) (s : State) (i : SiteId), s.ready →
    let c : Instr := .hold tag (siteByte i)
    (s.sites[i].state = .idle → exec c s = .next ((s.arrive.modSite i fun x =>
      { x with held := true, state := .held }).answered 0x03 tag (siteByte i) .ok [2, 1])) ∧
    (s.sites[i].state = .running → exec c s = .next ((s.arrive.modSite i fun x =>
      { x with held := true }).answered 0x03 tag (siteByte i) .ok [1, 1])) ∧
    (s.sites[i].state = .held → exec c s =
      .next (s.arrive.answered 0x03 tag (siteByte i) .ok [2, flag s.sites[i].held])) ∧
    ((s.sites[i].state = .stopped ∨ s.sites[i].state = .aborting ∨ s.sites[i].state = .safing ∨
      s.sites[i].state = .safe) → exec c s = .next (s.arrive.answered 0x03 tag (siteByte i) .siteState []))

/-- RESUME by the site's state (R15): it cancels a pending hold, returns a HELD site with an empty queue or a waiting DONE
to IDLE, starts the head of a HELD site's queue by the start of its kind (R9; a WAIT is spelled out), makes a SUSPENDED SCAN
ACTIVE again at its point, which waits for room or is given it at once (here at a pin that is already closed, so that its
settle wait begins, R122, R69), and is refused in STOPPED, ABORTING, SAFING and SAFE. Model's choices: a request command is
its frame's arrival (log entry 5), the transmitter chooses at the event's end (log entry 6), the order of the follow-ups
(log entries 6 and 36). -/
def Obligations.ResumeByState : Prop :=
  ∀ (tag : Byte) (s : State) (i : SiteId), s.ready →
    let c : Instr := .resume tag (siteByte i)
    (s.sites[i].state = .running → exec c s = .next ((s.arrive.modSite i fun x =>
      { x with held := false }).answered 0x04 tag (siteByte i) .ok [1, 0])) ∧
    (s.sites[i].state = .idle → exec c s =
      .next (s.arrive.answered 0x04 tag (siteByte i) .ok [0, flag s.sites[i].held])) ∧
    (s.sites[i].state = .held → (s.sites[i].running = none ∧ s.sites[i].queue = [] ∨
        ∃ n, s.sites[i].running = some ⟨.ended, n⟩) →
      exec c s = .next ((s.arrive.modSite i fun x => { x with held := false, state := .idle }).answered 0x04 tag
        (siteByte i) .ok [0, 0])) ∧
    (∀ n, s.sites[i].state = .held → s.sites[i].running = some ⟨.suspended, n⟩ →
      s.results.sites[i].pos = .closedWaiting →
      exec c s = .next ((s.arrive.modSite i fun x =>
        { x with held := false, state := .running, running := some ⟨.active .blockWait, n⟩ }).answered 0x04 tag
        (siteByte i) .ok [1, 0])) ∧
    (∀ (t : Byte) (d : Duration) (rest : List Step), s.sites[i].state = .held →
      s.sites[i].queue = ⟨t, .wait d⟩ :: rest → s.sites[i].running = none → Duration.count d ≠ 0 →
      exec c s = .next ((s.arrive.modSite i fun x =>
        { x with held := false, state := .running, running := some ⟨.active .waiting, 0⟩,
                 waitTimer := some (Timer.begin d s.time.now) }).answered 0x04 tag (siteByte i) .ok [1, 0])) ∧
    (∀ (t : Byte) (m : MeterSpec) (d : Duration) (pts : List ScanPoint) (pt : ScanPoint) (rest : List Step) (n : Nat)
      (l : LaneId) (r : Route), s.sites[i].state = .held → s.sites[i].queue = ⟨t, .scan m d pts⟩ :: rest →
      s.sites[i].running = some ⟨.suspended, n⟩ → pts[n]? = some pt → s.results.sites[i].pos ≠ .closedWaiting →
      s.routeLane i m.handle = some l → s.lanes[l].route = some r → r.state = .ready →
      s.pinsBusy (some l) [pt.pin] = false → s.lanes[l].pinRelays = [pinRelay pt.pin] → Duration.count d ≠ 0 →
      exec c s = .next ((((s.arrive.modSite i fun x =>
        { x with held := false, state := .running, running := some ⟨.active .switch, n⟩ }).modRes i fun x =>
        { x with reserved := true }).modLane l fun x =>
        { x with route := some { r with state := .switching },
                 wait := some ⟨.settle, Timer.begin d s.time.now⟩ }).answered 0x04 tag (siteByte i) .ok [1, 0])) ∧
    (∀ (st : Step) (rest : List Step), s.sites[i].state = .held → s.sites[i].queue = st :: rest →
      s.sites[i].running = none →
      let u := (s.arrive.modSite i fun x => { x with held := false, state := .idle }).startHead i
      let data := [byte u.sites[i].state.code, flag u.sites[i].held]
      (u.agenda = [] → u.link.slots = [] → exec c s = .next (u.answered 0x04 tag (siteByte i) .ok data)) ∧
      ∀ t : State, exec c s = .next t → (((u.reply 0x04 tag (siteByte i) .ok data).modLink fun k =>
        { k with marker := some (0x04, siteByte i) }).push .dispatch).finish = .next t) ∧
    ((s.sites[i].state = .stopped ∨ s.sites[i].state = .aborting ∨ s.sites[i].state = .safing ∨
      s.sites[i].state = .safe) → exec c s = .next (s.arrive.answered 0x04 tag (siteByte i) .siteState []))

/-- ABORT to a site that holds no route, no claim and no running step ends its teardown at once and is answered at once with
the discarded tags (R16, R18), its open block closed (R140); a running WAIT is stopped with a DONE ABORTED that lists no tag
(R17). A site that holds one route goes on in ABORTING with the tags kept: a READY route on a quiet lane enters OPENING with
its pin load, a LIVE route on a live lane is disarmed and its bounded quiet wait begins (R71, R85, R86). ABORT is refused
with SITE_STATE in SAFING and SAFE and with BUSY in ABORTING (R16). Model's choices: a request command is its frame's
arrival (log entry 5), the transmitter chooses at the event's end (log entry 6). -/
def Obligations.AbortOutcomes : Prop :=
  ∀ (tag : Byte) (s : State) (i : SiteId), s.ready →
    let c : Instr := .abort tag (siteByte i)
    let tags := s.sites[i].queue.map Step.tag
    ((s.sites[i].state = .idle ∨ s.sites[i].state = .running ∨ s.sites[i].state = .held ∨ s.sites[i].state = .stopped) →
      s.sites[i].running = none → s.routeLanes i = [] → s.routelessPorts i = [] → s.resetReq = none →
      exec c s = .next (((s.arrive.closeBlock i .ended).modSite i fun x =>
        { x with state := .idle, held := false, stopCause := none, queue := [], teardown := none, abort := none }).answered
        0x05 tag (siteByte i) .ok ([0, byte tags.length] ++ tags))) ∧
    (∀ (t : Byte) (d : Duration) (rest : List Step) (n : Nat), s.noBacklog → s.sites[i].state = .running →
      s.sites[i].queue = ⟨t, .wait d⟩ :: rest → s.sites[i].running = some ⟨.active .waiting, n⟩ →
      s.sites[i].carried = [] → s.link.completion.length < 16 → s.routeLanes i = [] → s.routelessPorts i = [] →
      s.resetReq = none →
      exec c s = .next ((((s.arrive.closeBlock i .ended).modLink fun k => { k with
        completion := k.completion ++ [⟨i, t, .aborted, none, 0, 0, none, []⟩] }).modSite i fun x =>
        { x with state := .idle, held := false, stopCause := none, queue := [], running := none, waitTimer := none,
                 teardown := none, abort := none }).answered 0x05 tag (siteByte i) .ok
        ([0, byte rest.length] ++ rest.map Step.tag))) ∧
    (∀ (l : LaneId) (r : Route), s.noBacklog → s.results.outbound.length < 16 →
      (s.sites[i].state = .idle ∨ s.sites[i].state = .held ∨ s.sites[i].state = .stopped) → s.sites[i].running = none →
      s.routeLanes i = [l] → s.lanes[l].route = some r → s.routelessPorts i = [] → s.resetReq = none →
      let aborting := (s.arrive.closeBlock i .ended).modSite i fun x =>
        { x with state := .aborting, held := false, stopCause := none, queue := [], teardown := some .abort,
                 abort := some ⟨tag, tags⟩ }
      (r.state = .ready → s.isLive l = false → s.lanes[l].pinRelays ≠ [] →
        exec c s = .next ((aborting.modLane l fun x =>
          { x with route := some { r with state := .opening }, closed := dropRelays x.pinRelays x.closed,
                   load := some { kind := .opening, closes := [], opens := x.pinRelays }, quiet := none }).marked
          0x05 (siteByte i))) ∧
      (r.state = .live → s.isLive l = true →
        exec c s = .next (((aborting.modPort r.port fun x => { x with arm := false }).modLane l fun x =>
          { x with route := some { r with state := .quieting },
                   quiet := some ⟨.disarm, some (Timer.begin s.dischargeTimeout s.time.now)⟩ }).marked
          0x05 (siteByte i)))) ∧
    ((s.sites[i].state = .safing ∨ s.sites[i].state = .safe) →
      exec c s = .next (s.arrive.answered 0x05 tag (siteByte i) .siteState [])) ∧
    (s.sites[i].state = .aborting → exec c s = .next (s.arrive.answered 0x05 tag (siteByte i) .busy []))

/-- CLEAR, plain and forced (R19): from STOPPED, and from SAFE with no route, the stop cause becomes absent and the site
enters IDLE at once; a CLEAR in flight gives BUSY; in IDLE, RUNNING, HELD, ABORTING and SAFING it is refused with
NOT_STOPPED. Model's choices: a request command is its frame's arrival (log entry 5), the transmitter chooses at the
event's end (log entry 6). -/
def Obligations.ClearReturnsToIdle : Prop :=
  ∀ (tag : Byte) (s : State) (i : SiteId) (force : Bool), s.ready →
    let c : Instr := if force then .clearForce tag (siteByte i) else .clear tag (siteByte i)
    ((s.sites[i].state = .stopped ∨
        (s.sites[i].state = .safe ∧ s.sites[i].clear = none ∧ s.routeLanes i = [])) →
      (s.sites[i].queue = [] ∨ s.sites[i].running ≠ none) →
      exec c s = .next ((s.arrive.modSite i fun x => { x with state := .idle, stopCause := none }).answered 0x06 tag
        (siteByte i) .ok [0])) ∧
    (s.sites[i].state = .safe → s.sites[i].clear ≠ none →
      exec c s = .next (s.arrive.answered 0x06 tag (siteByte i) .busy [])) ∧
    ((s.sites[i].state = .idle ∨ s.sites[i].state = .running ∨ s.sites[i].state = .held ∨
        s.sites[i].state = .aborting ∨ s.sites[i].state = .safing) →
      exec c s = .next (s.arrive.answered 0x06 tag (siteByte i) .notStopped []))

/-- CLEAR of a SAFE site with one STUCK route on lane l (R20, R21, R90). Plain, on a lane that reads live: refused with
DISCHARGE_TIMEOUT, no route touched. Plain, on a quiet lane: the route enters OPENING and its pin relays open. Forced: a hot
load opens the pin relays whatever the lane reads, and the route stays STUCK. How such a CLEAR goes on and ends is in
LoadDoneGoesOn, ReleaseTimerOpensRoute and DischargeAndOvercurrent. Model's choices: a request command is its frame's arrival
(log entry 5), the transmitter chooses at the event's end (log entry 6). -/
def Obligations.ClearOfStuckRoute : Prop :=
  ∀ (tag : Byte) (s : State) (i : SiteId) (l : LaneId) (r : Route), s.ready → s.noBacklog → s.sites[i].state = .safe →
    s.sites[i].clear = none → s.routeLanes i = [l] → s.lanes[l].route = some r → s.lanes[l].pinRelays ≠ [] →
    s.fullReset = false →
    (s.isLive l = true → exec (.clear tag (siteByte i)) s =
      .next (s.arrive.answered 0x06 tag (siteByte i) .dischargeTimeout [6])) ∧
    (s.isLive l = false → r.state = .stuck → exec (.clear tag (siteByte i)) s =
      .next (((s.arrive.modSite i fun x => { x with clear := some { tag := tag, forced := false } }).modLane l fun x =>
        { x with route := some { r with state := .opening }, closed := dropRelays x.pinRelays x.closed,
                 load := some { kind := .opening, closes := [], opens := x.pinRelays }, quiet := none }).marked
        0x06 (siteByte i))) ∧
    exec (.clearForce tag (siteByte i)) s =
      .next (((s.arrive.modSite i fun x => { x with clear := some { tag := tag, forced := true } }).modLane l fun x =>
        { x with closed := dropRelays x.pinRelays x.closed,
                 load := some { kind := .hot, closes := [], opens := x.pinRelays }, quiet := none }).marked
        0x06 (siteByte i))

/-! ### LANE_RENEW, SAVE, RESET -/

/-- LANE_RENEW of a FREE or RETIRED lane (R163): its counts, marks, count-lost flag and unsaved sum are cleared, its life is
100, it is FREE, the attributes are up to date, the leveling latch is set exactly if a lane in service has a life at or below
LEVEL_THRESHOLD, LIFE_WORST is the new LIFE, and each of the two records is due or is being written with its new content. It
is refused with BUSY for a lane IN_USE or RETIRING or whose renewal waits for its writes, with BAD_FIELD for a lane above 15.
A recomputation (R156) brings the attributes of R155 and STATE (R157) up to date, takes LIFE_WORST down to LIFE, sets the
latch by R158 and never clears it, raises the HEALTH notice exactly if STATE changed, and touches nothing else of the record,
no count and no lane. A retirement (R160) sets the lane RETIRED, raises LANE_RETIRED with the cause, life and marks, and
recomputes. A condemnation (R47) retires a FREE lane, takes an IN_USE lane to RETIRING and leaves the others. Model's choices:
a request command is its frame's arrival (log entry 5), the transmitter chooses at the event's end (log entry 6). -/
def Obligations.LaneRenewAndAttributes : Prop :=
  (∀ (tag : Byte) (s : State) (l : LaneId), s.ready → s.noBacklog → s.laneWaiters = [] → 1000 ≤ s.ratedLife →
       (s.lanes[l].state = .free ∨ s.lanes[l].state = .retired) → s.hasReq (.laneRenew l) = false →
       ∃ t : State, exec (.laneRenew tag 0xFF (byte l.val)) s = .next (t.marked 0x13 0xFF) ∧
         t.health.lanes[l] = { counts := [], marks := [], countLost := false, unsaved := 0, life := 100 } ∧
         t.lanes = upd s.lanes l (fun x => { x with state := .free }) ∧ t.healthCurrent ∧
         t.health.record.lifeWorst = t.health.life ∧
         (t.health.record.latch = true ↔
           ∃ k : LaneId, t.lanes[k].state ≠ .retired ∧ (t.health.lanes[k]).life ≤ s.levelThreshold) ∧
         (laneItem l ∈ t.store.pendingWrites ∨
           ∃ w : Write, t.store.inFlight = some w ∧ w.content = .lane l [] []) ∧
         (healthItem ∈ t.store.pendingWrites ∨
           ∃ w : Write, t.store.inFlight = some w ∧ w.content = .health t.health.record) ∧
         t.hasReq (.laneRenew l) = true ∧
         t.link.replies = s.link.replies ∧ t.sites = s.sites ∧ t.ports = s.ports ∧ t.results = s.results ∧
         ∀ k : LaneId, k ≠ l → (t.health.lanes[k]).counts = (s.health.lanes[k]).counts ∧
           (t.health.lanes[k]).marks = (s.health.lanes[k]).marks) ∧
  (∀ (tag : Byte) (s : State), s.ready →
       (∀ l : LaneId, (s.lanes[l].state = .inUse ∨ s.lanes[l].state = .retiring ∨ s.hasReq (.laneRenew l) = true) →
         exec (.laneRenew tag 0xFF (byte l.val)) s = .next (s.arrive.answered 0x13 tag 0xFF .busy [])) ∧
       ∀ b : Byte, 15 < b.toNat → exec (.laneRenew tag 0xFF b) s = .next (s.arrive.answered 0x13 tag 0xFF .badField [])) ∧
  (∀ s : State,
       let t := s.recompute
       t.healthCurrent ∧ t.lanes = s.lanes ∧ t.health.lanes = s.health.lanes ∧ t.store = s.store ∧
       t.health.record = { s.health.record with
         lifeWorst := min s.health.record.lifeWorst t.health.life, latch := t.health.record.latch } ∧
       (t.health.record.latch = true ↔ s.health.record.latch = true ∨
         ∃ l : LaneId, s.lanes[l].state ≠ .retired ∧ (s.health.lanes[l]).life ≤ s.levelThreshold) ∧
       (t.health.low = s.health.low → t.link = s.link) ∧
       (t.health.low ≠ s.health.low → t.link = (s.notice (.health t.health.low t.health.life t.health.spares)).link)) ∧
  ∀ (s : State) (l : LaneId),
    let w := s.health.lanes[l]
    (s.retire l).lanes = upd s.lanes l (fun x => { x with state := .retired }) ∧ (s.retire l).healthCurrent ∧
    (s.noticeMask.getLsbD 2 = true → ∃ e : NoticeEntry, (s.retire l).link.notices[(2 : Fin 9)] = some e ∧
      e.notice = .laneRetired l (decide (w.marks = [])) w.life w.marks.length) ∧
    (s.condemn l).lanes = upd s.lanes l fun x => { x with state := match x.state with
      | .free => .retired
      | .inUse => .retiring
      | .retiring => .retiring
      | .retired => .retired }

/-- SAVE (R179): with every differs flag clear it is answered OK at once with no failed item; otherwise its list, in item
order, joins the pending-write set behind what stands there, an item already in the set keeping its place, and SAVE waits
for each item of the list; on an idle store the write of the first begins at once with its content as it stands (R177).
While a SAVE or a FULL reset is in flight it is refused with BUSY. At the done of a write (R177, R178): only a request whose
awaited write had begun after it takes the result; while another write it awaits is missing it goes on waiting with a failed
item noted; otherwise it is answered, OK or STORE_FAILED: a retained REACH_SET with the site's working reach (R25),
LANE_RENEW with its lane (R164), SAVE with the failed items, the save of a FULL reset with the sites' states and the failed
items (R184); and the next write begins. Model's choices: a request command is its frame's arrival (log entry 5), the
transmitter chooses at the event's end (log entry 6), bytes of absent fields are free values (log entry 7), the failed items
stand in the order of failing (log entry 20), the bits of a reply's flag byte that no rule names are clear (log entry
35). -/
def Obligations.SaveOutcomes : Prop :=
  (∀ (tag : Byte) (s : State), s.ready →
    let list := allItems.filter fun it => s.store.differs[it]
    (s.hasReq .save = false → s.fullReset = false → (∀ it : ItemId, s.store.differs[it] = false) →
      exec (.save tag 0xFF) s = .next (s.arrive.answered 0x14 tag 0xFF .ok [0])) ∧
    (s.hasReq .save = false → s.fullReset = false → list ≠ [] → s.noBacklog → s.store.inFlight ≠ none →
      exec (.save tag 0xFF) s = .next ((s.arrive.modStore fun t => { t with
        reqs := t.reqs ++ [⟨.save, tag, []⟩], awaits := t.awaits ++ list.map fun it => ⟨.save, it, false⟩,
        pendingWrites := t.pendingWrites ++ list.filter fun it => decide (it ∉ t.pendingWrites) }).marked 0x14 0xFF)) ∧
    (∀ (it : ItemId) (rest : List ItemId), s.hasReq .save = false → s.fullReset = false → list = it :: rest →
      s.noBacklog → s.store.inFlight = none → s.store.pendingWrites = [] → s.store.awaits = [] →
      ∃ t : State, exec (.save tag 0xFF) s = .next (t.marked 0x14 0xFF) ∧
        t.store = { s.store with
          inFlight := some ⟨s.itemContent it, false⟩, pendingWrites := rest, reqs := s.store.reqs ++ [⟨.save, tag, []⟩],
          awaits := ⟨.save, it, true⟩ :: rest.map fun k => ⟨.save, k, false⟩ } ∧
        t.link = s.arrive.link ∧ t.sites = s.sites ∧ t.ports = s.ports ∧ t.lanes = s.lanes ∧ t.results = s.results ∧
        t.meter = s.meter) ∧
    ((s.hasReq .save = true ∨ s.fullReset = true) →
      exec (.save tag 0xFF) s = .next (s.arrive.answered 0x14 tag 0xFF .busy []))) ∧
  (∀ (s : State) (w : Write) (ok : Bool) (q : StoreReq) (more : List Await), s.awake → s.store.inFlight = some w →
    s.store.reqs = [q] → s.store.awaits = ⟨q.owner, w.content.item, true⟩ :: more →
    (∀ a ∈ more, ¬(a.item = w.content.item ∧ a.begun = true)) →
    let it := w.content.item
    let bad := if ok then q.failed else q.failed ++ [it]
    let base := if ok then s.modStore fun t => { t with
        inFlight := none, stored := t.stored.put w.content, differs := upd t.differs it fun _ => w.changed }
      else (s.modStore fun t => { t with inFlight := none }).notice (.storeFault it true)
    let gone := base.modStore fun t => { t with awaits := more, reqs := [] }
    let code : ReplyCode := if bad = [] then .ok else .storeFailed
    let failed := byte bad.length :: bad.map fun k => byte k.val
    ((∃ a ∈ more, a.owner = q.owner) → exec (.storeWriteDone ok) s = .next
      (base.modStore fun t => { t with awaits := more, reqs := [{ q with failed := bad }] }).beginWrite.transmit) ∧
    ((∀ a ∈ more, a.owner ≠ q.owner) →
      (q.owner = .save → exec (.storeWriteDone ok) s =
        .next (gone.reply 0x14 q.tag 0xFF code failed).beginWrite.transmit) ∧
      (∀ l : LaneId, q.owner = .laneRenew l → exec (.storeWriteDone ok) s =
        .next (gone.reply 0x13 q.tag 0xFF code [byte l.val]).beginWrite.transmit) ∧
      (∀ i : SiteId, q.owner = .reachSet i → bad ≠ [] → exec (.storeWriteDone ok) s =
        .next (gone.reply 0x08 q.tag (siteByte i) .storeFailed []).beginWrite.transmit) ∧
      (∀ i : SiteId, q.owner = .reachSet i → bad = [] →
        let x := s.sites[i]
        let data := match x.reach.range with
          | some (a, b) => [a, b, byte (2 * x.reach.hv.toNat + 4 * x.retainedFlag.toNat)]
          | none => [Config.freeByte s.freeReads, Config.freeByte (s.freeReads + 1),
              byte (1 + 2 * x.reach.hv.toNat + 4 * x.retainedFlag.toNat)]
        exec (.storeWriteDone ok) s =
          .next ((gone.reply 0x08 q.tag (siteByte i) .ok data).drew 2).beginWrite.transmit) ∧
      (∀ z : ResetReq, q.owner = .fullReset → s.resetReq = some z → exec (.storeWriteDone ok) s = .next
        ({ gone.replyWith ⟨0x15, q.tag, 0xFF, code,
            1 :: (allSites.map fun i => byte s.sites[i].state.code) ++ failed, true⟩ with
          resetReq := some { z with phase := .reply } } : State).beginWrite.transmit))) ∧
  ∀ (s : State) (w : Write), s.awake → s.store.inFlight = some w →
    (∀ a ∈ s.store.awaits, ¬(a.item = w.content.item ∧ a.begun = true)) →
    exec (.storeWriteDone true) s = .next (s.modStore fun t => { t with
      inFlight := none, stored := t.stored.put w.content,
      differs := upd t.differs w.content.item fun _ => w.changed }).beginWrite.transmit

/-- RESET of a part at rest (R183, R184): the blocks and the completion queue are emptied and every site ends IDLE at once.
RUN is answered OK with four IDLE end states and changes nothing else; FULL, with nothing to save, goes on to its REPLY,
whose end begins the start-up, and with items that differ to their save, as SAVE takes it (R179). A RUN reset of sites that
hold no route and no claim discards every queue and stops every running step (here a WAIT, or an ENDED one) with no DONE
(R28). A site with a READY route enters ABORTING, its route OPENING, and the RESET of either mode waits for it; when its
last route leaves the table the site enters IDLE and a RUN reset is answered with the end states (R85, R86, R88, R67). Phase
2 of a FULL reset (R73) opens a STUCK route at once on a quiet lane, and on a live lane behind a quiet wait without a timer;
when the last STUCK route of a SAFE site leaves the table the site enters IDLE, and with the last of the table the reset
goes on to its save, here with nothing to save, and its REPLY. A site that enters SAFE at the event that ends phase 1 stays
SAFE with its fault code (R88). A RESET while one is in flight is refused with BUSY. Model's choices: a request command is
its frame's arrival (log entry 5), the transmitter chooses at the event's end (log entry 6), closings are made behind the
action (log entry 36). -/
def Obligations.ResetAtRest : Prop :=
  ∀ (tag : Byte) (s : State), s.ready →
    let cleared : State := ({ s.arrive with results := { sites := Vector.replicate 4 SiteResults.fresh, outbound := [],
                                                         waiting := [] } } : State).modLink fun k =>
      { k with completion := [], doneWaiting := [] }
    (s.atRest → exec (.resetRun tag 0xFF) s = .next (cleared.answered 0x15 tag 0xFF .ok [0, 0, 0, 0, 0, 0])) ∧
    (s.atRest → (∀ it : ItemId, s.store.differs[it] = false) →
      ∃ q : ResetReq, q.full = true ∧ q.phase = .reply ∧ exec (.resetFull tag 0xFF) s =
        .next ((({ cleared with resetReq := some q } : State).replyWith
          ⟨0x15, tag, 0xFF, .ok, [1, 0, 0, 0, 0, 0], true⟩).marked 0x15 0xFF)) ∧
    (s.resetReq = none →
      (∀ i : SiteId, (s.sites[i].state = .idle ∨ s.sites[i].state = .running ∨ s.sites[i].state = .held ∨
          s.sites[i].state = .stopped) ∧ s.sites[i].abort = none ∧
        (s.sites[i].running = none ∨ (∃ n, s.sites[i].running = some ⟨.ended, n⟩) ∨
          ∃ n t d rest, s.sites[i].running = some ⟨.active .waiting, n⟩ ∧
            s.sites[i].queue = (⟨t, .wait d⟩ : Step) :: rest)) →
      (∀ l : LaneId, s.lanes[l].route = none) → (∀ p : PortId, s.ports[p].claim = none) →
      ∃ u : State, exec (.resetRun tag 0xFF) s = .next (u.answered 0x15 tag 0xFF .ok [0, 0, 0, 0, 0, 0]) ∧
        (∀ i : SiteId, u.sites[i] = { s.sites[i] with
          state := .idle, held := false, queue := [], running := none, carried := [], stopCause := none,
          teardown := none, waitTimer := match s.sites[i].running with
            | some ⟨.active .waiting, _⟩ => none
            | _ => s.sites[i].waitTimer }) ∧
        u.results = cleared.results ∧ u.link = cleared.link ∧ u.resetReq = none ∧ u.lanes = s.lanes ∧
        u.ports = s.ports ∧ u.meter = s.meter ∧ u.health = s.health ∧ u.store = s.store ∧ u.time = s.arrive.time) ∧
    (∀ (full : Bool) (i : SiteId) (l : LaneId) (r : Route), s.noBacklog → s.resetReq = none →
      (∀ j : SiteId, s.sites[j] = { Site.fresh with
        reach := s.sites[j].reach, retainedFlag := s.sites[j].retainedFlag, retained := s.sites[j].retained }) →
      (∀ k : LaneId, k ≠ l → s.lanes[k].route = none) → s.lanes[l].route = some r → r.site = i → r.state = .ready →
      s.isLive l = false → s.lanes[l].pinRelays ≠ [] → s.routelessPorts i = [] →
      (∀ p : PortId, ∀ c ∈ s.ports[p].claim, c.site = i) →
      exec (if full then .resetFull tag 0xFF else .resetRun tag 0xFF) s =
        .next (((({ cleared with resetReq := some ⟨tag, full, .teardown, [i], Vector.replicate 4 .idle⟩ } : State).modSite i
          fun x => { x with state := .aborting, teardown := some .runReset }).modLane l fun x =>
          { x with route := some { r with state := .opening }, closed := dropRelays x.pinRelays x.closed,
                   load := some { kind := .opening, closes := [], opens := x.pinRelays }, quiet := none }).marked
          0x15 0xFF)) ∧
    (∀ (q : ResetReq) (l : LaneId) (r : Route) (t : Timer), s.awake → s.resetReq = some q → q.full = false →
      q.phase = .teardown → q.waiting = [r.site] → s.routeLanes r.site = [l] → s.lanes[l].route = some r →
      r.state = .opening → s.lanes[l].closed = [] → s.lanes[l].state = .inUse → s.laneWaiters = [] →
      s.ports[r.port].waiters = [] → s.lanes[l].wait = some ⟨.release, t⟩ → t.expiry ≤ s.time.now →
      s.sites[r.site].state = .aborting → s.sites[r.site].teardown = some .runReset → s.sites[r.site].abort = none →
      s.sites[r.site].clear = none → s.sites[r.site].queue = [] → s.sites[r.site].running = none →
      exec (.releaseWaitExpiry l) s = .next ((((({ s with resetReq := none } : State).modLane l fun x =>
        { x with state := .free, route := none, quiet := none, wait := none, episode := none, latch := false }).modPort
        r.port fun x => { x with claim := none }).modSite r.site fun x =>
        { x with state := .idle, stopCause := none, teardown := none }).reply 0x15 q.tag 0xFF .ok
        (0 :: (allSites.map fun j => byte (if j = r.site then SiteState.idle else q.ends[j]).code) ++ [0])).transmit) ∧
    (s.resetReq ≠ none →
      exec (.resetRun tag 0xFF) s = .next (s.arrive.answered 0x15 tag 0xFF .busy []) ∧
      exec (.resetFull tag 0xFF) s = .next (s.arrive.answered 0x15 tag 0xFF .busy [])) ∧
    (let list := allItems.filter fun it => s.store.differs[it]
      let saving := { cleared with resetReq := some ⟨tag, true, .save, [], Vector.replicate 4 .idle⟩ }
      s.atRest → list ≠ [] →
      (s.store.inFlight ≠ none → exec (.resetFull tag 0xFF) s = .next ((saving.modStore fun t => { t with
        reqs := t.reqs ++ [⟨.fullReset, tag, []⟩], awaits := t.awaits ++ list.map fun it => ⟨.fullReset, it, false⟩,
        pendingWrites := t.pendingWrites ++ list.filter fun it => decide (it ∉ t.pendingWrites) }).marked 0x15 0xFF)) ∧
      ∀ (it : ItemId) (rest : List ItemId), list = it :: rest → s.store.inFlight = none → s.store.pendingWrites = [] →
        s.store.awaits = [] → ∃ t : State, exec (.resetFull tag 0xFF) s = .next (t.marked 0x15 0xFF) ∧
          t.store = { s.store with
            inFlight := some ⟨s.itemContent it, false⟩, pendingWrites := rest,
            reqs := s.store.reqs ++ [⟨.fullReset, tag, []⟩],
            awaits := ⟨.fullReset, it, true⟩ :: rest.map fun k => ⟨.fullReset, k, false⟩ } ∧
          t.resetReq = saving.resetReq ∧ t.link = cleared.link ∧ t.sites = s.sites ∧ t.lanes = s.lanes) ∧
    (∀ (i : SiteId) (l : LaneId) (r : Route) (f : Failure), s.resetReq = none →
      (∀ j : SiteId, s.sites[j] = { Site.fresh with
        reach := s.sites[j].reach, retainedFlag := s.sites[j].retainedFlag, retained := s.sites[j].retained,
        state := if j = i then .safe else .idle, stopCause := if j = i then some f else none }) →
      (∀ k : LaneId, k ≠ l → s.lanes[k].route = none) → s.lanes[l].route = some r → r.site = i → r.state = .stuck →
      (∀ p : PortId, ∀ c ∈ s.ports[p].claim, c.site = i) →
      let opens := if s.lanes[l].pinRelays = [] then s.lanes[l].closed else s.lanes[l].pinRelays
      let opened := { cleared with resetReq := some ⟨tag, true, .stuck, [], s.sites.map Site.state⟩ }
      exec (.resetFull tag 0xFF) s = .next ((opened.modLane l fun x =>
        if s.isLive l then { x with quiet := some ⟨.unstick, none⟩ }
        else { x with route := some { r with state := .opening }, closed := dropRelays opens x.closed,
                      load := some ⟨.opening, [], opens⟩, quiet := none }).marked 0x15 0xFF)) ∧
    (∀ (q : ResetReq) (l : LaneId) (r : Route) (t : Timer), s.awake → s.resetReq = some q → q.full = true →
      s.lanes[l].route = some r → r.state = .opening → s.lanes[l].closed = [] → s.lanes[l].state = .inUse →
      s.laneWaiters = [] → s.ports[r.port].waiters = [] → s.lanes[l].wait = some ⟨.release, t⟩ → t.expiry ≤ s.time.now →
      s.sites[r.site].clear = none → s.sites[r.site].abort = none → s.sites[r.site].running = none →
      let i := r.site
      let freed := (s.modLane l fun x =>
        { x with state := .free, route := none, quiet := none, wait := none, episode := none, latch := false }).modPort
        r.port fun x => { x with claim := none }
      (q.phase = .stuck → s.sites[i].state = .safe → s.routeLanes i = [l] →
        let idle := freed.modSite i fun x => { x with state := .idle, stopCause := none }
        (∀ (k : LaneId) (u : Route), k ≠ l → s.lanes[k].route = some u →
          exec (.releaseWaitExpiry l) s = .next idle.transmit) ∧
        ((∀ k : LaneId, k ≠ l → s.lanes[k].route = none) → (∀ it : ItemId, s.store.differs[it] = false) →
          exec (.releaseWaitExpiry l) s = .next ({ idle.replyWith ⟨0x15, q.tag, 0xFF, .ok,
              1 :: (allSites.map fun j => byte (if j = i then SiteState.idle else s.sites[j].state).code) ++ [0], true⟩ with
            resetReq := some { q with phase := .reply } } : State).transmit)) ∧
      ∀ (f : Failure) (k : LaneId) (u : Route), q.phase = .teardown → q.waiting = [i] → s.sites[i].state = .safing →
        s.sites[i].teardown = some (.fault f) → s.routeLanes i = [l] → k ≠ l → s.lanes[k].route = some u →
        u.state = .stuck → s.sites[u.site].clear = none → s.isLive k = true →
        (∀ m : LaneId, m ≠ k → m ≠ l → s.lanes[m].route = none) → s.results.outbound.length < 16 →
        exec (.releaseWaitExpiry l) s = .next ((((({ freed with resetReq := some { q with
            phase := .stuck, waiting := [], ends := q.ends.set i .safe } } : State).modLane k fun x =>
          { x with quiet := some ⟨.unstick, none⟩ }).modSite i fun x =>
          { x with state := .safe, stopCause := some f, teardown := none }).notice (.siteState i .safe (some f))).closeBlock
          i .ended).transmit)

/-! ### STEP -/

/-- A STEP of any kind that passes every check at a site that cannot start it at once (a running step is present, or
the held flag is set) is appended to the tail of the queue with its tag and answered OK (R5, R9). A STEP that fails
a check is refused with that check's code and leaves the site record unchanged (R5); during a FULL reset it is
refused with BUSY (R184). Model's choices: a request command is its frame's arrival (log entry 5), the transmitter
chooses at the event's end (log entry 6). -/
def Obligations.StepAcceptedOrRefused : Prop :=
  (∀ (c : Instr) (tag : Byte) (i : SiteId) (r : StepReq) (b : StepBody) (s : State),
       stepCommand c = some (tag, siteByte i, r) → c.wellFormed = true → s.ready → s.fullReset = false →
       s.acceptStep i tag r = .ok b → (s.sites[i].held = true ∨ s.sites[i].running ≠ none) →
       exec c s = .next ((s.arrive.modSite i fun x => { x with queue := x.queue ++ [⟨tag, b⟩] }).answered 0x02 tag
         (siteByte i) .ok [])) ∧
  (∀ (c : Instr) (tag : Byte) (i : SiteId) (r : StepReq) (s : State),
       stepCommand c = some (tag, siteByte i, r) → c.wellFormed = true → s.ready →
       (∀ code : ReplyCode, s.fullReset = false → s.acceptStep i tag r = .error code →
         exec c s = .next (s.arrive.answered 0x02 tag (siteByte i) code [])) ∧
       (s.fullReset = true → exec c s = .next (s.arrive.answered 0x02 tag (siteByte i) .busy [])))

/-- Starting the head step (R9): the site is RUNNING and the step ACTIVE in its first phase, by the start of its kind:
CONNECT (R33), ARM (R64), DISARM (R80), RELEASE (R65), MEASURE and SCAN (R119, R122), TRIGGER (R38), WAIT, whose timer
starts (R173), FLUSH (R141). An accepted STEP at a site that is IDLE, or RUNNING with its previous step gone, and not
held, starts the head of the queue at that event behind its reply (spelled out for a WAIT at an idle site). When a WAIT
with steps behind it ends OK, its DONE enters the completion queue and the next step starts, or, with the held flag set,
the site enters HELD (R10). When the transmitter begins a DONE frame, the oldest waiting DONE takes the freed entry, its
step leaves the queue, and its site goes on: IDLE, HELD, or its next step starts (R8, R192). Where the start leaves
follow-ups (a step that ends at once, a timer of count 0) they run at the same event. Model's choices: a request command
is its frame's arrival (log entry 5), the transmitter chooses at the event's end (log entry 6), the order of the
follow-ups (log entries 6 and 36). -/
def Obligations.HeadStepStarts : Prop :=
  (∀ (s : State) (i : SiteId) (t : Byte) (rest : List Step),
    let started := s.modSite i fun x => { x with state := .running, running := some ⟨.active .starting, 0⟩ }
    (∀ (h : Handle) (p : PortId) (d e : Duration) (pins : List Pin),
      s.sites[i].queue = ⟨t, .connect h p d e pins⟩ :: rest → s.startHead i = started.startConnect i h p e) ∧
    (∀ h : Handle, s.sites[i].queue = ⟨t, .arm h⟩ :: rest → s.startHead i = started.startArm i h) ∧
    (∀ h : Handle, s.sites[i].queue = ⟨t, .disarm h⟩ :: rest → s.startHead i = started.startDisarm i h) ∧
    (∀ h : Handle, s.sites[i].queue = ⟨t, .release h⟩ :: rest → s.startHead i = started.startRelease i h) ∧
    (∀ m : MeterSpec, s.sites[i].queue = ⟨t, .measure m⟩ :: rest → s.startHead i = started.startMeter i m.handle) ∧
    (∀ (m : MeterSpec) (d : Duration) (pts : List ScanPoint),
      s.sites[i].queue = ⟨t, .scan m d pts⟩ :: rest → s.startHead i = started.startMeter i m.handle) ∧
    (∀ (h : Handle) (d : Duration),
      s.sites[i].queue = ⟨t, .trigger h d⟩ :: rest → s.startHead i = started.startTrigger i h) ∧
    (∀ d : Duration, s.sites[i].queue = ⟨t, .wait d⟩ :: rest → Duration.count d ≠ 0 → s.startHead i = s.modSite i fun x =>
      { x with state := .running, running := some ⟨.active .waiting, 0⟩, waitTimer := some (Timer.begin d s.time.now) }) ∧
    (s.sites[i].queue = ⟨t, .flush⟩ :: rest → s.startHead i = started.startFlush i)) ∧
  (∀ (c : Instr) (tag : Byte) (i : SiteId) (r : StepReq) (b : StepBody) (s : State),
    stepCommand c = some (tag, siteByte i, r) → c.wellFormed = true → s.ready → s.fullReset = false →
    s.acceptStep i tag r = .ok b → (s.sites[i].state = .idle ∨ s.sites[i].state = .running) → s.sites[i].held = false →
    s.sites[i].running = none →
    let v := (s.arrive.modSite i fun x => { x with queue := x.queue ++ [⟨tag, b⟩] }).reply 0x02 tag (siteByte i) .ok []
    let u := ((v.modLink fun k => { k with marker := some (0x02, siteByte i) }).push .dispatch).startHead i
    (u.agenda = [.dispatch] → u.link.slots = [] → u.link.replies ≠ [] →
      exec c s = .next ({ u with agenda := [] } : State).transmit) ∧
    ∀ t : State, exec c s = .next t → u.finish = .next t) ∧
  (∀ (tag : Byte) (i : SiteId) (d : Duration) (s : State), s.ready → s.fullReset = false →
    s.sites[i].reach.range ≠ none → s.sites[i].state = .idle → s.sites[i].queue = [] → s.sites[i].running = none →
    s.sites[i].held = false → Duration.count d ≠ 0 →
    exec (.stepWait tag (siteByte i) d) s = .next ((s.arrive.modSite i fun x =>
      { x with state := .running, queue := [⟨tag, .wait d⟩], running := some ⟨.active .waiting, 0⟩,
               waitTimer := some (Timer.begin d s.time.now) }).answered 0x02 tag (siteByte i) .ok [])) ∧
  (∀ (s : State) (i : SiteId) (t : Timer) (tag : Byte) (d : Duration) (n : Nat) (st : Step) (rest : List Step), s.awake →
    s.sites[i].queue = ⟨tag, .wait d⟩ :: st :: rest → s.sites[i].running = some ⟨.active .waiting, n⟩ →
    s.sites[i].state = .running → s.sites[i].carried = [] → s.link.completion.length < 16 →
    s.sites[i].waitTimer = some t → t.expiry ≤ s.time.now →
    let ended := (s.modLink fun k => { k with
        completion := k.completion ++ [⟨i, tag, .ok, none, 0, 0, none, []⟩] }).modSite i fun x =>
      { x with queue := st :: rest, running := none, waitTimer := none }
    let u := ended.startHead i
    (s.sites[i].held = true → exec (.waitTimerExpiry i) s =
      .next (ended.modSite i fun x => { x with state := .held }).transmit) ∧
    (s.sites[i].held = false → u.noBacklog → exec (.waitTimerExpiry i) s = .next u.transmit) ∧
    (s.sites[i].held = false → ∀ v : State, exec (.waitTimerExpiry i) s = .next v → u.finish = .next v)) ∧
  ∀ (s : State) (i : SiteId) (x : TxFrame) (d e : DoneFrame) (ds : List DoneFrame) (st : Step) (rest : List Step) (n : Nat),
    s.powered = true → s.linkUp = true → s.agenda = [] → s.pins.rts = true → s.link.tx = some x →
    (∀ r : Reply, x = .reply r → r.fullReset = false) → s.link.replies = [] → s.link.completion = e :: ds →
    s.link.doneWaiting = [d] → ds.length < 16 → d.site = i → s.sites[i].queue = st :: rest →
    s.sites[i].running = some ⟨.ended, n⟩ → s.sites[i].carried = [] →
    let moved := (s.modLink fun k => { k with tx := some (.done e), completion := ds ++ [d], doneWaiting := [] }).modSite i
      fun x => { x with queue := rest, running := none }
    (s.sites[i].state = .running → s.sites[i].held = false → rest = [] →
      exec .txFrameEnd s = .next (moved.modSite i fun x => { x with state := .idle })) ∧
    (s.sites[i].state = .running → s.sites[i].held = true →
      exec .txFrameEnd s = .next (moved.modSite i fun x => { x with state := .held })) ∧
    ((s.sites[i].state = .running ∨ s.sites[i].state = .idle) → s.sites[i].held = false → rest ≠ [] →
      (moved.startHead i).agenda = [] → exec .txFrameEnd s = .next (moved.startHead i))

/-! ### How steps start -/

/-- CONNECT, claims and lanes. A start (R33): HANDLE_BUSY for a handle in use; PORT_BUSY for a port of kind NONE, one that
needs high voltage the site may not use, or one the site holds by another handle; else the claim timer starts, and the
CONNECT joins the tail of the port's waiters where another site holds it, or takes the claim and goes on to its lane phase;
a timer of count 0 expires at that event. The lane phase (R56, R57): PIN_BUSY where a route holds one of the pins; the
chosen lane where no CONNECT waits for a lane and one qualifies; else the tail of the lane waiters (R60). A lane obtained
(R58): the claim timer stops, the lane is IN_USE with a CLOSING route, one closing load of the port relay and every pin
relay begins, and an episode starts if OVER reads high (R81). The lane waiters are served oldest first while a lane
qualifies (R61). A freed claim becomes absent, or passes to the port's oldest waiter, whose CONNECT goes on to its lane
phase (R35). The lane chosen is the qualifying (FREE and quiet) lane of lowest index while the leveling latch is clear, and
of highest life, lowest index among equals, once it is set (R57). -/
def Obligations.ConnectStarts : Prop :=
  (∀ (s : State) (i : SiteId) (h : Handle) (p : PortId) (e : Duration),
    let x := s.ports[p]
    let inUse := s.routeLane i h ≠ none ∨ s.claimPort i h ≠ none
    let denied := x.desc.kind = .none ∨ (x.desc.hv = true ∧ s.sites[i].reach.hv = false)
    let timed := s.modSite i fun y => { y with claimTimer := some (Timer.begin e s.time.now) }
    (inUse → s.startConnect i h p e = s.failLogic i .handleBusy) ∧
    (¬inUse → denied → s.startConnect i h p e = s.failLogic i .portBusy) ∧
    (∀ c : Claim, ¬inUse → ¬denied → x.claim = some c →
      (c.site = i → s.startConnect i h p e = s.failLogic i .portBusy) ∧
      (c.site ≠ i → s.startConnect i h p e =
        ((timed.modPort p fun y => { y with waiters := y.waiters ++ [⟨i, h⟩] }).modSite i fun y =>
          { y with running := y.running.map fun r => { r with progress := .active .portWait } }).pushIfZero e
          (.claimExpired i))) ∧
    (¬inUse → ¬denied → x.claim = none → s.startConnect i h p e =
      ((timed.modPort p fun y => { y with claim := some ⟨i, h⟩ }).lanePhase i).pushIfZero e (.claimExpired i))) ∧
  (∀ (s : State) (w : LaneWaiter) (l : LaneId), Duration.count s.ocPersist ≠ 0 →
    let relays := portRelay w.port :: w.pins.map pinRelay
    let obtained := (s.modSite w.site fun x =>
        { x with claimTimer := none, running := x.running.map fun r => { r with progress := .active .closing } }).modLane l
      fun x => { x with
               state := .inUse, route := some ⟨w.site, w.handle, w.port, .closing⟩, closed := addRelays relays x.closed,
               load := some ⟨.closing, relays, []⟩, quiet := none,
               episode := if s.pins.overIn[l] = true ∧ x.latch = false ∧ x.episode = none
                          then some (Timer.begin s.ocPersist s.time.now) else x.episode }
    (∀ ws : List LaneWaiter, s.laneWaiters = w :: ws → s.chooseLane = some l →
      s.serveLaneWaiters = ({ obtained with laneWaiters := ws } : State).serveLaneWaiters) ∧
    ∀ (d e : Duration) (rest : List Step) (ph : Phase) (n : Nat),
      s.sites[w.site].queue = ⟨w.tag, .connect w.handle w.port d e w.pins⟩ :: rest →
      s.sites[w.site].running = some ⟨.active ph, n⟩ →
      let asks := s.modSite w.site fun x => { x with running := some ⟨.active .laneWait, n⟩ }
      let held := ∃ (k : LaneId) (u : Route), s.lanes[k].route = some u ∧ ∃ q ∈ w.pins, pinRelay q ∈ s.lanes[k].closed
      (held → s.lanePhase w.site = asks.failLogic w.site .pinBusy) ∧
      (¬held → s.laneWaiters = [] → s.chooseLane = some l → s.lanePhase w.site = obtained) ∧
      (¬held → (s.laneWaiters ≠ [] ∨ s.chooseLane = none) →
        s.lanePhase w.site = { asks with laneWaiters := s.laneWaiters ++ [w] })) ∧
  (∀ s : State, (s.laneWaiters = [] ∨ s.chooseLane = none) → s.serveLaneWaiters = s) ∧
  (∀ (s : State) (p : PortId),
    (s.ports[p].waiters = [] → s.freeClaim p = s.modPort p fun x => { x with claim := none }) ∧
    ∀ (w : Claim) (ws : List Claim), s.ports[p].waiters = w :: ws →
      s.freeClaim p = (s.modPort p fun x => { x with claim := some w, waiters := ws }).lanePhase w.site) ∧
  (∀ s : State, s.health.record.latch = false →
    s.chooseLane = allLanes.find? fun l => decide (s.lanes[l].state = .free) && !s.pins.live[l]) ∧
  (∀ s : State, s.chooseLane = none ↔ ∀ l : LaneId, s.lanes[l].state = .free → s.pins.live[l] = true) ∧
  ∀ (s : State) (l : LaneId), s.health.record.latch = true → s.chooseLane = some l →
    s.qualifies l = true ∧ ∀ k : LaneId, s.qualifies k = true →
      (s.health.lanes[k]).life ≤ (s.health.lanes[l]).life ∧
        ((s.health.lanes[k]).life = (s.health.lanes[l]).life → l ≤ k)

/-- How ARM, DISARM, MEASURE, SCAN and TRIGGER start on a handle. NO_HANDLE where it names no route of the site: nothing, or
a claim without a route (R55, R64, R80, R119, R38). ARM (R64): NOT_SOURCE on a port that is no SOURCE; a READY route goes
LIVE with its arm line asserted; on a LIVE route it ends OK and nothing changes. DISARM (R80): of a READY route it ends OK at
once; of a LIVE route the arm line is deasserted; on a quiet lane the route is READY at once, on a live lane its quiet wait
begins. MEASURE and SCAN: NOT_METER off port 0 (R119). MEASURE (R121, R98): with room it reserves a place and starts an
acquisition with the settings in force. TRIGGER (R38, R39): NO_HANDLE on port 0; with room and the line released it asserts
the line, takes the timestamp and starts its timers. Model's choices: a new acquisition's last sample time is 0 and clear
until its first sample (log entry 34), a block that closes at the same event closes before room is given (log entry 36). -/
def Obligations.RouteStepsStart : Prop :=
  (∀ (s : State) (i : SiteId) (h : Handle), s.findRoute i h = none →
    s.startArm i h = s.failLogic i .noHandle ∧ s.startDisarm i h = s.failLogic i .noHandle ∧
    s.startMeter i h = s.failLogic i .noHandle ∧ s.startTrigger i h = s.failLogic i .noHandle) ∧
  ∀ (s : State) (i : SiteId) (h : Handle) (l : LaneId) (r : Route), s.findRoute i h = some (l, r) →
    (s.ports[r.port].desc.kind = .source → r.state = .live → s.startArm i h = s.endOk i) ∧
    (r.state = .ready → s.startDisarm i h = s.endOk i) ∧
    (s.ports[r.port].desc.kind ≠ .source → s.startArm i h = s.failLogic i .notSource) ∧
    (s.ports[r.port].desc.kind = .source → r.state = .ready → s.startArm i h =
      ((s.modPort r.port fun x => { x with arm := true }).modLane l fun x =>
        { x with route := some { r with state := .live } }).endOk i) ∧
    (r.state = .live → s.isLive l = false → s.startDisarm i h =
      ((s.modPort r.port fun x => { x with arm := false }).modLane l fun x =>
        { x with route := some { r with state := .ready } }).endOk i) ∧
    (r.state = .live → s.isLive l = true → s.fullReset = false → s.startDisarm i h =
      ((s.modPort r.port fun x => { x with arm := false }).modSite i fun x =>
        { x with running := x.running.map fun q => { q with progress := .active .disarming } }).modLane l fun x =>
        { x with route := some { r with state := .quieting },
                 quiet := some ⟨.disarm, some (Timer.begin s.dischargeTimeout s.time.now)⟩ }) ∧
    (r.port ≠ 0 → s.startMeter i h = s.failLogic i .notMeter) ∧
    (r.port = 0 → s.startTrigger i h = s.failLogic i .noHandle) ∧
    (∀ (tag : Byte) (m : MeterSpec) (rest : List Step), r.port = 0 → s.sites[i].queue = ⟨tag, .measure m⟩ :: rest →
      s.sites[i].running = some ⟨.active .starting, 0⟩ → s.results.sites[i].pos ≠ .closedWaiting → s.closing i = false →
      let a : Acquisition :=
        { site := i, tag := tag, point := 0, requested := m.range, range := m.range, aperture := m.aperture,
          autorange := m.autorange, raw := m.raw, limits := m.limits, clip := s.clipLevel,
          interval := s.sampleInterval, cal := s.meter.cal, hv := s.sites[i].reach.hv, retries := 0,
          switching := false, timer := Timer.begin s.sampleInterval s.time.now, taken := 0, sum := 0, clipped := 0,
          last := 0, lastUncertain := false }
      s.startMeter i h = ((s.modRes i fun x => { x with reserved := true }).modSite i fun x =>
        { x with running := some ⟨.active .acquire, 0⟩ }).modMeter fun t => { t with acq := some a }) ∧
    ∀ (tag : Byte) (d : Duration) (rest : List Step), r.port ≠ 0 → s.sites[i].queue = ⟨tag, .trigger h d⟩ :: rest →
      s.sites[i].running = some ⟨.active .starting, 0⟩ → s.results.sites[i].pos ≠ .closedWaiting → s.closing i = false →
      s.ports[r.port].trigger = false → Duration.count d ≠ 0 →
      s.startTrigger i h = ((s.modRes i fun x => { x with reserved := true }).modSite i fun x =>
        { x with running := some ⟨.active .doneWait, 0⟩ }).modPort r.port fun x =>
        { x with trigger := true, wait := some ⟨i, tag, s.time.now⟩, doneTimer := some (Timer.begin d s.time.now),
                 pulseTimer := if x.desc.style = .pulse then some (Timer.micros x.desc.width s.time.now)
                               else x.pulseTimer }

/-! ### Faults -/

/-- A fault at a site. A running WAIT carries it (R12): its DONE is FAILED with the fault code and lists the steps behind
it; a site that holds no route and no claim is SAFE at once with that stop cause and raises SITE_STATE (R3, R88), and its
open block closes with END (R140). A site that holds a READY route on a quiet lane, and no step, enters SAFING with its
route OPENING (R12, R85, R86). A site that is ABORTING, SAFING or SAFE absorbs it (R13). Whatever the site holds, no port of
one of its LIVE routes keeps its arm line asserted (R85 step 2). Model's choice: the order of an event's follow-ups and the
transmitter's choice at its end (log entries 6 and 36). -/
def Obligations.FaultTakesSite : Prop :=
  ∀ (s : State) (i : SiteId) (f : Failure),
    (∀ (tag : Byte) (d : Duration) (rest : List Step) (n : Nat), s.noBacklog → s.results.outbound.length < 16 →
      s.sites[i].state = .running →
      s.sites[i].queue = ⟨tag, .wait d⟩ :: rest → s.sites[i].running = some ⟨.active .waiting, n⟩ →
      s.sites[i].carried = [] → s.link.completion.length < 16 → s.routeLanes i = [] → s.routelessPorts i = [] →
      s.resetReq = none →
      (s.takeFault i f).finish = .next ((((s.modLink fun k => { k with
        completion := k.completion ++ [⟨i, tag, .failed, some f, 0, 0, none, rest.map Step.tag⟩] }).modSite i fun x =>
        { x with queue := [], running := none, held := false, waitTimer := none, state := .safe, stopCause := some f,
                 teardown := none }).notice (.siteState i .safe (some f))).closeBlock i .ended).transmit) ∧
    (∀ (l : LaneId) (r : Route), (s.sites[i].state = .idle ∨ s.sites[i].state = .held ∨ s.sites[i].state = .stopped) →
      s.sites[i].queue = [] → s.sites[i].running = none → s.routeLanes i = [l] → s.lanes[l].route = some r →
      r.state = .ready → s.isLive l = false → s.lanes[l].pinRelays ≠ [] → s.routelessPorts i = [] →
      s.takeFault i f = (s.modSite i fun x =>
        { x with held := false, stopCause := none, state := .safing, teardown := some (.fault f) }).modLane l fun x =>
        { x with route := some { r with state := .opening }, closed := dropRelays x.pinRelays x.closed,
                 load := some { kind := .opening, closes := [], opens := x.pinRelays }, quiet := none }) ∧
    ((s.sites[i].state = .aborting ∨ s.sites[i].state = .safing ∨ s.sites[i].state = .safe) → s.takeFault i f = s) ∧
    ((s.sites[i].state = .idle ∨ s.sites[i].state = .running ∨ s.sites[i].state = .held ∨
        s.sites[i].state = .stopped) →
      ∀ (l : LaneId) (r : Route), s.lanes[l].route = some r → r.site = i → r.state = .live →
        ((s.takeFault i f).ports[r.port]).arm = false)

/-! ### Step ends and failures -/

/-- A claim timer that expires in the port wait fails the CONNECT with PORT_TIMEOUT, in the lane wait with NO_LANE
(R34, R62): the site leaves the waiter lists and enters STOPPED with that cause, its DONE lists the tags of the steps behind
it and enters the completion queue, the rest of the queue is discarded, and the open block is closed (R11). Every route and
claim stays. Model's choices: an expiry acts once the count has reached it (log entry 4), the transmitter chooses at the
event's end (log entry 6). -/
def Obligations.ClaimTimerFailsConnect : Prop :=
  ∀ (s : State) (i : SiteId) (t : Timer) (st : Step) (rest : List Step) (ph : Phase) (n : Nat) (h : Handle) (p : PortId)
    (d e : Duration) (pins : List Pin), s.awake → s.sites[i].claimTimer = some t → t.expiry ≤ s.time.now →
      s.sites[i].queue = st :: rest →
    st.body = .connect h p d e pins → s.sites[i].running = some ⟨.active ph, n⟩ → s.sites[i].carried = [] →
    s.link.completion.length < 16 → s.results.outbound.length < 16 → (ph = .portWait ∨ ph = .laneWait) →
    let f : Failure := if ph = .portWait then .portTimeout else .noLane
    exec (.claimTimerExpiry i) s = .next (((((s.leaveLists i).modLink fun k => { k with
      completion := k.completion ++ [⟨i, st.tag, .failed, some f, 0, 0, none, rest.map Step.tag⟩] }).modSite i fun x =>
      { x with queue := [], running := none, held := false, state := .stopped, stopCause := some f,
               claimTimer := none }).closeBlock i .ended).transmit)

/-- A WAIT that runs alone ends OK at its timer's expiry, its DONE enters the completion queue, and the site enters IDLE
(R173, R10, R192). Model's choices: an expiry acts once the count has reached it (log entry 4), the transmitter chooses at
the event's end (log entry 6). -/
def Obligations.WaitTimerEndsWait : Prop :=
  ∀ (s : State) (i : SiteId) (t : Timer) (tag : Byte) (d : Duration) (n : Nat), s.awake →
    s.runsAlone i ⟨tag, .wait d⟩ .waiting n → s.sites[i].waitTimer = some t → t.expiry ≤ s.time.now →
    exec (.waitTimerExpiry i) s = .next (((s.doneQueued ⟨i, tag, .ok, none, 0, 0, none, []⟩).modSite i fun x =>
      { x with state := .idle, waitTimer := none }).transmit)

/-- A done timer that expires ends the trigger wait without a reading, gives the reserved place back and fails the TRIGGER
with TRIGGER_TIMEOUT (R42); a HOLD-style line is released, a pulse runs on (R40). Model's choices: an expiry acts once the
count has reached it (log entry 4), the transmitter chooses at the event's end (log entry 6). -/
def Obligations.DoneTimerFailsTrigger : Prop :=
  ∀ (s : State) (p : PortId) (t : Timer) (w : TriggerWait) (st : Step) (rest : List Step) (n : Nat) (h : Handle)
    (d : Duration), s.awake → s.ports[p].doneTimer = some t → t.expiry ≤ s.time.now → s.ports[p].wait = some w →
    s.sites[w.site].queue = st :: rest → st.body = .trigger h d →
    s.sites[w.site].running = some ⟨.active .doneWait, n⟩ → s.sites[w.site].carried = [] →
    s.link.completion.length < 16 → s.results.outbound.length < 16 →
    exec (.doneTimerExpiry p) s = .next ((((((s.modPort p fun x =>
      { x with wait := none, doneTimer := none, trigger := x.trigger && decide (x.desc.style ≠ .hold) }).modRes w.site
        fun x => { x with reserved := false }).modLink fun k => { k with
      completion := k.completion ++ [⟨w.site, st.tag, .failed, some .triggerTimeout, 0, 0, none,
        rest.map Step.tag⟩] }).modSite
      w.site fun x => { x with queue := [], running := none, held := false, state := .stopped,
                               stopCause := some .triggerTimeout, claimTimer := none }).closeBlock w.site .ended).transmit)

/-! ### Chain loads, waits and routes -/

/-- LOAD_DONE (R48): the load is no longer in flight and HEALTH has taken its report (R50). Where its readback is empty and
no teardown runs, a closing load, of a CONNECT or of a SCAN's switch, goes on to the operate wait (R51, R59, R69), and a
switch's opening load to the release wait (R69); an opening load and a hot load go on to the release wait whatever was read
back (R51, R66, R90). In a teardown the route of a CONNECT or a switch goes on to its opening at once, or behind its quiet
wait (R71). Where something was read back, the running CONNECT or SCAN fails with COIL_FAULT (R59, R70, R12): its DONE lists
the steps behind it, a switch gives its reserved place back (R136), and the site enters SAFING with its route OPENING (R85,
R86). Model's choices: the transmitter chooses at the event's end (log entry 6), DONEs are handled behind the action (log
entry 36). -/
def Obligations.LoadDoneGoesOn : Prop :=
  ∀ (s : State) (l : LaneId) (ld : Load) (r : Route) (rb : List Relay), s.awake → s.lanes[l].load = some ld →
    s.lanes[l].route = some r → r.state ≠ .live →
    let done := (s.modLane l fun x => { x with load := none }).healthLoad l ld rb
    let waits := fun (k : WaitKind) (d : Duration) =>
      (done.modLane l fun x => { x with wait := some ⟨k, Timer.begin d s.time.now⟩ }).transmit
    let makes := ld.kind = .closing ∨ (ld.kind = .opening ∧ r.state = .switching)
    let opens := if s.lanes[l].pinRelays = [] then s.lanes[l].closed else s.lanes[l].pinRelays
    let opening : Load := ⟨.opening, [], opens⟩
    let torn := fun x : Lane => { x with route := some { r with state := .opening }, closed := dropRelays opens x.closed,
                                         load := some opening, quiet := none }
    (ld.kind = .closing → s.tearing r.site = false → rb = [] → Duration.count s.operateTime ≠ 0 →
      exec (.loadDone l rb) s = .next (waits .operate s.operateTime)) ∧
    (ld.kind = .opening → r.state = .switching → s.tearing r.site = false → rb = [] → Duration.count s.releaseTime ≠ 0 →
      exec (.loadDone l rb) s = .next (waits .release s.releaseTime)) ∧
    ((ld.kind = .hot ∨ (ld.kind = .opening ∧ r.state ≠ .switching)) → Duration.count s.releaseTime ≠ 0 →
      exec (.loadDone l rb) s = .next (waits .release s.releaseTime)) ∧
    (makes → s.tearing r.site = true → s.isLive l = false →
      exec (.loadDone l rb) s = .next (done.modLane l torn).transmit) ∧
    (makes → s.tearing r.site = true → s.isLive l = true → s.unbounded l = false →
      exec (.loadDone l rb) s = .next (done.modLane l fun x =>
        { x with route := some { r with state := .opening },
                 quiet := some ⟨.load opening, some (Timer.begin s.dischargeTimeout s.time.now)⟩ }).transmit) ∧
    ∀ (st : Step) (rest : List Step) (ph : Phase) (n : Nat), makes → rb ≠ [] → s.isLive l = false →
      s.sites[r.site].state = .running → s.sites[r.site].queue = st :: rest →
      s.sites[r.site].running = some ⟨.active ph, n⟩ → (ph = .closing ∨ ph = .switch) → s.sites[r.site].carried = [] →
      s.link.completion.length < 16 → s.routeLanes r.site = [l] → s.routelessPorts r.site = [] →
      let figures := match st.body with
        | .scan _ _ pts => (n, pts.length - n)
        | _ => (0, 0)
      exec (.loadDone l rb) s = .next (((((done.modLink fun k => { k with completion := k.completion ++
          [⟨r.site, st.tag, .failed, some .coilFault, figures.1, figures.2, none, rest.map Step.tag⟩] }).modSite r.site
        fun x => { x with queue := [], running := none, held := false, stopCause := none, state := .safing,
                          teardown := some (.fault .coilFault) }).modRes r.site fun x =>
        { x with reserved := x.reserved && decide (ph ≠ .switch) }).modLane l torn).transmit)

/-- HEALTH's handling of a load done (R149), whatever the coil readback. Marks: each relay read back is marked, none loses
its mark, and COIL_FAULTS rises by those newly marked (R151). Counts (R150): a closing load adds 1 to each relay it closed, a
hot load HOT_WEIGHT to each it opened, an opening load nothing, each count saturating; HOT_OPS rises by the relays a hot load
opened, unweighted; the unsaved sum rises by the increases actually made. Life is that of the new counts and RATED_LIFE
(R154). A readback condemns the lane; without one RETIRE_AT_END at life 0 does (R159): an IN_USE lane is RETIRING, a FREE
lane RETIRED with its LANE_RETIRED notice (R47, R160). The attributes are current, LIFE_WORST the lesser, the latch set at
LEVEL_THRESHOLD (R156, R158); a change of STATE raises the HEALTH notice (R157). The lane record is due where marks were
gained or the unsaved sum has reached AUTOSAVE_THRESHOLD, and behind it the HEALTH record where a figure of it changed (R152,
R153): while a write is in flight they join the set; on an idle store the first one's write begins at once with what it then
holds, and a lane record's write sets the unsaved sum to 0. Other lanes, and what is not HEALTH's, are unchanged. -/
def Obligations.LoadReports : Prop :=
  ∀ (s : State) (l : LaneId) (ld : Load) (rb : List Relay), s.countsWf → ld.closes.Nodup → ld.opens.Nodup →
    let u := s.healthLoad l ld rb
    let old := s.health.lanes[l]
    let new := u.health.lanes[l]
    let fresh := (rb.dedup.filter fun q => decide (q ∉ old.marks)).length
    let charged := match ld.kind with
      | .closing => ld.closes
      | .hot => ld.opens
      | .opening => []
    let each := match ld.kind with
      | .closing => 1
      | .hot => s.hotWeight
      | .opening => 0
    let unsaved := satAdd old.unsaved
      (charged.map fun q => satAdd (old.counts.get q) each - old.counts.get q).sum
    let condemned := decide (rb ≠ []) || (s.retireAtEnd && decide (new.life = 0))
    let due := decide (fresh ≠ 0) || decide (s.autosaveThreshold ≤ unsaved)
    let figures := decide (u.health.record ≠ s.health.record)
    (∀ q : Relay, new.counts.get q = if q ∈ charged then satAdd (old.counts.get q) each else old.counts.get q) ∧
    (∀ q : Relay, q ∈ new.marks ↔ q ∈ rb ∨ q ∈ old.marks) ∧
    new.life = lifePercent s.ratedLife new.counts.largest ∧ new.countLost = old.countLost ∧
    (∀ k : LaneId, k ≠ l → (u.health.lanes[k]).counts = (s.health.lanes[k]).counts ∧
      (u.health.lanes[k]).marks = (s.health.lanes[k]).marks ∧ (u.health.lanes[k]).life = (s.health.lanes[k]).life) ∧
    u.health.record.coilFaults = satAdd s.health.record.coilFaults fresh ∧
    u.health.record.hotOps = satAdd s.health.record.hotOps (if ld.kind = .hot then ld.opens.length else 0) ∧
    u.health.record.ocFaults = s.health.record.ocFaults ∧
    u.health.record.lifeWorst = min s.health.record.lifeWorst u.health.life ∧
    (u.health.record.latch = true ↔ s.health.record.latch = true ∨
      ∃ k : LaneId, u.lanes[k].state ≠ .retired ∧ (u.health.lanes[k]).life ≤ s.levelThreshold) ∧
    u.healthCurrent ∧
    u.lanes = upd s.lanes l (fun x => { x with state := if condemned then match x.state with
      | .free => .retired
      | .inUse => .retiring
      | .retiring => .retiring
      | .retired => .retired
      else x.state }) ∧
    (let told := if condemned && decide (s.lanes[l].state = .free) then
        s.notice (.laneRetired l (decide (new.marks = [])) new.life new.marks.length) else s
     u.link = (if u.health.low = s.health.low then told
               else told.notice (.health u.health.low u.health.life u.health.spares)).link) ∧
    u.sites = s.sites ∧ u.ports = s.ports ∧ u.results = s.results ∧ u.meter = s.meter ∧ u.time = s.time ∧
    u.pins = s.pins ∧ u.laneWaiters = s.laneWaiters ∧ u.resetReq = s.resetReq ∧
    (s.store.inFlight ≠ none →
      let lanes := if due && decide (laneItem l ∉ s.store.pendingWrites) then s.store.pendingWrites ++ [laneItem l]
        else s.store.pendingWrites
      new.unsaved = unsaved ∧
      u.store.pendingWrites = if figures && decide (healthItem ∉ lanes) then lanes ++ [healthItem] else lanes) ∧
    (s.store.inFlight = none → s.store.pendingWrites = [] → s.inPhase .startup = false →
      new.unsaved = (if due then 0 else unsaved) ∧
      u.store.inFlight = (if due then some ⟨.lane l new.counts new.marks, false⟩
        else if figures then some ⟨.health u.health.record, false⟩ else none) ∧
      u.store.pendingWrites = if due && figures then [healthItem] else [])

/-- The waits of a CONNECT and of a SCAN's switch (R51, R59, R69). The operate timer's expiry begins the settle wait, with the
CONNECT's settle or with the SCAN's per-point settle; with a settle of count 0 that wait expires at the same event. The
settle timer's expiry brings a CONNECT's route to READY and ends the CONNECT OK; that of a SCAN's switch is in
ScanAndReadings. Model's choices: an expiry acts once the count has reached it (log entry 4), the transmitter chooses at the
event's end (log entry 6). -/
def Obligations.ConnectWaits : Prop :=
  ∀ (s : State) (l : LaneId) (t : Timer) (r : Route), s.awake → s.lanes[l].route = some r → t.expiry ≤ s.time.now →
    let settles := fun d : Duration => s.modLane l fun x =>
      { x with wait := some ⟨.settle, Timer.begin d s.time.now⟩ }
    (∀ (tag : Byte) (h : Handle) (p : PortId) (d e : Duration) (pins : List Pin) (n : Nat), r.state ≠ .live →
      s.runsAlone r.site ⟨tag, .connect h p d e pins⟩ .closing n →
      (s.lanes[l].wait = some ⟨.operate, t⟩ → Duration.count d ≠ 0 →
        exec (.operateWaitExpiry l) s = .next (settles d).transmit) ∧
      (s.lanes[l].wait = some ⟨.operate, t⟩ → Duration.count d = 0 →
        exec (.operateWaitExpiry l) s = exec (.settleWaitExpiry l) (settles d)) ∧
      (s.lanes[l].wait = some ⟨.settle, t⟩ →
        exec (.settleWaitExpiry l) s = .next (((s.modLane l fun x =>
          { x with wait := none, route := some { r with state := .ready } }).doneQueued
          ⟨r.site, tag, .ok, none, 0, 0, none, []⟩).modSite r.site fun x => { x with state := .idle }).transmit)) ∧
    ∀ (tag : Byte) (m : MeterSpec) (d : Duration) (pts : List ScanPoint) (rest : List Step) (n : Nat),
      s.sites[r.site].queue = ⟨tag, .scan m d pts⟩ :: rest → s.sites[r.site].running = some ⟨.active .switch, n⟩ →
      s.lanes[l].wait = some ⟨.operate, t⟩ →
      (Duration.count d ≠ 0 → exec (.operateWaitExpiry l) s = .next (settles d).transmit) ∧
      (Duration.count d = 0 → exec (.operateWaitExpiry l) s = exec (.settleWaitExpiry l) (settles d))

/-- The release timer (R66, R67, R69, R90). Of a route in OPENING with relays closed: the port relay's opening load, or its
quiet wait. Of a STUCK route in a forced CLEAR: the port relay's hot load, whatever the lane reads. Of a SWITCHING route: the
closing load of the point's pin, its quiet wait, or the settle wait where the pin is closed. With no relay closed the route
leaves the table: an IN_USE lane is FREE with its latch clear and goes to the oldest lane waiter where it alone qualifies
(R61, R58); a RETIRING lane is RETIRED as LaneRenewAndAttributes says of State.retire, the HEALTH record due if a figure
changed (R153). The claim is absent, or passes to the port's oldest waiter, whose CONNECT obtains the freed lane or joins the
lane waiters (R35, R57, R60). Then the site: a RELEASE ends OK; a CLEAR ends IDLE with its reply, goes on while a route is
left, or, plain with only STUCK routes left, ends SAFE with DISCHARGE_TIMEOUT (R20, R21); a teardown goes on while a route is
left that is not STUCK, else ends (R88): ABORT with IDLE or SAFE and the reply of its kept tags (R18), a fault SAFE with its
code, a RUN reset IDLE or SAFE; where a RUN reset waits for the site, it is counted, and the last one brings the RESET reply
behind the ABORT's or CLEAR's (R89, R183). Model's choices: that order (log entry 40), an expiry acts once the count has
reached it (log entry 4), the transmitter chooses at the event's end (log entry 6), DONEs and closings are handled behind the
action (log entry 36). -/
def Obligations.ReleaseTimerOpensRoute : Prop :=
  ∀ (s : State) (l : LaneId) (t : Timer) (r : Route), s.awake → s.lanes[l].route = some r →
    s.lanes[l].wait = some ⟨.release, t⟩ → t.expiry ≤ s.time.now →
    let i := r.site
    let expires := exec (.releaseWaitExpiry l) s
    let opens := fun k : LoadKind => (s.modLane l fun x =>
      { x with wait := none, quiet := none, closed := dropRelays x.closed x.closed,
               load := some { kind := k, closes := [], opens := x.closed } }).transmit
    let waits := fun ld : Load => (s.modLane l fun x =>
      { x with wait := none, quiet := some ⟨.load ld, some (Timer.begin s.dischargeTimeout s.time.now)⟩ }).transmit
    (s.lanes[l].closed ≠ [] → s.lanes[l].pinRelays = [] →
      (r.state = .opening → s.isLive l = false → expires = .next (opens .opening)) ∧
      (r.state = .opening → s.isLive l = true → s.fullReset = false →
        expires = .next (waits ⟨.opening, [], s.lanes[l].closed⟩)) ∧
      (r.state = .stuck → expires = .next (opens .hot))) ∧
    (∀ (tag : Byte) (m : MeterSpec) (d : Duration) (pts : List ScanPoint) (rest : List Step) (n : Nat) (pt : ScanPoint),
      r.state = .switching → s.sites[i].queue = ⟨tag, .scan m d pts⟩ :: rest →
      s.sites[i].running = some ⟨.active .switch, n⟩ → pts[n]? = some pt →
      let closing : Load := ⟨.closing, [pinRelay pt.pin], []⟩
      (pinRelay pt.pin ∈ s.lanes[l].closed → Duration.count d ≠ 0 → expires = .next (s.modLane l fun x =>
        { x with wait := some ⟨.settle, Timer.begin d s.time.now⟩ }).transmit) ∧
      (pinRelay pt.pin ∉ s.lanes[l].closed → s.isLive l = false → expires = .next (s.modLane l fun x =>
        { x with wait := none, quiet := none, closed := addRelays [pinRelay pt.pin] x.closed,
                 load := some closing }).transmit) ∧
      (pinRelay pt.pin ∉ s.lanes[l].closed → s.isLive l = true → s.fullReset = false →
        expires = .next (waits closing))) ∧
    (s.lanes[l].closed = [] → (r.state = .opening ∨ r.state = .stuck) →
    let obtained := fun (w : LaneWaiter) (u : State) => (u.modSite w.site fun x =>
        { x with claimTimer := none, running := x.running.map fun q => { q with progress := .active .closing } }).modLane l
      fun x => { x with
               state := .inUse, route := some ⟨w.site, w.handle, w.port, .closing⟩, quiet := none,
                        closed := addRelays (portRelay w.port :: w.pins.map pinRelay) x.closed,
                        load := some ⟨.closing, portRelay w.port :: w.pins.map pinRelay, []⟩,
                        episode := if s.pins.overIn[l] = true ∧ x.latch = false ∧ x.episode = none
                                   then some (Timer.begin s.ocPersist s.time.now) else x.episode }
    let freed := s.modLane l fun x =>
      { x with state := .free, route := none, quiet := none, wait := none, episode := none, latch := false }
    let unclaimed := fun u : State => u.modPort r.port fun x => { x with claim := none }
    let alone := s.isLive l = false ∧ ∀ k : LaneId, k ≠ l → s.lanes[k].state = .free → s.pins.live[k] = true
    let removed := fun ends : State → State =>
      (s.lanes[l].state = .retiring → s.ports[r.port].waiters = [] →
        expires = .next (ends (unclaimed ((freed.retire l).healthDue s.health.record)))) ∧
      (s.lanes[l].state = .inUse →
        (s.laneWaiters = [] → s.ports[r.port].waiters = [] → expires = .next (ends (unclaimed freed))) ∧
        (∀ (w : LaneWaiter) (ws : List LaneWaiter), s.laneWaiters = w :: ws → w.site ≠ i → alone →
          Duration.count s.ocPersist ≠ 0 → s.ports[r.port].waiters = [] →
          expires = .next (ends (unclaimed (obtained w ({ freed with laneWaiters := ws } : State))))) ∧
        ∀ (c : Claim) (cs : List Claim) (g : Byte) (d e : Duration) (pins : List Pin) (rest : List Step) (m : Nat),
          s.ports[r.port].waiters = c :: cs → c.site ≠ i →
          s.sites[c.site].queue = ⟨g, .connect c.handle r.port d e pins⟩ :: rest →
          s.sites[c.site].running = some ⟨.active .portWait, m⟩ →
          (∀ (k : LaneId) (u : Route), s.lanes[k].route = some u → ∀ q ∈ pins, pinRelay q ∉ s.lanes[k].closed) →
          let w : LaneWaiter := ⟨c.site, g, c.handle, r.port, pins⟩
          let granted := freed.modPort r.port fun x => { x with claim := some c, waiters := cs }
          (s.laneWaiters = [] → alone → Duration.count s.ocPersist ≠ 0 →
            expires = .next (ends (obtained w granted))) ∧
          ((∀ k : LaneId, (k = l ∨ s.lanes[k].state = .free) → s.pins.live[k] = true) →
            expires = .next (ends (({ granted with
              laneWaiters := s.laneWaiters ++ [w] } : State).modSite c.site fun x =>
              { x with running := some ⟨.active .laneWait, m⟩ }))))
    let idle := fun u : State => u.modSite i fun x =>
      { x with state := .idle, stopCause := none, teardown := none, abort := none, clear := none }
    let safe := fun (f : Failure) (u : State) => (u.modSite i fun x =>
      { x with state := .safe, stopCause := some f, teardown := none, abort := none }).notice (.siteState i .safe (some f))
    let left := fun f : Route → Prop =>
      ∀ (k : LaneId) (u : Route), k ≠ l → s.lanes[k].route = some u → u.site = i → f u
    let last := left fun _ => False
    (∀ (tag : Byte) (h : Handle) (n : Nat), s.runsAlone i ⟨tag, .release h⟩ .releasing n → s.sites[i].clear = none →
      s.resetReq = none → removed fun u => ((u.doneQueued ⟨i, tag, .ok, none, 0, 0, none, []⟩).modSite i fun x =>
        { x with state := .idle }).transmit) ∧
    (s.sites[i].running = none → s.fullReset = false → s.results.outbound.length < 16 →
      (∀ c : ClearReq, s.sites[i].state = .safe → s.sites[i].queue = [] → s.sites[i].teardown = none →
        s.sites[i].abort = none → s.sites[i].clear = some c →
        (last → removed fun u => (((idle u).reply 0x06 c.tag (siteByte i) .ok [0]).tornDown i).transmit) ∧
        (∀ (k : LaneId) (u : Route), k ≠ l → s.lanes[k].route = some u → u.site = i →
          (c.forced = true ∨ u.state ≠ .stuck → removed State.transmit) ∧
          (c.forced = false → (left fun v => v.state = .stuck) → removed fun v => (((v.modSite i fun x =>
            { x with stopCause := some .dischargeTimeout, clear := none }).reply 0x06 c.tag (siteByte i)
            .dischargeTimeout [6]).tornDown i).transmit))) ∧
      (s.sites[i].clear = none →
        (∀ (k : LaneId) (u : Route), s.tearing i = true → k ≠ l → s.lanes[k].route = some u → u.site = i →
          u.state ≠ .stuck → removed State.transmit) ∧
        (∀ q : AbortReq, s.sites[i].state = .aborting → s.sites[i].teardown = some .abort → s.sites[i].abort = some q →
          let answered := fun (b : Byte) (u : State) =>
            (((u.reply 0x05 q.tag (siteByte i) .ok ([b, byte q.discarded.length] ++ q.discarded)).tornDown i).closeBlock
              i .ended).transmit
          (last → removed fun u => answered 0 (idle u)) ∧
          (∀ (k : LaneId) (u : Route), k ≠ l → s.lanes[k].route = some u → u.site = i → (left fun v => v.state = .stuck) →
            removed fun v => answered 6 (safe .dischargeTimeout v))) ∧
        (∀ f : Failure, s.sites[i].state = .safing → s.sites[i].teardown = some (.fault f) → s.sites[i].abort = none →
          (left fun v => v.state = .stuck) → removed fun u => (((safe f u).tornDown i).closeBlock i .ended).transmit) ∧
        (s.sites[i].state = .aborting → s.sites[i].teardown = some .runReset → s.sites[i].abort = none →
          (last → removed fun u => ((idle u).tornDown i).transmit) ∧
          (∀ (k : LaneId) (u : Route), k ≠ l → s.lanes[k].route = some u → u.site = i → (left fun v => v.state = .stuck) →
            removed fun v => ((safe .dischargeTimeout v).tornDown i).transmit)))))

/-! ### Result blocks, points and readings -/

/-- Closing a block (R138): it takes the site's next sequence, which advances, and becomes the last closed one; with room in
the outbound queue and nobody waiting it joins that queue, else the waiting list, where the site is CLOSED_WAITING. A
position without a record is left alone. The blocks of two sites that close at one event are closed in ascending site order,
whichever was noted first; a site closes once at an event. Placing a reading (R137) uses the reservation, opens a block with
BLOCK_FILL, appends, and closes with FILL at the capacity, in its turn. When the transmitter begins a RESULT frame, the
oldest waiting block enters the queue, its site's position becomes EMPTY, and at that event its room waiter goes on with the
reservation set (here a MEASURE to its acquisition, R98) and its flush waiter ends OK with the last closed sequence (R139,
R135, R141, R142). FLUSH on an idle site (R141, R142): it closes the block with FLUSH; it waits where the position is then
CLOSED_WAITING, and else ends at once with the last closed sequence. Model's choices: a request command is its frame's
arrival (log entry 5), the transmitter chooses at the event's end (log entry 6), closings take their turn behind the event's
other follow-ups (log entry 36), a new acquisition's last sample time is 0 and clear (log entry 34). -/
def Obligations.ResultBlocks : Prop :=
  (∀ (s : State) (i : SiteId) (c : Cause),
    (∀ (cap : Nat) (rs : List Reading), s.results.sites[i].pos = .opened cap rs → rs ≠ [] →
      let b : Block := ⟨i, s.results.sites[i].nextSeq, c, rs⟩
      let u := s.modRes i fun x => { x with nextSeq := x.nextSeq + 1, lastSeq := some x.nextSeq }
      (s.results.outbound.length < 16 → s.results.waiting = [] → s.closeBlock i c =
        { u with results := { sites := upd u.results.sites i fun x => { x with pos := .empty },
                              outbound := s.results.outbound ++ [b], waiting := [] } }) ∧
      ((16 ≤ s.results.outbound.length ∨ s.results.waiting ≠ []) → s.closeBlock i c =
        { u with results := { sites := upd u.results.sites i fun x => { x with pos := .closedWaiting },
                              outbound := s.results.outbound, waiting := s.results.waiting ++ [b] } })) ∧
    ((∀ (cap : Nat) (rs : List Reading), s.results.sites[i].pos = .opened cap rs → rs = []) → s.closeBlock i c = s) ∧
    (s.closing i = false → s.noteClosure i c = s.push (.closure i c)) ∧ (s.closing i = true → s.noteClosure i c = s)) ∧
  (∀ (s : State) (i j : SiteId) (c e : Cause), i < j → s.agenda = [] → s.mayBegin = false → s.sites[i].running = none →
    s.sites[j].running = none →
    let t := (s.closeBlock i c).closeBlock j e
    ((s.noteClosure i c).noteClosure j e).finish = .next t ∧ ((s.noteClosure j e).noteClosure i c).finish = .next t) ∧
  (∀ (s : State) (i : SiteId) (r : Reading), s.results.sites[i].reserved = true →
    let put := fun (cap : Nat) (rs : List Reading) =>
      s.modRes i fun x => { x with pos := .opened cap rs, reserved := false }
    (s.results.sites[i].pos = .empty →
      (1 < s.blockFill → s.place i r = put s.blockFill [r]) ∧
      (s.blockFill ≤ 1 → s.place i r = (put s.blockFill [r]).noteClosure i .fill)) ∧
    ∀ (cap : Nat) (rs : List Reading), s.results.sites[i].pos = .opened cap rs →
      (rs.length + 1 < cap → s.place i r = put cap (rs ++ [r])) ∧
      (cap ≤ rs.length + 1 → s.place i r = (put cap (rs ++ [r])).noteClosure i .fill)) ∧
  (∀ (s : State) (x : TxFrame) (b w : Block) (bs ws : List Block), s.powered = true → s.linkUp = true → s.agenda = [] →
    s.link.slots = [] → s.link.doneWaiting = [] → s.pins.rts = true → s.link.tx = some x →
    (∀ r : Reply, x = .reply r → r.fullReset = false) → s.link.replies = [] → s.link.completion = [] →
    (∀ m : Fin 9, s.link.notices[m] = none) → s.results.outbound = b :: bs → s.results.waiting = w :: ws →
    bs.length < 16 →
    let i := w.site
    let base := ({ s with results := { sites := upd s.results.sites i fun y => { y with pos := .empty },
                                       outbound := bs ++ [w], waiting := ws } } : State).modLink fun k =>
      { k with tx := some (.result b) }
    (s.sites[i].running = none → exec .txFrameEnd s = .next base) ∧
    (∀ (t : Byte) (m : MeterSpec) (rest : List Step) (n : Nat), s.sites[i].queue = ⟨t, .measure m⟩ :: rest →
      s.sites[i].running = some ⟨.active .blockWait, n⟩ →
      let a : Acquisition :=
        { site := i, tag := t, point := 0, requested := m.range, range := m.range, aperture := m.aperture,
          autorange := m.autorange, raw := m.raw, limits := m.limits, clip := s.clipLevel,
          interval := s.sampleInterval, cal := s.meter.cal, hv := s.sites[i].reach.hv, retries := 0,
          switching := false, timer := Timer.begin s.sampleInterval s.time.now, taken := 0, sum := 0, clipped := 0,
          last := 0, lastUncertain := false }
      exec .txFrameEnd s = .next (((base.modRes i fun y => { y with reserved := true }).modSite i fun y =>
        { y with running := some ⟨.active .acquire, n⟩ }).modMeter fun y => { y with acq := some a })) ∧
    ∀ (t : Byte) (n : Nat), s.runsAlone i ⟨t, .flush⟩ .flushWait n →
      exec .txFrameEnd s = .next ((base.doneQueued
        ⟨i, t, .ok, none, 0, 0, s.results.sites[i].lastSeq, []⟩).modSite i fun y => { y with state := .idle })) ∧
  ∀ (tag : Byte) (i : SiteId) (s : State), s.ready → s.fullReset = false → s.link.doneWaiting = [] →
    s.link.completion.length < 16 → s.sites[i].reach.range ≠ none → s.sites[i].state = .idle → s.sites[i].queue = [] →
    s.sites[i].running = none → s.sites[i].held = false → s.sites[i].carried = [] →
    let u := s.arrive.closeBlock i .flush
    (u.results.sites[i].pos = .closedWaiting → exec (.stepFlush tag (siteByte i)) s =
      .next ((u.modSite i fun x =>
        { x with state := .running, queue := [⟨tag, .flush⟩], running := some ⟨.active .flushWait,
          0⟩ }).answered 0x02 tag (siteByte i) .ok [])) ∧
    (u.results.sites[i].pos ≠ .closedWaiting → exec (.stepFlush tag (siteByte i)) s =
      .next ((u.modLink fun k => { k with completion := k.completion ++
        [⟨i, tag, .ok, none, 0, 0, u.results.sites[i].lastSeq, []⟩] }).answered 0x02 tag (siteByte i) .ok []))

/-- How RELEASE starts (R65, R66): on a READY route the opening load (of its pins, or of what is closed where no pin is) or
its quiet wait, on a LIVE route the disarm, on a claim without a route the claim's end, else NO_HANDLE. How a SCAN starts
its first point (R122): BLOCK_WAIT, and with room the switch to its pin. A switch (R68, R69): PIN_BUSY where another route
holds the pin; else the opening load of every other pin, or the closing load of the pin, each on a quiet lane or behind its
bounded quiet wait, or the settle wait alone. The switch complete, the SCAN's acquisition starts with the point's limits
(R122, R118). A verdict (R121, R123, R124): in the stop set, VERDICT_STOP; else MEASURE and a SCAN's last point end OK; at a
boundary a held site's SCAN is SUSPENDED and the site HELD, else the next point asks for room. The last sample of a pass
(R107): a retry on the next range up after 500 us (R108), or, when final, the reading of R110 with CAPPED by R109, placed
before the MEASURE ends OK or fails with VERDICT_STOP, its block closed with END (R123). Model's choices: an expiry acts
once the count has reached it (log entry 4), the transmitter chooses at the event's end (log entry 6), a new acquisition's
last sample time is 0 and clear until its first sample (log entry 34), a block that closes at the same event closes before
room is given (log entry 36). -/
def Obligations.ScanAndReadings : Prop :=
  (∀ (s : State) (i : SiteId) (h : Handle),
    (∀ (l : LaneId) (r : Route), s.findRoute i h = some (l, r) → s.unbounded l = false →
      let pins := s.lanes[l].pinRelays
      let begun := s.modSite i fun x =>
        { x with running := x.running.map fun q => { q with progress := .active .releasing } }
      let opens := if pins = [] then s.lanes[l].closed else pins
      let opening : Load := ⟨.opening, [], opens⟩
      let opened := fun u : State => u.modLane l fun x =>
        { x with route := some { r with state := .opening }, closed := dropRelays opens x.closed, load := some opening,
                 quiet := none }
      let off := begun.modPort r.port fun x => { x with arm := false }
      let timer := Timer.begin s.dischargeTimeout s.time.now
      (r.state = .ready → s.isLive l = false → s.startRelease i h = opened begun) ∧
      (r.state = .ready → s.isLive l = true → s.startRelease i h = begun.modLane l fun x =>
        { x with route := some { r with state := .opening }, quiet := some ⟨.load opening, some timer⟩ }) ∧
      (r.state = .live → s.isLive l = false → s.startRelease i h = opened off) ∧
      (r.state = .live → s.isLive l = true → s.startRelease i h = off.modLane l fun x =>
        { x with route := some { r with state := .quieting }, quiet := some ⟨.disarm, some timer⟩ })) ∧
    (s.findRoute i h = none → s.claimPort i h = none → s.startRelease i h = s.failLogic i .noHandle) ∧
    (∀ p : PortId, s.findRoute i h = none → s.claimPort i h = some p → s.ports[p].waiters = [] →
      s.startRelease i h = (s.modPort p fun x => { x with claim := none }).endOk i) ∧
    ∀ (l : LaneId) (r : Route) (t : Byte) (m : MeterSpec) (d : Duration) (pt : ScanPoint) (pts : List ScanPoint)
      (rest : List Step), s.findRoute i h = some (l, r) → r.port = 0 →
      s.sites[i].queue = ⟨t, .scan m d (pt :: pts)⟩ :: rest → s.sites[i].running = some ⟨.active .starting, 0⟩ →
      (s.results.sites[i].pos = .closedWaiting ∨ s.closing i = true → s.startMeter i h =
        s.modSite i fun x => { x with running := some ⟨.active .blockWait, 0⟩ }) ∧
      (s.results.sites[i].pos ≠ .closedWaiting → s.closing i = false → s.startMeter i h =
        ((s.modRes i fun x => { x with reserved := true }).modSite i fun x =>
          { x with running := some ⟨.active .switch, 0⟩ }).scanSwitch i m.handle pt.pin d)) ∧
  (∀ (s : State) (i : SiteId) (h : Handle) (p : Pin) (d : Duration) (l : LaneId) (r : Route),
    s.routeLane i h = some l → s.lanes[l].route = some r → r.state = .ready → s.unbounded l = false →
    let held := ∃ (k : LaneId) (u : Route), s.lanes[k].route = some u ∧ k ≠ l ∧ pinRelay p ∈ s.lanes[k].closed
    let opens := s.lanes[l].closed.filter fun q => decide (q.val < 256 ∧ q ≠ pinRelay p)
    let closing : Load := ⟨.closing, [pinRelay p], []⟩
    let opening : Load := ⟨.opening, [], opens⟩
    let go := fun f : Lane → Lane => s.modLane l fun x => f { x with route := some { r with state := .switching } }
    let timer := Timer.begin s.dischargeTimeout s.time.now
    (held → s.scanSwitch i h p d = (s.modRes i fun x => { x with reserved := false }).failLogic i .pinBusy) ∧
    (¬held → opens ≠ [] → s.isLive l = false → s.scanSwitch i h p d = go fun x =>
      { x with closed := dropRelays opens x.closed, load := some opening, quiet := none }) ∧
    (¬held → opens ≠ [] → s.isLive l = true → s.scanSwitch i h p d = go fun x =>
      { x with quiet := some ⟨.load opening, some timer⟩ }) ∧
    (¬held → opens = [] → pinRelay p ∉ s.lanes[l].closed → s.isLive l = false → s.scanSwitch i h p d = go fun x =>
      { x with closed := addRelays [pinRelay p] x.closed, load := some closing, quiet := none }) ∧
    (¬held → opens = [] → pinRelay p ∉ s.lanes[l].closed → s.isLive l = true → s.scanSwitch i h p d = go fun x =>
      { x with quiet := some ⟨.load closing, some timer⟩ }) ∧
    (¬held → opens = [] → pinRelay p ∈ s.lanes[l].closed → Duration.count d ≠ 0 → s.scanSwitch i h p d = go fun x =>
      { x with wait := some ⟨.settle, Timer.begin d s.time.now⟩ })) ∧
  (∀ (s : State) (l : LaneId) (t : Timer) (r : Route) (g : Byte) (m : MeterSpec) (d : Duration) (pts : List ScanPoint)
    (pt : ScanPoint) (rest : List Step) (n : Nat), s.awake → s.lanes[l].wait = some ⟨.settle, t⟩ → t.expiry ≤ s.time.now →
    s.lanes[l].route = some r → r.state = .switching → s.sites[r.site].queue = ⟨g, .scan m d pts⟩ :: rest →
    s.sites[r.site].running = some ⟨.active .switch, n⟩ → pts[n]? = some pt →
    let a : Acquisition :=
      { site := r.site, tag := g, point := n, requested := m.range, range := m.range, aperture := m.aperture,
        autorange := m.autorange, raw := m.raw, limits := if pt.own = none then m.limits else pt.own, clip := s.clipLevel,
        interval := s.sampleInterval, cal := s.meter.cal, hv := s.sites[r.site].reach.hv, retries := 0,
        switching := false, timer := Timer.begin s.sampleInterval s.time.now, taken := 0, sum := 0, clipped := 0,
        last := 0, lastUncertain := false }
    exec (.settleWaitExpiry l) s = .next (((s.modLane l fun x =>
      { x with wait := none, route := some { r with state := .ready } }).modSite r.site fun x =>
      { x with running := some ⟨.active .acquire, n⟩ }).modMeter fun x => { x with acq := some a }).transmit) ∧
  (∀ (s : State) (i : SiteId) (g : Byte) (m : MeterSpec) (rest : List Step) (n : Nat) (v : Verdict),
    s.sites[i].running = some ⟨.active .acquire, n⟩ →
    let stops := (v = .low ∧ m.stop.low = true) ∨ (v = .high ∧ m.stop.high = true) ∨
      (v = .marginal ∧ m.stop.marginal = true) ∨ (v = .overrange ∧ m.stop.overrange = true)
    (s.sites[i].queue = ⟨g, .measure m⟩ :: rest →
      (stops → s.learnVerdict i v = s.failLogic i .verdictStop) ∧ (¬stops → s.learnVerdict i v = s.endOk i)) ∧
    ∀ (d : Duration) (pts : List ScanPoint), s.sites[i].queue = ⟨g, .scan m d pts⟩ :: rest →
      (stops → s.learnVerdict i v = s.failLogic i .verdictStop) ∧
      (¬stops → n + 1 = pts.length → s.learnVerdict i v = s.endOk i) ∧
      (¬stops → n + 1 ≠ pts.length → s.sites[i].held = true → s.learnVerdict i v = s.modSite i fun x =>
        { x with state := .held, running := some ⟨.suspended, n + 1⟩ }) ∧
      (¬stops → n + 1 ≠ pts.length → s.sites[i].held = false →
        (s.results.sites[i].pos = .closedWaiting ∨ s.closing i = true) →
        s.learnVerdict i v = s.modSite i fun x => { x with running := some ⟨.active .blockWait, n + 1⟩ }) ∧
      ∀ pt : ScanPoint, ¬stops → pts[n + 1]? = some pt → s.sites[i].held = false →
        s.results.sites[i].pos ≠ .closedWaiting → s.closing i = false → s.learnVerdict i v =
          ((s.modRes i fun x => { x with reserved := true }).modSite i fun x =>
            { x with running := some ⟨.active .switch, n + 1⟩ }).scanSwitch i m.handle pt.pin d) ∧
  ∀ (s : State) (a : Acquisition) (v : BitVec 18), s.awake → s.meter.acq = some a → a.switching = false →
    a.timer.expiry ≤ s.time.now → a.taken + 1 = 2 ^ a.aperture.val → 0 ≤ a.clip →
    let b : Acquisition :=
      { a with
        taken := a.taken + 1
        sum := a.sum + (max (-a.clip) (min a.clip v.toInt) - if a.raw then 0 else a.cal[a.range].z)
        clipped := a.clipped + if v.toInt < -a.clip ∨ a.clip < v.toInt then 1 else 0
        last := s.time.now
        lastUncertain := s.time.uncertain }
    let retries := 0 < b.clipped ∧ a.autorange = true ∧ a.range ≠ 3 ∧ a.range ≠ 5 ∧ (a.range = 2 → a.hv = true)
    let reading : MeterReading :=
      { tag := a.tag, point := a.point, stamp := s.time.now % 2 ^ 48, uncertain := s.time.uncertain,
        uncal := a.cal[a.range].uncal, raw := a.raw, capped := decide (0 < b.clipped) && a.autorange, range := a.range,
        value := valueOf b, verdict := verdictOf b.clipped a.limits (valueOf b), clipped := b.clipped,
        retries := a.retries }
    let again : Acquisition :=
      { b with switching := true, range := a.range + 1, retries := a.retries + 1,
               timer := ⟨s.time.now, s.time.now + 500, s.time.now + 500⟩ }
    (retries → exec (.sampleTimerExpiry v) s = .next (s.modMeter fun x => { x with acq := some again }).transmit) ∧
    ∀ (g : Byte) (m : MeterSpec) (rest : List Step) (n : Nat), ¬retries →
      s.sites[a.site].queue = ⟨g, .measure m⟩ :: rest → s.sites[a.site].running = some ⟨.active .acquire, n⟩ →
      s.sites[a.site].state = .running → s.sites[a.site].held = false → s.sites[a.site].carried = [] →
      s.link.completion.length < 16 → s.results.outbound.length < 16 → s.results.sites[a.site].reserved = true →
      s.results.sites[a.site].pos = .empty → 1 < s.blockFill →
      let placed := (s.modMeter fun x => { x with acq := none }).modRes a.site fun x =>
        { x with pos := .opened s.blockFill [.meter reading], reserved := false }
      (StopSetHas m.stop reading.verdict = false → rest = [] → exec (.sampleTimerExpiry v) s =
        .next ((placed.doneQueued ⟨a.site, g, .ok, none, 0, 0, none, []⟩).modSite a.site fun x =>
          { x with state := .idle }).transmit) ∧
      (StopSetHas m.stop reading.verdict = true → exec (.sampleTimerExpiry v) s =
        .next (((placed.modLink fun k => { k with completion := k.completion ++
          [⟨a.site, g, .failed, some .verdictStop, 0, 0, none, rest.map Step.tag⟩] }).modSite a.site fun x =>
          { x with queue := [], running := none, held := false, state := .stopped, stopCause := some .verdictStop,
                   claimTimer := none }).closeBlock a.site .ended).transmit)

/-! ### Lane monitors -/

/-- LIVE (R75, R77). A rise changes the live reading only, and so does a fall that finds nothing waiting. A fall begins the
load that waits for quiet and ends its wait. A disarm that waits for quiet (R80, R65, R86): the DISARM's route is READY and
the DISARM ends OK; in a RELEASE or a teardown the route enters OPENING and its opening load begins. A STUCK route that a
FULL reset opens enters OPENING (R73). A fall on a FREE lane that is the only one to qualify gives it to the oldest lane
waiter, whose CONNECT obtains it (R61, R58), with an episode if OVER reads high (R81). Model's choices: the transmitter
chooses at the event's end (log entry 6), DONEs are handled behind the action (log entry 36). -/
def Obligations.LiveInput : Prop :=
  ∀ (s : State) (l : LaneId), s.awake →
    let quiet := s.modPins fun p => { p with live := upd p.live l fun _ => false }
    let opens := if s.lanes[l].pinRelays = [] then s.lanes[l].closed else s.lanes[l].pinRelays
    let opened := fun r : Route => (quiet.modLane l fun x =>
      { x with route := some { r with state := .opening }, closed := dropRelays opens x.closed,
               load := some ⟨.opening, [], opens⟩, quiet := none }).transmit
    let obtained := fun (w : LaneWaiter) (u : State) => (u.modSite w.site fun x =>
        { x with claimTimer := none, running := x.running.map fun q => { q with progress := .active .closing } }).modLane l
      fun x => { x with
               state := .inUse, route := some ⟨w.site, w.handle, w.port, .closing⟩, quiet := none,
                        closed := addRelays (portRelay w.port :: w.pins.map pinRelay) x.closed,
                        load := some ⟨.closing, portRelay w.port :: w.pins.map pinRelay, []⟩,
                        episode := if s.pins.overIn[l] = true ∧ x.latch = false ∧ x.episode = none
                                   then some (Timer.begin s.ocPersist s.time.now) else x.episode }
    exec (.liveRise l) s = .next (s.modPins fun p => { p with live := upd p.live l fun _ => true }).transmit ∧
    (s.isLive l = false → exec (.liveFall l) s = .next s.transmit) ∧
    (s.isLive l = true →
      (∀ (ld : Load) (t : Option Timer), s.lanes[l].quiet = some ⟨.load ld, t⟩ →
        exec (.liveFall l) s = .next (quiet.modLane l fun x =>
          { x with closed := addRelays ld.closes (dropRelays ld.opens x.closed), load := some ld,
                   quiet := none }).transmit) ∧
      (∀ (t : Option Timer) (r : Route), s.lanes[l].quiet = some ⟨.disarm, t⟩ → s.lanes[l].route = some r → r.state ≠ .live →
        (s.tearing r.site = true → exec (.liveFall l) s = .next (opened r)) ∧
        (∀ (st : Step) (rest : List Step) (n : Nat), s.tearing r.site = false → s.sites[r.site].queue = st :: rest →
          s.sites[r.site].running = some ⟨.active .releasing, n⟩ → exec (.liveFall l) s = .next (opened r)) ∧
        ∀ (tag : Byte) (h : Handle) (n : Nat), s.runsAlone r.site ⟨tag, .disarm h⟩ .disarming n →
          exec (.liveFall l) s = .next (((quiet.modLane l fun x =>
            { x with quiet := none, route := some { r with state := .ready } }).doneQueued
            ⟨r.site, tag, .ok, none, 0, 0, none, []⟩).modSite r.site fun x => { x with state := .idle }).transmit) ∧
      (∀ (t : Option Timer) (r : Route), s.lanes[l].quiet = some ⟨.unstick, t⟩ → s.lanes[l].route = some r → r.state ≠ .live →
        exec (.liveFall l) s = .next (opened r)) ∧
      (s.lanes[l].quiet = none → (s.lanes[l].state ≠ .free ∨ s.laneWaiters = []) →
        exec (.liveFall l) s = .next quiet.transmit) ∧
      ∀ (w : LaneWaiter) (ws : List LaneWaiter), s.lanes[l].quiet = none → s.lanes[l].state = .free →
        s.laneWaiters = w :: ws → (∀ k : LaneId, k ≠ l → s.lanes[k].state = .free → s.pins.live[k] = true) →
        Duration.count s.ocPersist ≠ 0 →
        exec (.liveFall l) s = .next (obtained w ({ quiet with laneWaiters := ws } : State)).transmit)

/-- A discharge timer's expiry leaves its route STUCK with the relays that are closed (R78). In a plain CLEAR it goes on
while another route is not STUCK; else the CLEAR ends, the site stays SAFE with cause DISCHARGE_TIMEOUT and its reply says so
(R79, R20), the site counting as torn down for a RUN reset that waits for it (R89; the CLEAR's reply is built first, the
model's choice, log entry 40). In a teardown it goes on while another route is not STUCK (R79); else the teardown ends there (R18, R88): the site is SAFE and raises SITE_STATE, after an
ABORT with DISCHARGE_TIMEOUT and the ABORT reply of the kept tags, after a fault with its code, after a RUN reset with
DISCHARGE_TIMEOUT, counted as torn down; an ABORT's and a fault's end closes the block (R140). In a DISARM, a RELEASE or a
SCAN's switch the step fails with DISCHARGE_TIMEOUT (R79, R12), and the site enters SAFING with its other route OPENING, or,
where no route is left to open, SAFE with that cause. An episode's expiry (R83): the latch is set, OVERCURRENT_FAULTS is
counted, LANE_FAULT is raised with the episode's start and the count; a site that is ABORTING, SAFING or SAFE goes on
unchanged (R13); else the fault OVERCURRENT takes it to SAFING (R12): a running WAIT fails, a LIVE route is disarmed behind
its quiet wait, a READY route enters OPENING. Model's choices: an expiry acts once the count has reached it (log entry 4),
the transmitter chooses at the event's end (log entry 6), DONEs and closings are handled behind the action (log entry
36). -/
def Obligations.DischargeAndOvercurrent : Prop :=
  (∀ (s : State) (l : LaneId) (t : Timer) (a : QuietAction) (r : Route), s.awake → s.lanes[l].route = some r →
    s.lanes[l].quiet = some ⟨a, some t⟩ → r.state ≠ .live → t.expiry ≤ s.time.now →
    let i := r.site
    let others := fun f : LaneId → Route → Prop =>
      ∀ (k : LaneId) (u : Route), k ≠ l → s.lanes[k].route = some u → u.site = i → f k u
    let stuck := s.modLane l fun x => { x with quiet := none, route := some { r with state := .stuck } }
    (∀ c : ClearReq, s.sites[i].state = .safe → s.sites[i].clear = some c → c.forced = false →
      (∀ (k : LaneId) (u : Route), k ≠ l → s.lanes[k].route = some u → u.site = i → u.state ≠ .stuck →
        exec (.dischargeTimerExpiry l) s = .next stuck.transmit) ∧
      ((others fun _ u => u.state = .stuck) → s.fullReset = false → exec (.dischargeTimerExpiry l) s =
        .next (((stuck.modSite i fun x => { x with stopCause := some .dischargeTimeout, clear := none }).reply
          0x06 c.tag (siteByte i) .dischargeTimeout [6]).tornDown i).transmit)) ∧
    (∀ (k : LaneId) (u : Route), s.tearing i = true → k ≠ l → s.lanes[k].route = some u → u.site = i → u.state ≠ .stuck →
      exec (.dischargeTimerExpiry l) s = .next stuck.transmit) ∧
    ((others fun _ u => u.state = .stuck) → s.sites[i].running = none → s.results.outbound.length < 16 →
      let safe := fun f : Failure => (stuck.modSite i fun x =>
        { x with state := .safe, stopCause := some f, teardown := none, abort := none }).notice (.siteState i .safe (some f))
      (∀ q : AbortReq, s.sites[i].state = .aborting → s.sites[i].teardown = some .abort → s.sites[i].abort = some q →
        s.resetReq = none → exec (.dischargeTimerExpiry l) s =
          .next ((((safe .dischargeTimeout).reply 0x05 q.tag (siteByte i) .ok
            ([6, byte q.discarded.length] ++ q.discarded)).closeBlock i .ended).transmit)) ∧
      (∀ f : Failure, s.sites[i].state = .safing → s.sites[i].teardown = some (.fault f) → s.sites[i].abort = none →
        s.resetReq = none → exec (.dischargeTimerExpiry l) s = .next ((safe f).closeBlock i .ended).transmit) ∧
      (∀ q : ResetReq, s.sites[i].state = .aborting → s.sites[i].teardown = some .runReset → s.sites[i].abort = none →
        s.resetReq = some q → q.phase = .teardown → i ∈ q.waiting → (∃ j ∈ q.waiting, j ≠ i) →
        exec (.dischargeTimerExpiry l) s = .next ({ safe .dischargeTimeout with resetReq := some { q with
          waiting := q.waiting.filter fun j => decide (j ≠ i), ends := q.ends.set i .safe } } : State).transmit)) ∧
    ∀ (st : Step) (rest : List Step) (ph : Phase) (n : Nat), s.sites[i].state = .running → s.sites[i].queue = st :: rest →
      s.sites[i].running = some ⟨.active ph, n⟩ → (ph = .disarming ∨ ph = .releasing ∨ ph = .switch) →
      s.sites[i].carried = [] → s.sites[i].clear = none → s.link.completion.length < 16 → s.routelessPorts i = [] →
      let figures := match st.body with
        | .scan _ _ pts => (n, pts.length - n)
        | _ => (0, 0)
      let failed := ((stuck.modLink fun k => { k with completion := k.completion ++
          [⟨i, st.tag, .failed, some .dischargeTimeout, figures.1, figures.2, none, rest.map Step.tag⟩] }).modSite i fun x =>
        { x with queue := [], running := none, held := false, stopCause := none, state := .safing,
                 teardown := some (.fault .dischargeTimeout) }).modRes i fun x =>
        { x with reserved := x.reserved && decide (ph ≠ .switch) }
      ((others fun _ u => u.state = .stuck) → s.resetReq = none → s.results.outbound.length < 16 →
        exec (.dischargeTimerExpiry l) s = .next (((failed.modSite i fun x =>
          { x with state := .safe, stopCause := some .dischargeTimeout, teardown := none }).notice
          (.siteState i .safe (some .dischargeTimeout))).closeBlock i .ended).transmit) ∧
      ∀ (k : LaneId) (u : Route), k ≠ l → s.lanes[k].route = some u → u.site = i → u.state = .ready →
        s.isLive k = false → s.lanes[k].pinRelays ≠ [] → (others fun m _ => m = k) →
        exec (.dischargeTimerExpiry l) s = .next (failed.modLane k fun x =>
          { x with route := some { u with state := .opening }, closed := dropRelays x.pinRelays x.closed,
                   load := some ⟨.opening, [], x.pinRelays⟩, quiet := none }).transmit) ∧
  (∀ (s : State) (l : LaneId) (t : Timer) (r : Route), s.awake → s.lanes[l].episode = some t → t.expiry ≤ s.time.now →
    s.lanes[l].route = some r →
    let i := r.site
    let faulted := ((s.modLane l fun x => { x with episode := none, latch := true }).countOvercurrent).notice
      (.laneFault l i r.handle r.port t.start s.time.now)
    let safing := fun x : Site => { x with
      held := false, stopCause := none, state := .safing, teardown := some (.fault .overcurrent) }
    ((s.sites[i].state = .aborting ∨ s.sites[i].state = .safing ∨ s.sites[i].state = .safe) →
      exec (.ocPersistExpiry l) s = .next faulted.transmit) ∧
    (s.routeLanes i = [l] → s.routelessPorts i = [] →
      (∀ (tag : Byte) (d : Duration) (rest : List Step) (n : Nat), s.sites[i].state = .running →
        s.sites[i].queue = ⟨tag, .wait d⟩ :: rest → s.sites[i].running = some ⟨.active .waiting, n⟩ →
        s.sites[i].carried = [] → s.link.completion.length < 16 → r.state = .live → s.isLive l = true →
        s.fullReset = false →
        exec (.ocPersistExpiry l) s = .next ((((faulted.modLink fun k => { k with completion := k.completion ++
            [⟨i, tag, .failed, some .overcurrent, 0, 0, none, rest.map Step.tag⟩] }).modSite i fun x =>
          { safing x with queue := [], running := none, waitTimer := none }).modPort r.port fun x =>
          { x with arm := false }).modLane l fun x =>
          { x with route := some { r with state := .quieting },
                   quiet := some ⟨.disarm, some (Timer.begin s.dischargeTimeout s.time.now)⟩ }).transmit) ∧
      ((s.sites[i].state = .idle ∨ s.sites[i].state = .held ∨ s.sites[i].state = .stopped) → s.sites[i].queue = [] →
        s.sites[i].running = none → r.state = .ready → s.isLive l = false → s.lanes[l].pinRelays ≠ [] →
        exec (.ocPersistExpiry l) s = .next ((faulted.modSite i safing).modLane l fun x =>
          { x with route := some { r with state := .opening }, closed := dropRelays x.pinRelays x.closed,
                   load := some ⟨.opening, [], x.pinRelays⟩, quiet := none }).transmit))) ∧
  ∀ s : State,
    let u := s.countOvercurrent
    u.health.record = { s.health.record with ocFaults := satAdd s.health.record.ocFaults 1 } ∧ u.lanes = s.lanes ∧
      u.sites = s.sites ∧ u.ports = s.ports ∧ u.results = s.results ∧ u.link = s.link

/-- OVER (R81, R82, R84). A rise starts an episode on an IN_USE or RETIRING lane whose latch is clear; on a FREE, RETIRED or
latched lane it starts none; a fall ends the episode without a fault. Model's choices: the transmitter chooses at the
event's end (log entry 6). -/
def Obligations.OverInput : Prop :=
  ∀ (s : State) (l : LaneId), s.awake →
    ((s.lanes[l].state = .inUse ∨ s.lanes[l].state = .retiring) → s.pins.overIn[l] = false → s.lanes[l].latch = false →
      s.lanes[l].episode = none → Duration.count s.ocPersist ≠ 0 →
      exec (.overRise l) s = .next ((s.modPins fun p => { p with overIn := upd p.overIn l fun _ => true }).modLane l fun x =>
        { x with episode := some (Timer.begin s.ocPersist s.time.now) }).transmit) ∧
    ((s.lanes[l].state = .free ∨ s.lanes[l].state = .retired ∨ s.lanes[l].latch = true) →
      exec (.overRise l) s = .next (s.modPins fun p => { p with overIn := upd p.overIn l fun _ => true }).transmit) ∧
    exec (.overFall l) s = .next ((s.modPins fun p => { p with overIn := upd p.overIn l fun _ => false }).modLane l fun x =>
      { x with episode := none }).transmit

/-! ### Triggers -/

/-- The done line (R41, R43). An assertion that ends a trigger wait makes the MARK reading with the done timestamp and the
trigger-to-done time (the difference of the two counts modulo 2^48, at most 4,294,967,295), and the TRIGGER ends OK; one
that finds no trigger wait raises STRAY_DONE; a line held asserted gives no further event; a deassertion changes the line
only. A pulse timer's expiry releases the trigger line, also of a claimed port whose TRIGGER has ended or waits for done
(R40); where the port's TRIGGER waits for that end, it then triggers (R39): the line is asserted anew with the trigger wait,
its timestamp, the done timer and, in PULSE style, the pulse timer. Model's choices: an expiry acts once the count has
reached it (log entry 4), the transmitter chooses at the event's end (log entry 6). -/
def Obligations.DoneLineAndPulse : Prop :=
  (∀ (s : State) (p : PortId), s.awake → p ≠ 0 →
       (∀ (w : TriggerWait) (tag : Byte) (h : Handle) (d : Duration) (n : Nat), s.pins.done[p] = false →
         s.ports[p].wait = some w → s.runsAlone w.site ⟨tag, .trigger h d⟩ .doneWait n →
           s.results.sites[w.site].pos = .empty →
         s.results.sites[w.site].reserved = true → 1 < s.blockFill →
         let mark : MarkReading :=
           ⟨w.tag, s.time.now % 2 ^ 48, s.time.uncertain, p,
             min ((s.time.now % 2 ^ 48 + 2 ^ 48 - w.stamp % 2 ^ 48) % 2 ^ 48) 4294967295⟩
         exec (.doneLineAssert p) s = .next ((((((s.modPins fun q => { q with done := upd q.done p fun _ => true }).modPort p
           fun x => { x with wait := none, doneTimer := none, trigger := x.trigger && decide (x.desc.style ≠ .hold) }).modRes
           w.site fun x => { x with reserved := false, pos := .opened s.blockFill [.mark mark] }).doneQueued
           ⟨w.site, tag, .ok, none, 0, 0, none, []⟩).modSite w.site fun x => { x with state := .idle }).transmit)) ∧
       (s.pins.done[p] = false → s.ports[p].wait = none →
         exec (.doneLineAssert p) s = .next ((s.modPins fun q => { q with done := upd q.done p fun _ => true }).notice
           (.strayDone p s.time.now)).transmit) ∧
       (s.pins.done[p] = true → exec (.doneLineAssert p) s = .next s.transmit) ∧
       exec (.doneLineDeassert p) s = .next (s.modPins fun q => { q with done := upd q.done p fun _ => false }).transmit) ∧
  (∀ (s : State) (p : PortId) (t : Timer), s.awake → s.ports[p].pulseTimer = some t → t.expiry ≤ s.time.now →
    ((∀ c : Claim, s.ports[p].claim = some c → ∀ n : Nat, s.sites[c.site].running ≠ some ⟨.active .pulseWait, n⟩) →
      exec (.pulseTimerExpiry p) s = .next (s.modPort p fun x => { x with trigger := false, pulseTimer := none }).transmit) ∧
    ∀ (c : Claim) (tag : Byte) (d : Duration) (rest : List Step) (n : Nat) (l : LaneId) (r : Route),
      s.ports[p].claim = some c → s.sites[c.site].queue = ⟨tag, .trigger c.handle d⟩ :: rest →
      s.sites[c.site].running = some ⟨.active .pulseWait, n⟩ → s.routeLane c.site c.handle = some l →
      s.lanes[l].route = some r → r.port = p → Duration.count d ≠ 0 →
      exec (.pulseTimerExpiry p) s = .next ((s.modPort p fun x =>
        { x with trigger := true, wait := some ⟨c.site, tag, s.time.now⟩, doneTimer := some (Timer.begin d s.time.now),
                 pulseTimer := if x.desc.style = .pulse then some (Timer.micros x.desc.width s.time.now)
                               else none }).modSite c.site fun x =>
        { x with running := some ⟨.active .doneWait, n⟩ }).transmit)

/-! ### The meter -/

/-- A sample before the last of its pass (R99 to R101): it is clipped to −C to +C, counted if it lay outside, offset by Z of
the current range (0 with the raw flag), added to the sum, stamped, and the sample timer starts again. The range-switch
timer's expiry begins the next pass on the new range (R108). Model's choices: an expiry acts once the count has reached it
(log entry 4), the transmitter chooses at the event's end (log entry 6). -/
def Obligations.MeterTimers : Prop :=
  (∀ (s : State) (a : Acquisition) (v : BitVec 18), s.awake → s.meter.acq = some a → a.switching = false →
    a.timer.expiry ≤ s.time.now →
       a.taken + 1 < 2 ^ a.aperture.val → 0 ≤ a.clip →
       let now := s.time.now
       let b : Acquisition :=
         { a with
           taken := a.taken + 1
           sum := a.sum + (max (-a.clip) (min a.clip v.toInt) - if a.raw then 0 else a.cal[a.range].z)
           clipped := a.clipped + if v.toInt < -a.clip ∨ a.clip < v.toInt then 1 else 0
           last := now
           lastUncertain := s.time.uncertain
           timer := Timer.begin a.interval now }
       exec (.sampleTimerExpiry v) s = .next (s.modMeter fun m => { m with acq := some b }).transmit) ∧
  (∀ (s : State) (a : Acquisition), s.awake → s.meter.acq = some a → a.switching = true → a.timer.expiry ≤ s.time.now →
       let b : Acquisition :=
         { a with switching := false, taken := 0, sum := 0, clipped := 0,
                  timer := Timer.begin a.interval s.time.now }
       exec .rangeSwitchExpiry s = .next (s.modMeter fun m => { m with acq := some b }).transmit)

/-! ### Silence and the clock -/

/-- The silence timer's expiry (R172): the state becomes EXPIRED and HOST_SILENT lists the sites taken, those that hold a
step that is not ENDED, a route, or a claim without a route and are not ABORTING, SAFING or SAFE. Each takes the fault
HOST_SILENT (R12): a site with a READY route enters SAFING with that route OPENING (R85, R86); sites that run a WAIT and
hold no route are SAFE with that cause, their DONEs FAILED with it and listing the steps behind, entered in ascending site
order (R192), and their open blocks closed with END in that order (R138, R140). The clock monitor's events (R169, R170),
from each of its states; the qualification time is 10,000 us of the count (log entry 27). Model's choices: an expiry acts
once the count has reached it (log entry 4), the transmitter chooses at the event's end (log entry 6), DONEs and closings
take their turn behind the action (log entry 36). -/
def Obligations.SilenceAndClock : Prop :=
  (∀ (s : State) (t : Timer), s.awake → s.time.silence = .running t → t.expiry ≤ s.time.now →
    let taken := fun i : SiteId =>
      s.holdsWork i = true ∧ s.sites[i].state ≠ .aborting ∧ s.sites[i].state ≠ .safing ∧ s.sites[i].state ≠ .safe
    let expired := s.modTime fun b => { b with silence := .expired }
    ((∀ i : SiteId, ¬taken i) → exec .silenceExpiry s = .next (expired.notice (.hostSilent s.time.now [])).transmit) ∧
    (∀ (i : SiteId) (l : LaneId) (r : Route), taken i → (∀ j : SiteId, taken j → j = i) → s.sites[i].queue = [] →
      s.sites[i].running = none → s.routeLanes i = [l] → s.lanes[l].route = some r → r.state = .ready → s.isLive l = false →
      s.lanes[l].pinRelays ≠ [] → s.routelessPorts i = [] →
      exec .silenceExpiry s = .next (((expired.modSite i fun x =>
        { x with held := false, stopCause := none, state := .safing, teardown := some (.fault .hostSilent) }).modLane l
        fun x => { x with
                 route := some { r with state := .opening }, closed := dropRelays x.pinRelays x.closed,
                 load := some ⟨.opening, [], x.pinRelays⟩, quiet := none }).notice (.hostSilent s.time.now [i])).transmit) ∧
    ∀ on : List SiteId, on = allSites.filter (fun i => s.holdsWork i && s.takesFaults i) →
      (∀ i ∈ on, s.sites[i].state = .running ∧ s.sites[i].carried = [] ∧ s.routeLanes i = [] ∧ s.routelessPorts i = [] ∧
        ∃ (tag : Byte) (d : Duration) (rest : List Step) (n : Nat), s.sites[i].queue = ⟨tag, .wait d⟩ :: rest ∧
          s.sites[i].running = some ⟨.active .waiting, n⟩) →
      s.link.completion.length + on.length ≤ 16 → s.results.outbound.length + on.length ≤ 16 → s.resetReq = none →
      ∃ u : State, exec .silenceExpiry s = .next u.transmit ∧
        u.link.completion = s.link.completion ++ on.map (fun i =>
          ⟨i, ((s.sites[i].queue.map Step.tag).headD 0), .failed, some .hostSilent, 0, 0, none, s.sites[i].tailTags⟩) ∧
        u.results = (forEach on (fun i v => v.closeBlock i .ended) s).results ∧
        (∀ i : SiteId, i ∈ on → u.sites[i] = { s.sites[i] with
          queue := [], running := none, held := false, waitTimer := none, state := .safe, stopCause := some .hostSilent,
          teardown := none }) ∧
        (∀ i : SiteId, i ∉ on → u.sites[i] = s.sites[i]) ∧ u.time = expired.time ∧
        (s.noticeMask.getLsbD 8 = true →
          ∃ e : NoticeEntry, u.link.notices[(8 : Fin 9)] = some e ∧ e.notice = .hostSilent s.time.now on) ∧
        u.lanes = s.lanes ∧ u.ports = s.ports ∧ u.meter = s.meter ∧ u.health = s.health ∧ u.store = s.store) ∧
  (∀ (s : State) (i : SiteId), s.sites[i].carried = [] →
    let ended := ∃ n : Nat, s.sites[i].running = some ⟨.ended, n⟩
    (s.takesFaults i = true ↔ s.sites[i].state ≠ .aborting ∧ s.sites[i].state ≠ .safing ∧ s.sites[i].state ≠ .safe) ∧
    (s.holdsWork i = true ↔ (¬ended ∧ s.sites[i].queue ≠ []) ∨ (ended ∧ 1 < s.sites[i].queue.length) ∨
      (∃ (l : LaneId) (r : Route), s.lanes[l].route = some r ∧ r.site = i) ∨
      ∃ (p : PortId) (c : Claim), s.ports[p].claim = some c ∧ c.site = i ∧ s.routeLane i c.handle = none)) ∧
  (∀ s : State, s.awake →
       (s.time.monitor = .present → exec .referenceLost s =
         .next (((s.modPins fun p => { p with refEdges := false }).modTime fun b =>
           { b with monitor := .lost, source := .oscillator, uncertain := true }).notice
           (.clock .oscillator s.time.now)).transmit) ∧
       (∀ t, s.time.monitor = .qualifying t → exec .referenceLost s =
         .next ((s.modPins fun p => { p with refEdges := false }).modTime fun b =>
           { b with monitor := .lost, uncertain := true }).transmit) ∧
       (s.time.monitor = .lost → exec .referenceEdge s =
         .next ((s.modPins fun p => { p with refEdges := true }).modTime fun b => { b with
           monitor := .qualifying ⟨s.time.now, s.time.now + 10000, s.time.now + 10000⟩ }).transmit) ∧
       (∀ t, s.time.monitor = .qualifying t → t.expiry ≤ s.time.now → exec .qualificationEnd s =
         .next ((s.modTime fun b => { b with monitor := .present, source := .reference }).notice
           (.clock .reference s.time.now)).transmit))

/-! ### The store -/

/-- The end of a store write that no request waits for, with nothing else due (R176 to R178): verified, the item's stored
content is the content the write took and its differs flag is clear unless the RAM copy changed since; not verified, the
stored content and the flag stay and STORE_FAULT is raised. Model's choices: the transmitter chooses at the event's
end (log entry 6). -/
def Obligations.StoreWriteEnds : Prop :=
  ∀ (s : State) (w : Write), s.awake → s.store.inFlight = some w → s.store.awaits = [] → s.store.pendingWrites = [] →
    exec (.storeWriteDone true) s = .next (s.modStore fun t => { t with
      inFlight := none, stored := t.stored.put w.content,
      differs := upd t.differs w.content.item fun _ => w.changed }).transmit ∧
    exec (.storeWriteDone false) s = .next ((s.modStore fun t => { t with inFlight := none }).notice
      (.storeFault w.content.item true)).transmit

/-! ### Invariants -/

/-- Every command that ends in a next state leaves no follow-up behind, given that none was there (log entry 6). The
fixed-size queues stay within their sizes at every step (R188, R190, R192, R139). Model's choices: the transmitter
chooses at the event's end (log entry 6). -/
def Obligations.BuffersKept : Prop :=
  (∀ s t : State, s.agenda = [] → step s = .next t → t.agenda = []) ∧
  (∀ s t : State, s.withinCapacity → step s = .next t → t.withinCapacity)

/-- The operation counts stay in canonical form at every step, in HEALTH, in the store and in the write in flight. -/
def Obligations.CountsKept : Prop := ∀ s t : State, s.countsWf → step s = .next t → t.countsWf

/-- At every step, a lane holds a route exactly while it is IN_USE or RETIRING (R46). -/
def Obligations.LanesKept : Prop := ∀ s t : State, s.lanesAgree → step s = .next t → t.lanesAgree

/-- Port 0's description stays its fixed one at every step (R29, R31). -/
def Obligations.MeterPortKept : Prop := ∀ s t : State, s.meterPortFixed → step s = .next t → t.meterPortFixed

/-- No step begins a closing or opening load on a lane that reads live; only hot loads are made on live lanes (R49). -/
def Obligations.NeverSwitchesLive : Prop := ∀ s t : State, step s = .next t → noLiveSwitching s t

/-- At every step: a site's queue holds at most 32 steps with distinct tags (R4), the pending-write set holds no item twice
(R177), each pending notice stands in the place of its kind (R193); and, where a lane holds a route exactly while it is IN_USE
or RETIRING, an asserted arm line stays that of a port with a LIVE route (R36). -/
def Obligations.EntriesAndArmsKept : Prop :=
  (∀ s t : State, s.entriesDistinct → step s = .next t → t.entriesDistinct) ∧
  (∀ s t : State, s.lanesAgree → s.armsLive → step s = .next t → t.armsLive)

/-- The part straight after start-up meets every invariant, and its health attributes are current (R155 to R157). -/
def Obligations.ResetInvariants : Prop :=
  State.reset.agenda = [] ∧ State.reset.withinCapacity ∧ State.reset.countsWf ∧ State.reset.lanesAgree ∧
    State.reset.meterPortFixed ∧ State.reset.entriesDistinct ∧ State.reset.armsLive ∧ State.reset.healthCurrent
end

