-- ==== Sys2Proof/Laws/Counts.lean ====
section
/-! SUPPORT. The relay counts of a lane: every operation on them keeps the canonical form, and reading after writing
(R148, R150). -/

namespace Sys2Proof.Machine

theorem Counts.wf_tail {x : Relay} {n : Nat} {c : Counts} (h : Counts.wf ((x, n) :: c) = true) :
    n ≠ 0 ∧ Counts.above x c = true ∧ Counts.wf c = true := by
  simpa [Counts.wf, and_assoc] using h

theorem Counts.above_trans {x y : Relay} {c : Counts} (h : x < y) (ha : Counts.above y c = true) :
    Counts.above x c = true := by
  cases c with
  | nil => rfl
  | cons e rest =>
    obtain ⟨z, m⟩ := e
    simp only [Counts.above, decide_eq_true_eq] at ha ⊢
    exact Fin.lt_trans h ha

theorem Counts.above_put {x r : Relay} (n : Nat) {c : Counts} (hx : x < r) (h : Counts.above x c = true)
    (hw : Counts.wf c = true) : Counts.above x (Counts.put r n c) = true := by
  cases c with
  | nil => unfold Counts.put; split <;> simp [Counts.above, hx]
  | cons e rest =>
    obtain ⟨y, m⟩ := e
    have hy : x < y := by simpa [Counts.above] using h
    obtain ⟨-, hab, -⟩ := Counts.wf_tail hw
    unfold Counts.put
    split
    · split <;> simp [Counts.above, hx, hy]
    · split
      · split
        · exact Counts.above_trans hy hab
        · simp [Counts.above, hx]
      · simp [Counts.above, hy]

/-- Setting a count keeps the canonical form. -/
theorem Counts.wf_put (r : Relay) (n : Nat) (c : Counts) (hw : Counts.wf c = true) :
    Counts.wf (Counts.put r n c) = true := by
  induction c with
  | nil => unfold Counts.put; split <;> simp_all [Counts.wf, Counts.above]
  | cons e rest ih =>
    obtain ⟨y, m⟩ := e
    obtain ⟨hm, hab, hr⟩ := Counts.wf_tail hw
    unfold Counts.put
    split
    · next hlt => split <;> simp_all [Counts.wf, Counts.above]
    · next hge =>
      split
      · next he => subst he; split <;> simp_all [Counts.wf]
      · next hne =>
        have hyr : y < r := by
          rcases Nat.lt_trichotomy y.val r.val with h | h | h
          · exact h
          · exact absurd (Fin.ext h.symm) hne
          · exact absurd h hge
        simp [Counts.wf, hm, ih hr, Counts.above_put n hyr hab hr]

theorem Counts.get_above {r : Relay} {c : Counts} (h : Counts.above r c = true) (hw : Counts.wf c = true) :
    Counts.get c r = 0 := by
  induction c with
  | nil => rfl
  | cons e rest ih =>
    obtain ⟨y, m⟩ := e
    have hy : r < y := by simpa [Counts.above] using h
    obtain ⟨-, hab, hr⟩ := Counts.wf_tail hw
    simp only [Counts.get]
    rw [if_neg (by rintro rfl; exact absurd hy (Nat.lt_irrefl _))]
    exact ih (Counts.above_trans hy hab) hr

/-- The count read after it was set. -/
theorem Counts.get_put_self (r : Relay) (n : Nat) (c : Counts) (hw : Counts.wf c = true) :
    Counts.get (Counts.put r n c) r = n := by
  induction c with
  | nil => unfold Counts.put; split <;> simp_all [Counts.get]
  | cons e rest ih =>
    obtain ⟨y, m⟩ := e
    obtain ⟨hm, hab, hr⟩ := Counts.wf_tail hw
    unfold Counts.put
    split
    · next hlt =>
      split
      · next hz => rw [hz]; exact Counts.get_above (by simpa [Counts.above] using hlt) hw
      · simp [Counts.get]
    · split
      · next he =>
        subst he
        split
        · next hz => rw [hz]; exact Counts.get_above hab hr
        · simp [Counts.get]
      · next hne => simp only [Counts.get]; rw [if_neg (Ne.symm hne)]; exact ih hr

/-- Setting a count leaves the count of every other relay. -/
theorem Counts.get_put_ne (r q : Relay) (n : Nat) (c : Counts) (hq : q ≠ r) (hw : Counts.wf c = true) :
    Counts.get (Counts.put r n c) q = Counts.get c q := by
  induction c with
  | nil => unfold Counts.put; split <;> simp_all [Counts.get, Ne.symm hq]
  | cons e rest ih =>
    obtain ⟨y, m⟩ := e
    obtain ⟨hm, hab, hr⟩ := Counts.wf_tail hw
    unfold Counts.put
    split
    · split
      · rfl
      · simp [Counts.get, Ne.symm hq]
    · split
      · next he => subst he; split <;> simp [Counts.get, Ne.symm hq]
      · simp only [Counts.get, ih hr]

/-- A load's charge keeps the canonical form (R150). -/
theorem chargeRelays_wf (n : Nat) (rs : List Relay) (c : Counts) (hw : Counts.wf c = true) :
    Counts.wf (chargeRelays n rs c).1 = true := by
  induction rs generalizing c with
  | nil => exact hw
  | cons r rs ih => exact ih _ (Counts.wf_put r _ c hw)

/-- A load's charge leaves the count of a relay it does not name. -/
theorem chargeRelays_get_ne (n : Nat) (rs : List Relay) (c : Counts) (q : Relay) (hq : q ∉ rs)
    (hw : Counts.wf c = true) : Counts.get (chargeRelays n rs c).1 q = Counts.get c q := by
  induction rs generalizing c with
  | nil => rfl
  | cons r rs ih =>
    simp only [List.mem_cons, not_or] at hq
    simp only [chargeRelays]
    rw [ih _ hq.2 (Counts.wf_put r _ c hw), Counts.get_put_ne r q _ c hq.1 hw]

end Sys2Proof.Machine
end

