-- ==== Sys2Proof/Laws/Operands.lean ====
section
/-! SUPPORT. The byte order of the link: a field written and read again is the same field (R186). -/

namespace Sys2Proof.Machine

@[simp] theorem le16_bytes (x : BitVec 16) : le16 (x.extractLsb' 0 8) (x.extractLsb' 8 8) = x := by
  apply BitVec.eq_of_getLsbD_eq
  intro i hi
  simp only [le16, BitVec.getLsbD_append, BitVec.getLsbD_extractLsb']
  split
  · next h => simp [h]
  · next h => rw [show 8 + (i - 8) = i by omega]; simp; omega

@[simp] theorem le32_bytes (x : BitVec 32) :
    le32 (x.extractLsb' 0 8) (x.extractLsb' 8 8) (x.extractLsb' 16 8) (x.extractLsb' 24 8) = x := by
  apply BitVec.eq_of_getLsbD_eq
  intro i hi
  simp only [le32, BitVec.getLsbD_append, BitVec.getLsbD_extractLsb']
  split
  · next h => simp [h]
  · next h =>
    split
    · next h2 => rw [show 8 + (i - 8) = i by omega]; simp [h2]
    · next h2 =>
      split
      · next h3 => rw [show 16 + (i - 8 - 8) = i by omega]; simp [h3]
      · next h3 => rw [show 24 + (i - 8 - 8 - 8) = i by omega]; simp; omega

theorem bytes16_length (x : BitVec 16) : (bytes16 x).length = 2 := rfl
theorem bytes32_length (x : BitVec 32) : (bytes32 x).length = 4 := rfl

@[simp] theorem bit_flag (b : Bool) : bit (flag b) 0 = b := by cases b <;> decide

@[simp] theorem flag_ne_zero (b : Bool) : (flag b != 0#8) = b := by cases b <;> decide

theorem bit_flags_0 : ∀ b0 b1 b2 b3 b4 b5 : Bool, bit (flags b0 b1 b2 b3 b4 b5) 0 = b0 := by decide
theorem bit_flags_1 : ∀ b0 b1 b2 b3 b4 b5 : Bool, bit (flags b0 b1 b2 b3 b4 b5) 1 = b1 := by decide
theorem bit_flags_2 : ∀ b0 b1 b2 b3 b4 b5 : Bool, bit (flags b0 b1 b2 b3 b4 b5) 2 = b2 := by decide
theorem bit_flags_3 : ∀ b0 b1 b2 b3 b4 b5 : Bool, bit (flags b0 b1 b2 b3 b4 b5) 3 = b3 := by decide

theorem readStop_stopByte (t : StopSet) : readStop (stopByte t) = t := by
  simp [readStop, stopByte, bit_flags_0, bit_flags_1, bit_flags_2, bit_flags_3]

@[simp] theorem kindNamed_kindCode (k : RequestKind) : kindNamed (kindCode k) = some k := by cases k <;> decide

@[simp] theorem stepNamed_stepCode (k : StepKind) : stepNamed (stepCode k) = some k := by cases k <;> decide

theorem limitBytes_length (l : Option Limits) : (limitBytes l).length = 12 := by cases l <;> rfl

/-- `meterBytes` is read back by `readMeter`. -/
theorem readMeter_meterBytes (m : MeterReq) (rest : List Byte) : readMeter (meterBytes m ++ rest) = some (m, rest) := by
  obtain ⟨h, r, a, au, raw, st, lim⟩ := m
  cases lim with
  | none =>
    simp [meterBytes, readMeter, limitBytes, meterFlags, readLimits, bit_flags_0, bit_flags_1, bit_flags_2,
      readStop_stopByte, List.replicate]
  | some l =>
    simp [meterBytes, readMeter, limitBytes, bytes32, meterFlags, readLimits, bit_flags_0, bit_flags_1, bit_flags_2,
      readStop_stopByte]

/-- `pointBytes` is read back by `readPoints`. -/
theorem readPoints_points (ps : List ScanPoint) : readPoints (ps.map pointBytes).flatten = some ps := by
  induction ps with
  | nil => rfl
  | cons p ps ih =>
    obtain ⟨pin, own⟩ := p
    cases own with
    | none => simp [pointBytes, limitBytes, List.replicate, readPoints, readLimits, ih]
    | some l =>
      simp [pointBytes, limitBytes, bytes32, readPoints, readLimits, ih]

/-- The pairs of a CONFIG_SET are read back by `readPairs`. -/
theorem readPairs_pairs (ps : List (Byte × BitVec 32)) :
    readPairs (ps.map fun e => e.1 :: bytes32 e.2).flatten = some ps := by
  induction ps with
  | nil => rfl
  | cons p ps ih =>
    simp only [bytes32] at ih
    simp [bytes32, readPairs, ih]

end Sys2Proof.Machine
end

