-- ==== Sys2Proof/Laws/State.lean ====
section
/-! SUPPORT. What each update of the state leaves in each field: one lemma per field per update, true by definition. -/

namespace Sys2Proof.Machine

variable (s : State)

/-! ### modLink -/

@[simp] theorem State.modLink_powered (f : Link → Link) : (s.modLink f).powered = s.powered := rfl
@[simp] theorem State.modLink_freeze (f : Link → Link) : (s.modLink f).freeze = s.freeze := rfl
@[simp] theorem State.modLink_pins (f : Link → Link) : (s.modLink f).pins = s.pins := rfl
@[simp] theorem State.modLink_link (f : Link → Link) : (s.modLink f).link = f s.link := rfl
@[simp] theorem State.modLink_sites (f : Link → Link) : (s.modLink f).sites = s.sites := rfl
@[simp] theorem State.modLink_ports (f : Link → Link) : (s.modLink f).ports = s.ports := rfl
@[simp] theorem State.modLink_lanes (f : Link → Link) : (s.modLink f).lanes = s.lanes := rfl
@[simp] theorem State.modLink_laneWaiters (f : Link → Link) : (s.modLink f).laneWaiters = s.laneWaiters := rfl
@[simp] theorem State.modLink_meter (f : Link → Link) : (s.modLink f).meter = s.meter := rfl
@[simp] theorem State.modLink_results (f : Link → Link) : (s.modLink f).results = s.results := rfl
@[simp] theorem State.modLink_health (f : Link → Link) : (s.modLink f).health = s.health := rfl
@[simp] theorem State.modLink_time (f : Link → Link) : (s.modLink f).time = s.time := rfl
@[simp] theorem State.modLink_store (f : Link → Link) : (s.modLink f).store = s.store := rfl
@[simp] theorem State.modLink_resetReq (f : Link → Link) : (s.modLink f).resetReq = s.resetReq := rfl
@[simp] theorem State.modLink_agenda (f : Link → Link) : (s.modLink f).agenda = s.agenda := rfl
@[simp] theorem State.modLink_freeReads (f : Link → Link) : (s.modLink f).freeReads = s.freeReads := rfl
@[simp] theorem State.modLink_pending (f : Link → Link) : (s.modLink f).pending = s.pending := rfl

/-! ### modSite -/

@[simp] theorem State.modSite_powered (i : SiteId) (f : Site → Site) : (s.modSite i f).powered = s.powered := rfl
@[simp] theorem State.modSite_freeze (i : SiteId) (f : Site → Site) : (s.modSite i f).freeze = s.freeze := rfl
@[simp] theorem State.modSite_pins (i : SiteId) (f : Site → Site) : (s.modSite i f).pins = s.pins := rfl
@[simp] theorem State.modSite_link (i : SiteId) (f : Site → Site) : (s.modSite i f).link = s.link := rfl
@[simp] theorem State.modSite_sites (i : SiteId) (f : Site → Site) : (s.modSite i f).sites = upd s.sites i f := rfl
@[simp] theorem State.modSite_ports (i : SiteId) (f : Site → Site) : (s.modSite i f).ports = s.ports := rfl
@[simp] theorem State.modSite_lanes (i : SiteId) (f : Site → Site) : (s.modSite i f).lanes = s.lanes := rfl
@[simp] theorem State.modSite_laneWaiters (i : SiteId) (f : Site → Site) :
    (s.modSite i f).laneWaiters = s.laneWaiters := rfl
@[simp] theorem State.modSite_meter (i : SiteId) (f : Site → Site) : (s.modSite i f).meter = s.meter := rfl
@[simp] theorem State.modSite_results (i : SiteId) (f : Site → Site) : (s.modSite i f).results = s.results := rfl
@[simp] theorem State.modSite_health (i : SiteId) (f : Site → Site) : (s.modSite i f).health = s.health := rfl
@[simp] theorem State.modSite_time (i : SiteId) (f : Site → Site) : (s.modSite i f).time = s.time := rfl
@[simp] theorem State.modSite_store (i : SiteId) (f : Site → Site) : (s.modSite i f).store = s.store := rfl
@[simp] theorem State.modSite_resetReq (i : SiteId) (f : Site → Site) : (s.modSite i f).resetReq = s.resetReq := rfl
@[simp] theorem State.modSite_agenda (i : SiteId) (f : Site → Site) : (s.modSite i f).agenda = s.agenda := rfl
@[simp] theorem State.modSite_freeReads (i : SiteId) (f : Site → Site) :
    (s.modSite i f).freeReads = s.freeReads := rfl
@[simp] theorem State.modSite_pending (i : SiteId) (f : Site → Site) : (s.modSite i f).pending = s.pending := rfl

/-! ### modPort -/

@[simp] theorem State.modPort_powered (p : PortId) (f : Port → Port) : (s.modPort p f).powered = s.powered := rfl
@[simp] theorem State.modPort_freeze (p : PortId) (f : Port → Port) : (s.modPort p f).freeze = s.freeze := rfl
@[simp] theorem State.modPort_pins (p : PortId) (f : Port → Port) : (s.modPort p f).pins = s.pins := rfl
@[simp] theorem State.modPort_link (p : PortId) (f : Port → Port) : (s.modPort p f).link = s.link := rfl
@[simp] theorem State.modPort_sites (p : PortId) (f : Port → Port) : (s.modPort p f).sites = s.sites := rfl
@[simp] theorem State.modPort_ports (p : PortId) (f : Port → Port) : (s.modPort p f).ports = upd s.ports p f := rfl
@[simp] theorem State.modPort_lanes (p : PortId) (f : Port → Port) : (s.modPort p f).lanes = s.lanes := rfl
@[simp] theorem State.modPort_laneWaiters (p : PortId) (f : Port → Port) :
    (s.modPort p f).laneWaiters = s.laneWaiters := rfl
@[simp] theorem State.modPort_meter (p : PortId) (f : Port → Port) : (s.modPort p f).meter = s.meter := rfl
@[simp] theorem State.modPort_results (p : PortId) (f : Port → Port) : (s.modPort p f).results = s.results := rfl
@[simp] theorem State.modPort_health (p : PortId) (f : Port → Port) : (s.modPort p f).health = s.health := rfl
@[simp] theorem State.modPort_time (p : PortId) (f : Port → Port) : (s.modPort p f).time = s.time := rfl
@[simp] theorem State.modPort_store (p : PortId) (f : Port → Port) : (s.modPort p f).store = s.store := rfl
@[simp] theorem State.modPort_resetReq (p : PortId) (f : Port → Port) : (s.modPort p f).resetReq = s.resetReq := rfl
@[simp] theorem State.modPort_agenda (p : PortId) (f : Port → Port) : (s.modPort p f).agenda = s.agenda := rfl
@[simp] theorem State.modPort_freeReads (p : PortId) (f : Port → Port) :
    (s.modPort p f).freeReads = s.freeReads := rfl
@[simp] theorem State.modPort_pending (p : PortId) (f : Port → Port) : (s.modPort p f).pending = s.pending := rfl

/-! ### modLane -/

@[simp] theorem State.modLane_powered (l : LaneId) (f : Lane → Lane) : (s.modLane l f).powered = s.powered := rfl
@[simp] theorem State.modLane_freeze (l : LaneId) (f : Lane → Lane) : (s.modLane l f).freeze = s.freeze := rfl
@[simp] theorem State.modLane_pins (l : LaneId) (f : Lane → Lane) : (s.modLane l f).pins = s.pins := rfl
@[simp] theorem State.modLane_link (l : LaneId) (f : Lane → Lane) : (s.modLane l f).link = s.link := rfl
@[simp] theorem State.modLane_sites (l : LaneId) (f : Lane → Lane) : (s.modLane l f).sites = s.sites := rfl
@[simp] theorem State.modLane_ports (l : LaneId) (f : Lane → Lane) : (s.modLane l f).ports = s.ports := rfl
@[simp] theorem State.modLane_lanes (l : LaneId) (f : Lane → Lane) : (s.modLane l f).lanes = upd s.lanes l f := rfl
@[simp] theorem State.modLane_laneWaiters (l : LaneId) (f : Lane → Lane) :
    (s.modLane l f).laneWaiters = s.laneWaiters := rfl
@[simp] theorem State.modLane_meter (l : LaneId) (f : Lane → Lane) : (s.modLane l f).meter = s.meter := rfl
@[simp] theorem State.modLane_results (l : LaneId) (f : Lane → Lane) : (s.modLane l f).results = s.results := rfl
@[simp] theorem State.modLane_health (l : LaneId) (f : Lane → Lane) : (s.modLane l f).health = s.health := rfl
@[simp] theorem State.modLane_time (l : LaneId) (f : Lane → Lane) : (s.modLane l f).time = s.time := rfl
@[simp] theorem State.modLane_store (l : LaneId) (f : Lane → Lane) : (s.modLane l f).store = s.store := rfl
@[simp] theorem State.modLane_resetReq (l : LaneId) (f : Lane → Lane) : (s.modLane l f).resetReq = s.resetReq := rfl
@[simp] theorem State.modLane_agenda (l : LaneId) (f : Lane → Lane) : (s.modLane l f).agenda = s.agenda := rfl
@[simp] theorem State.modLane_freeReads (l : LaneId) (f : Lane → Lane) :
    (s.modLane l f).freeReads = s.freeReads := rfl
@[simp] theorem State.modLane_pending (l : LaneId) (f : Lane → Lane) : (s.modLane l f).pending = s.pending := rfl

/-! ### modMeter -/

@[simp] theorem State.modMeter_powered (f : Meter → Meter) : (s.modMeter f).powered = s.powered := rfl
@[simp] theorem State.modMeter_freeze (f : Meter → Meter) : (s.modMeter f).freeze = s.freeze := rfl
@[simp] theorem State.modMeter_pins (f : Meter → Meter) : (s.modMeter f).pins = s.pins := rfl
@[simp] theorem State.modMeter_link (f : Meter → Meter) : (s.modMeter f).link = s.link := rfl
@[simp] theorem State.modMeter_sites (f : Meter → Meter) : (s.modMeter f).sites = s.sites := rfl
@[simp] theorem State.modMeter_ports (f : Meter → Meter) : (s.modMeter f).ports = s.ports := rfl
@[simp] theorem State.modMeter_lanes (f : Meter → Meter) : (s.modMeter f).lanes = s.lanes := rfl
@[simp] theorem State.modMeter_laneWaiters (f : Meter → Meter) : (s.modMeter f).laneWaiters = s.laneWaiters := rfl
@[simp] theorem State.modMeter_meter (f : Meter → Meter) : (s.modMeter f).meter = f s.meter := rfl
@[simp] theorem State.modMeter_results (f : Meter → Meter) : (s.modMeter f).results = s.results := rfl
@[simp] theorem State.modMeter_health (f : Meter → Meter) : (s.modMeter f).health = s.health := rfl
@[simp] theorem State.modMeter_time (f : Meter → Meter) : (s.modMeter f).time = s.time := rfl
@[simp] theorem State.modMeter_store (f : Meter → Meter) : (s.modMeter f).store = s.store := rfl
@[simp] theorem State.modMeter_resetReq (f : Meter → Meter) : (s.modMeter f).resetReq = s.resetReq := rfl
@[simp] theorem State.modMeter_agenda (f : Meter → Meter) : (s.modMeter f).agenda = s.agenda := rfl
@[simp] theorem State.modMeter_freeReads (f : Meter → Meter) : (s.modMeter f).freeReads = s.freeReads := rfl
@[simp] theorem State.modMeter_pending (f : Meter → Meter) : (s.modMeter f).pending = s.pending := rfl

/-! ### modHealth -/

@[simp] theorem State.modHealth_powered (f : Health → Health) : (s.modHealth f).powered = s.powered := rfl
@[simp] theorem State.modHealth_freeze (f : Health → Health) : (s.modHealth f).freeze = s.freeze := rfl
@[simp] theorem State.modHealth_pins (f : Health → Health) : (s.modHealth f).pins = s.pins := rfl
@[simp] theorem State.modHealth_link (f : Health → Health) : (s.modHealth f).link = s.link := rfl
@[simp] theorem State.modHealth_sites (f : Health → Health) : (s.modHealth f).sites = s.sites := rfl
@[simp] theorem State.modHealth_ports (f : Health → Health) : (s.modHealth f).ports = s.ports := rfl
@[simp] theorem State.modHealth_lanes (f : Health → Health) : (s.modHealth f).lanes = s.lanes := rfl
@[simp] theorem State.modHealth_laneWaiters (f : Health → Health) : (s.modHealth f).laneWaiters = s.laneWaiters := rfl
@[simp] theorem State.modHealth_meter (f : Health → Health) : (s.modHealth f).meter = s.meter := rfl
@[simp] theorem State.modHealth_results (f : Health → Health) : (s.modHealth f).results = s.results := rfl
@[simp] theorem State.modHealth_health (f : Health → Health) : (s.modHealth f).health = f s.health := rfl
@[simp] theorem State.modHealth_time (f : Health → Health) : (s.modHealth f).time = s.time := rfl
@[simp] theorem State.modHealth_store (f : Health → Health) : (s.modHealth f).store = s.store := rfl
@[simp] theorem State.modHealth_resetReq (f : Health → Health) : (s.modHealth f).resetReq = s.resetReq := rfl
@[simp] theorem State.modHealth_agenda (f : Health → Health) : (s.modHealth f).agenda = s.agenda := rfl
@[simp] theorem State.modHealth_freeReads (f : Health → Health) : (s.modHealth f).freeReads = s.freeReads := rfl
@[simp] theorem State.modHealth_pending (f : Health → Health) : (s.modHealth f).pending = s.pending := rfl

/-! ### modTime -/

@[simp] theorem State.modTime_powered (f : TimeBase → TimeBase) : (s.modTime f).powered = s.powered := rfl
@[simp] theorem State.modTime_freeze (f : TimeBase → TimeBase) : (s.modTime f).freeze = s.freeze := rfl
@[simp] theorem State.modTime_pins (f : TimeBase → TimeBase) : (s.modTime f).pins = s.pins := rfl
@[simp] theorem State.modTime_link (f : TimeBase → TimeBase) : (s.modTime f).link = s.link := rfl
@[simp] theorem State.modTime_sites (f : TimeBase → TimeBase) : (s.modTime f).sites = s.sites := rfl
@[simp] theorem State.modTime_ports (f : TimeBase → TimeBase) : (s.modTime f).ports = s.ports := rfl
@[simp] theorem State.modTime_lanes (f : TimeBase → TimeBase) : (s.modTime f).lanes = s.lanes := rfl
@[simp] theorem State.modTime_laneWaiters (f : TimeBase → TimeBase) : (s.modTime f).laneWaiters = s.laneWaiters := rfl
@[simp] theorem State.modTime_meter (f : TimeBase → TimeBase) : (s.modTime f).meter = s.meter := rfl
@[simp] theorem State.modTime_results (f : TimeBase → TimeBase) : (s.modTime f).results = s.results := rfl
@[simp] theorem State.modTime_health (f : TimeBase → TimeBase) : (s.modTime f).health = s.health := rfl
@[simp] theorem State.modTime_time (f : TimeBase → TimeBase) : (s.modTime f).time = f s.time := rfl
@[simp] theorem State.modTime_store (f : TimeBase → TimeBase) : (s.modTime f).store = s.store := rfl
@[simp] theorem State.modTime_resetReq (f : TimeBase → TimeBase) : (s.modTime f).resetReq = s.resetReq := rfl
@[simp] theorem State.modTime_agenda (f : TimeBase → TimeBase) : (s.modTime f).agenda = s.agenda := rfl
@[simp] theorem State.modTime_freeReads (f : TimeBase → TimeBase) : (s.modTime f).freeReads = s.freeReads := rfl
@[simp] theorem State.modTime_pending (f : TimeBase → TimeBase) : (s.modTime f).pending = s.pending := rfl

/-! ### modStore -/

@[simp] theorem State.modStore_powered (f : Store → Store) : (s.modStore f).powered = s.powered := rfl
@[simp] theorem State.modStore_freeze (f : Store → Store) : (s.modStore f).freeze = s.freeze := rfl
@[simp] theorem State.modStore_pins (f : Store → Store) : (s.modStore f).pins = s.pins := rfl
@[simp] theorem State.modStore_link (f : Store → Store) : (s.modStore f).link = s.link := rfl
@[simp] theorem State.modStore_sites (f : Store → Store) : (s.modStore f).sites = s.sites := rfl
@[simp] theorem State.modStore_ports (f : Store → Store) : (s.modStore f).ports = s.ports := rfl
@[simp] theorem State.modStore_lanes (f : Store → Store) : (s.modStore f).lanes = s.lanes := rfl
@[simp] theorem State.modStore_laneWaiters (f : Store → Store) : (s.modStore f).laneWaiters = s.laneWaiters := rfl
@[simp] theorem State.modStore_meter (f : Store → Store) : (s.modStore f).meter = s.meter := rfl
@[simp] theorem State.modStore_results (f : Store → Store) : (s.modStore f).results = s.results := rfl
@[simp] theorem State.modStore_health (f : Store → Store) : (s.modStore f).health = s.health := rfl
@[simp] theorem State.modStore_time (f : Store → Store) : (s.modStore f).time = s.time := rfl
@[simp] theorem State.modStore_store (f : Store → Store) : (s.modStore f).store = f s.store := rfl
@[simp] theorem State.modStore_resetReq (f : Store → Store) : (s.modStore f).resetReq = s.resetReq := rfl
@[simp] theorem State.modStore_agenda (f : Store → Store) : (s.modStore f).agenda = s.agenda := rfl
@[simp] theorem State.modStore_freeReads (f : Store → Store) : (s.modStore f).freeReads = s.freeReads := rfl
@[simp] theorem State.modStore_pending (f : Store → Store) : (s.modStore f).pending = s.pending := rfl

/-! ### modPins -/

@[simp] theorem State.modPins_powered (f : Pins → Pins) : (s.modPins f).powered = s.powered := rfl
@[simp] theorem State.modPins_freeze (f : Pins → Pins) : (s.modPins f).freeze = s.freeze := rfl
@[simp] theorem State.modPins_pins (f : Pins → Pins) : (s.modPins f).pins = f s.pins := rfl
@[simp] theorem State.modPins_link (f : Pins → Pins) : (s.modPins f).link = s.link := rfl
@[simp] theorem State.modPins_sites (f : Pins → Pins) : (s.modPins f).sites = s.sites := rfl
@[simp] theorem State.modPins_ports (f : Pins → Pins) : (s.modPins f).ports = s.ports := rfl
@[simp] theorem State.modPins_lanes (f : Pins → Pins) : (s.modPins f).lanes = s.lanes := rfl
@[simp] theorem State.modPins_laneWaiters (f : Pins → Pins) : (s.modPins f).laneWaiters = s.laneWaiters := rfl
@[simp] theorem State.modPins_meter (f : Pins → Pins) : (s.modPins f).meter = s.meter := rfl
@[simp] theorem State.modPins_results (f : Pins → Pins) : (s.modPins f).results = s.results := rfl
@[simp] theorem State.modPins_health (f : Pins → Pins) : (s.modPins f).health = s.health := rfl
@[simp] theorem State.modPins_time (f : Pins → Pins) : (s.modPins f).time = s.time := rfl
@[simp] theorem State.modPins_store (f : Pins → Pins) : (s.modPins f).store = s.store := rfl
@[simp] theorem State.modPins_resetReq (f : Pins → Pins) : (s.modPins f).resetReq = s.resetReq := rfl
@[simp] theorem State.modPins_agenda (f : Pins → Pins) : (s.modPins f).agenda = s.agenda := rfl
@[simp] theorem State.modPins_freeReads (f : Pins → Pins) : (s.modPins f).freeReads = s.freeReads := rfl
@[simp] theorem State.modPins_pending (f : Pins → Pins) : (s.modPins f).pending = s.pending := rfl

/-! ### modRes -/

@[simp] theorem State.modRes_powered (i : SiteId) (f : SiteResults → SiteResults) :
    (s.modRes i f).powered = s.powered := rfl
@[simp] theorem State.modRes_freeze (i : SiteId) (f : SiteResults → SiteResults) :
    (s.modRes i f).freeze = s.freeze := rfl
@[simp] theorem State.modRes_pins (i : SiteId) (f : SiteResults → SiteResults) : (s.modRes i f).pins = s.pins := rfl
@[simp] theorem State.modRes_link (i : SiteId) (f : SiteResults → SiteResults) : (s.modRes i f).link = s.link := rfl
@[simp] theorem State.modRes_sites (i : SiteId) (f : SiteResults → SiteResults) :
    (s.modRes i f).sites = s.sites := rfl
@[simp] theorem State.modRes_ports (i : SiteId) (f : SiteResults → SiteResults) :
    (s.modRes i f).ports = s.ports := rfl
@[simp] theorem State.modRes_lanes (i : SiteId) (f : SiteResults → SiteResults) :
    (s.modRes i f).lanes = s.lanes := rfl
@[simp] theorem State.modRes_laneWaiters (i : SiteId) (f : SiteResults → SiteResults) :
    (s.modRes i f).laneWaiters = s.laneWaiters := rfl
@[simp] theorem State.modRes_meter (i : SiteId) (f : SiteResults → SiteResults) :
    (s.modRes i f).meter = s.meter := rfl
@[simp] theorem State.modRes_results (i : SiteId) (f : SiteResults → SiteResults) :
    (s.modRes i f).results = { s.results with sites := upd s.results.sites i f } := rfl
@[simp] theorem State.modRes_health (i : SiteId) (f : SiteResults → SiteResults) :
    (s.modRes i f).health = s.health := rfl
@[simp] theorem State.modRes_time (i : SiteId) (f : SiteResults → SiteResults) : (s.modRes i f).time = s.time := rfl
@[simp] theorem State.modRes_store (i : SiteId) (f : SiteResults → SiteResults) :
    (s.modRes i f).store = s.store := rfl
@[simp] theorem State.modRes_resetReq (i : SiteId) (f : SiteResults → SiteResults) :
    (s.modRes i f).resetReq = s.resetReq := rfl
@[simp] theorem State.modRes_agenda (i : SiteId) (f : SiteResults → SiteResults) :
    (s.modRes i f).agenda = s.agenda := rfl
@[simp] theorem State.modRes_freeReads (i : SiteId) (f : SiteResults → SiteResults) :
    (s.modRes i f).freeReads = s.freeReads := rfl
@[simp] theorem State.modRes_pending (i : SiteId) (f : SiteResults → SiteResults) :
    (s.modRes i f).pending = s.pending := rfl

/-! ### modWear -/

@[simp] theorem State.modWear_powered (l : LaneId) (f : LaneHealth → LaneHealth) :
    (s.modWear l f).powered = s.powered := rfl
@[simp] theorem State.modWear_freeze (l : LaneId) (f : LaneHealth → LaneHealth) :
    (s.modWear l f).freeze = s.freeze := rfl
@[simp] theorem State.modWear_pins (l : LaneId) (f : LaneHealth → LaneHealth) : (s.modWear l f).pins = s.pins := rfl
@[simp] theorem State.modWear_link (l : LaneId) (f : LaneHealth → LaneHealth) : (s.modWear l f).link = s.link := rfl
@[simp] theorem State.modWear_sites (l : LaneId) (f : LaneHealth → LaneHealth) :
    (s.modWear l f).sites = s.sites := rfl
@[simp] theorem State.modWear_ports (l : LaneId) (f : LaneHealth → LaneHealth) :
    (s.modWear l f).ports = s.ports := rfl
@[simp] theorem State.modWear_lanes (l : LaneId) (f : LaneHealth → LaneHealth) :
    (s.modWear l f).lanes = s.lanes := rfl
@[simp] theorem State.modWear_laneWaiters (l : LaneId) (f : LaneHealth → LaneHealth) :
    (s.modWear l f).laneWaiters = s.laneWaiters := rfl
@[simp] theorem State.modWear_meter (l : LaneId) (f : LaneHealth → LaneHealth) :
    (s.modWear l f).meter = s.meter := rfl
@[simp] theorem State.modWear_results (l : LaneId) (f : LaneHealth → LaneHealth) :
    (s.modWear l f).results = s.results := rfl
@[simp] theorem State.modWear_health (l : LaneId) (f : LaneHealth → LaneHealth) :
    (s.modWear l f).health = { s.health with lanes := upd s.health.lanes l f } := rfl
@[simp] theorem State.modWear_time (l : LaneId) (f : LaneHealth → LaneHealth) : (s.modWear l f).time = s.time := rfl
@[simp] theorem State.modWear_store (l : LaneId) (f : LaneHealth → LaneHealth) :
    (s.modWear l f).store = s.store := rfl
@[simp] theorem State.modWear_resetReq (l : LaneId) (f : LaneHealth → LaneHealth) :
    (s.modWear l f).resetReq = s.resetReq := rfl
@[simp] theorem State.modWear_agenda (l : LaneId) (f : LaneHealth → LaneHealth) :
    (s.modWear l f).agenda = s.agenda := rfl
@[simp] theorem State.modWear_freeReads (l : LaneId) (f : LaneHealth → LaneHealth) :
    (s.modWear l f).freeReads = s.freeReads := rfl
@[simp] theorem State.modWear_pending (l : LaneId) (f : LaneHealth → LaneHealth) :
    (s.modWear l f).pending = s.pending := rfl

/-! ### push -/

@[simp] theorem State.push_powered (t : Task) : (s.push t).powered = s.powered := rfl
@[simp] theorem State.push_freeze (t : Task) : (s.push t).freeze = s.freeze := rfl
@[simp] theorem State.push_pins (t : Task) : (s.push t).pins = s.pins := rfl
@[simp] theorem State.push_link (t : Task) : (s.push t).link = s.link := rfl
@[simp] theorem State.push_sites (t : Task) : (s.push t).sites = s.sites := rfl
@[simp] theorem State.push_ports (t : Task) : (s.push t).ports = s.ports := rfl
@[simp] theorem State.push_lanes (t : Task) : (s.push t).lanes = s.lanes := rfl
@[simp] theorem State.push_laneWaiters (t : Task) : (s.push t).laneWaiters = s.laneWaiters := rfl
@[simp] theorem State.push_meter (t : Task) : (s.push t).meter = s.meter := rfl
@[simp] theorem State.push_results (t : Task) : (s.push t).results = s.results := rfl
@[simp] theorem State.push_health (t : Task) : (s.push t).health = s.health := rfl
@[simp] theorem State.push_time (t : Task) : (s.push t).time = s.time := rfl
@[simp] theorem State.push_store (t : Task) : (s.push t).store = s.store := rfl
@[simp] theorem State.push_resetReq (t : Task) : (s.push t).resetReq = s.resetReq := rfl
@[simp] theorem State.push_agenda (t : Task) : (s.push t).agenda = insertTask t s.agenda := rfl
@[simp] theorem State.push_freeReads (t : Task) : (s.push t).freeReads = s.freeReads := rfl
@[simp] theorem State.push_pending (t : Task) : (s.push t).pending = s.pending := rfl

@[simp] theorem insertTask_nil (t : Task) : insertTask t [] = [t] := rfl
@[simp] theorem insertTask_cons (t u : Task) (us : List Task) :
    insertTask t (u :: us) = if t.rank < u.rank then t :: u :: us else u :: insertTask t us := rfl

/-! ### drew -/

@[simp] theorem State.drew_powered (n : Nat) : (s.drew n).powered = s.powered := rfl
@[simp] theorem State.drew_freeze (n : Nat) : (s.drew n).freeze = s.freeze := rfl
@[simp] theorem State.drew_pins (n : Nat) : (s.drew n).pins = s.pins := rfl
@[simp] theorem State.drew_link (n : Nat) : (s.drew n).link = s.link := rfl
@[simp] theorem State.drew_sites (n : Nat) : (s.drew n).sites = s.sites := rfl
@[simp] theorem State.drew_ports (n : Nat) : (s.drew n).ports = s.ports := rfl
@[simp] theorem State.drew_lanes (n : Nat) : (s.drew n).lanes = s.lanes := rfl
@[simp] theorem State.drew_laneWaiters (n : Nat) : (s.drew n).laneWaiters = s.laneWaiters := rfl
@[simp] theorem State.drew_meter (n : Nat) : (s.drew n).meter = s.meter := rfl
@[simp] theorem State.drew_results (n : Nat) : (s.drew n).results = s.results := rfl
@[simp] theorem State.drew_health (n : Nat) : (s.drew n).health = s.health := rfl
@[simp] theorem State.drew_time (n : Nat) : (s.drew n).time = s.time := rfl
@[simp] theorem State.drew_store (n : Nat) : (s.drew n).store = s.store := rfl
@[simp] theorem State.drew_resetReq (n : Nat) : (s.drew n).resetReq = s.resetReq := rfl
@[simp] theorem State.drew_agenda (n : Nat) : (s.drew n).agenda = s.agenda := rfl
@[simp] theorem State.drew_freeReads (n : Nat) : (s.drew n).freeReads = s.freeReads + n := rfl
@[simp] theorem State.drew_pending (n : Nat) : (s.drew n).pending = s.pending := rfl

/-! ### withPending -/

@[simp] theorem State.withPending_powered (l : List Instr) : (s.withPending l).powered = s.powered := rfl
@[simp] theorem State.withPending_freeze (l : List Instr) : (s.withPending l).freeze = s.freeze := rfl
@[simp] theorem State.withPending_pins (l : List Instr) : (s.withPending l).pins = s.pins := rfl
@[simp] theorem State.withPending_link (l : List Instr) : (s.withPending l).link = s.link := rfl
@[simp] theorem State.withPending_sites (l : List Instr) : (s.withPending l).sites = s.sites := rfl
@[simp] theorem State.withPending_ports (l : List Instr) : (s.withPending l).ports = s.ports := rfl
@[simp] theorem State.withPending_lanes (l : List Instr) : (s.withPending l).lanes = s.lanes := rfl
@[simp] theorem State.withPending_laneWaiters (l : List Instr) : (s.withPending l).laneWaiters = s.laneWaiters := rfl
@[simp] theorem State.withPending_meter (l : List Instr) : (s.withPending l).meter = s.meter := rfl
@[simp] theorem State.withPending_results (l : List Instr) : (s.withPending l).results = s.results := rfl
@[simp] theorem State.withPending_health (l : List Instr) : (s.withPending l).health = s.health := rfl
@[simp] theorem State.withPending_time (l : List Instr) : (s.withPending l).time = s.time := rfl
@[simp] theorem State.withPending_store (l : List Instr) : (s.withPending l).store = s.store := rfl
@[simp] theorem State.withPending_resetReq (l : List Instr) : (s.withPending l).resetReq = s.resetReq := rfl
@[simp] theorem State.withPending_agenda (l : List Instr) : (s.withPending l).agenda = s.agenda := rfl
@[simp] theorem State.withPending_freeReads (l : List Instr) : (s.withPending l).freeReads = s.freeReads := rfl
@[simp] theorem State.withPending_pending (l : List Instr) : (s.withPending l).pending = l := rfl

/-! ### replyWith -/

@[simp] theorem State.replyWith_powered (r : Reply) : (s.replyWith r).powered = s.powered := rfl
@[simp] theorem State.replyWith_freeze (r : Reply) : (s.replyWith r).freeze = s.freeze := rfl
@[simp] theorem State.replyWith_pins (r : Reply) : (s.replyWith r).pins = s.pins := rfl
@[simp] theorem State.replyWith_link (r : Reply) :
    (s.replyWith r).link = { s.link with replies := s.link.replies ++ [r] } := rfl
@[simp] theorem State.replyWith_sites (r : Reply) : (s.replyWith r).sites = s.sites := rfl
@[simp] theorem State.replyWith_ports (r : Reply) : (s.replyWith r).ports = s.ports := rfl
@[simp] theorem State.replyWith_lanes (r : Reply) : (s.replyWith r).lanes = s.lanes := rfl
@[simp] theorem State.replyWith_laneWaiters (r : Reply) : (s.replyWith r).laneWaiters = s.laneWaiters := rfl
@[simp] theorem State.replyWith_meter (r : Reply) : (s.replyWith r).meter = s.meter := rfl
@[simp] theorem State.replyWith_results (r : Reply) : (s.replyWith r).results = s.results := rfl
@[simp] theorem State.replyWith_health (r : Reply) : (s.replyWith r).health = s.health := rfl
@[simp] theorem State.replyWith_time (r : Reply) : (s.replyWith r).time = s.time := rfl
@[simp] theorem State.replyWith_store (r : Reply) : (s.replyWith r).store = s.store := rfl
@[simp] theorem State.replyWith_resetReq (r : Reply) : (s.replyWith r).resetReq = s.resetReq := rfl
@[simp] theorem State.replyWith_agenda (r : Reply) : (s.replyWith r).agenda = s.agenda := rfl
@[simp] theorem State.replyWith_freeReads (r : Reply) : (s.replyWith r).freeReads = s.freeReads := rfl
@[simp] theorem State.replyWith_pending (r : Reply) : (s.replyWith r).pending = s.pending := rfl

/-! ### reply -/

@[simp] theorem State.reply_powered (k t i : Byte) (c : ReplyCode) (d : List Byte) :
    (s.reply k t i c d).powered = s.powered := rfl
@[simp] theorem State.reply_freeze (k t i : Byte) (c : ReplyCode) (d : List Byte) :
    (s.reply k t i c d).freeze = s.freeze := rfl
@[simp] theorem State.reply_pins (k t i : Byte) (c : ReplyCode) (d : List Byte) :
    (s.reply k t i c d).pins = s.pins := rfl
@[simp] theorem State.reply_link (k t i : Byte) (c : ReplyCode) (d : List Byte) :
    (s.reply k t i c d).link = { s.link with replies := s.link.replies ++ [⟨k, t, i, c, d, false⟩] } := rfl
@[simp] theorem State.reply_sites (k t i : Byte) (c : ReplyCode) (d : List Byte) :
    (s.reply k t i c d).sites = s.sites := rfl
@[simp] theorem State.reply_ports (k t i : Byte) (c : ReplyCode) (d : List Byte) :
    (s.reply k t i c d).ports = s.ports := rfl
@[simp] theorem State.reply_lanes (k t i : Byte) (c : ReplyCode) (d : List Byte) :
    (s.reply k t i c d).lanes = s.lanes := rfl
@[simp] theorem State.reply_laneWaiters (k t i : Byte) (c : ReplyCode) (d : List Byte) :
    (s.reply k t i c d).laneWaiters = s.laneWaiters := rfl
@[simp] theorem State.reply_meter (k t i : Byte) (c : ReplyCode) (d : List Byte) :
    (s.reply k t i c d).meter = s.meter := rfl
@[simp] theorem State.reply_results (k t i : Byte) (c : ReplyCode) (d : List Byte) :
    (s.reply k t i c d).results = s.results := rfl
@[simp] theorem State.reply_health (k t i : Byte) (c : ReplyCode) (d : List Byte) :
    (s.reply k t i c d).health = s.health := rfl
@[simp] theorem State.reply_time (k t i : Byte) (c : ReplyCode) (d : List Byte) :
    (s.reply k t i c d).time = s.time := rfl
@[simp] theorem State.reply_store (k t i : Byte) (c : ReplyCode) (d : List Byte) :
    (s.reply k t i c d).store = s.store := rfl
@[simp] theorem State.reply_resetReq (k t i : Byte) (c : ReplyCode) (d : List Byte) :
    (s.reply k t i c d).resetReq = s.resetReq := rfl
@[simp] theorem State.reply_agenda (k t i : Byte) (c : ReplyCode) (d : List Byte) :
    (s.reply k t i c d).agenda = s.agenda := rfl
@[simp] theorem State.reply_freeReads (k t i : Byte) (c : ReplyCode) (d : List Byte) :
    (s.reply k t i c d).freeReads = s.freeReads := rfl
@[simp] theorem State.reply_pending (k t i : Byte) (c : ReplyCode) (d : List Byte) :
    (s.reply k t i c d).pending = s.pending := rfl

/-! ### notice: only the link changes (R193) -/

@[simp] theorem State.notice_powered (n : Notice) : (s.notice n).powered = s.powered := by unfold State.notice; split <;> rfl
@[simp] theorem State.notice_freeze (n : Notice) : (s.notice n).freeze = s.freeze := by unfold State.notice; split <;> rfl
@[simp] theorem State.notice_pins (n : Notice) : (s.notice n).pins = s.pins := by unfold State.notice; split <;> rfl
@[simp] theorem State.notice_sites (n : Notice) : (s.notice n).sites = s.sites := by unfold State.notice; split <;> rfl
@[simp] theorem State.notice_ports (n : Notice) : (s.notice n).ports = s.ports := by unfold State.notice; split <;> rfl
@[simp] theorem State.notice_lanes (n : Notice) : (s.notice n).lanes = s.lanes := by unfold State.notice; split <;> rfl
@[simp] theorem State.notice_laneWaiters (n : Notice) : (s.notice n).laneWaiters = s.laneWaiters := by unfold State.notice; split <;> rfl
@[simp] theorem State.notice_meter (n : Notice) : (s.notice n).meter = s.meter := by unfold State.notice; split <;> rfl
@[simp] theorem State.notice_results (n : Notice) : (s.notice n).results = s.results := by unfold State.notice; split <;> rfl
@[simp] theorem State.notice_health (n : Notice) : (s.notice n).health = s.health := by unfold State.notice; split <;> rfl
@[simp] theorem State.notice_time (n : Notice) : (s.notice n).time = s.time := by unfold State.notice; split <;> rfl
@[simp] theorem State.notice_store (n : Notice) : (s.notice n).store = s.store := by unfold State.notice; split <;> rfl
@[simp] theorem State.notice_resetReq (n : Notice) : (s.notice n).resetReq = s.resetReq := by unfold State.notice; split <;> rfl
@[simp] theorem State.notice_agenda (n : Notice) : (s.notice n).agenda = s.agenda := by unfold State.notice; split <;> rfl
@[simp] theorem State.notice_freeReads (n : Notice) : (s.notice n).freeReads = s.freeReads := by unfold State.notice; split <;> rfl
@[simp] theorem State.notice_pending (n : Notice) : (s.notice n).pending = s.pending := by unfold State.notice; split <;> rfl

/-! ### noteClosure: only the agenda changes -/

@[simp] theorem State.noteClosure_powered (i : SiteId) (c : Cause) : (s.noteClosure i c).powered = s.powered := by
  unfold State.noteClosure; split <;> rfl
@[simp] theorem State.noteClosure_freeze (i : SiteId) (c : Cause) : (s.noteClosure i c).freeze = s.freeze := by
  unfold State.noteClosure; split <;> rfl
@[simp] theorem State.noteClosure_pins (i : SiteId) (c : Cause) : (s.noteClosure i c).pins = s.pins := by
  unfold State.noteClosure; split <;> rfl
@[simp] theorem State.noteClosure_link (i : SiteId) (c : Cause) : (s.noteClosure i c).link = s.link := by
  unfold State.noteClosure; split <;> rfl
@[simp] theorem State.noteClosure_sites (i : SiteId) (c : Cause) : (s.noteClosure i c).sites = s.sites := by
  unfold State.noteClosure; split <;> rfl
@[simp] theorem State.noteClosure_ports (i : SiteId) (c : Cause) : (s.noteClosure i c).ports = s.ports := by
  unfold State.noteClosure; split <;> rfl
@[simp] theorem State.noteClosure_lanes (i : SiteId) (c : Cause) : (s.noteClosure i c).lanes = s.lanes := by
  unfold State.noteClosure; split <;> rfl
@[simp] theorem State.noteClosure_laneWaiters (i : SiteId) (c : Cause) : (s.noteClosure i c).laneWaiters = s.laneWaiters := by
  unfold State.noteClosure; split <;> rfl
@[simp] theorem State.noteClosure_meter (i : SiteId) (c : Cause) : (s.noteClosure i c).meter = s.meter := by
  unfold State.noteClosure; split <;> rfl
@[simp] theorem State.noteClosure_results (i : SiteId) (c : Cause) : (s.noteClosure i c).results = s.results := by
  unfold State.noteClosure; split <;> rfl
@[simp] theorem State.noteClosure_health (i : SiteId) (c : Cause) : (s.noteClosure i c).health = s.health := by
  unfold State.noteClosure; split <;> rfl
@[simp] theorem State.noteClosure_time (i : SiteId) (c : Cause) : (s.noteClosure i c).time = s.time := by
  unfold State.noteClosure; split <;> rfl
@[simp] theorem State.noteClosure_store (i : SiteId) (c : Cause) : (s.noteClosure i c).store = s.store := by
  unfold State.noteClosure; split <;> rfl
@[simp] theorem State.noteClosure_resetReq (i : SiteId) (c : Cause) : (s.noteClosure i c).resetReq = s.resetReq := by
  unfold State.noteClosure; split <;> rfl
@[simp] theorem State.noteClosure_freeReads (i : SiteId) (c : Cause) : (s.noteClosure i c).freeReads = s.freeReads := by
  unfold State.noteClosure; split <;> rfl
@[simp] theorem State.noteClosure_pending (i : SiteId) (c : Cause) : (s.noteClosure i c).pending = s.pending := by
  unfold State.noteClosure; split <;> rfl

/-- A closing that is not noted yet joins the agenda in its turn. -/
theorem State.noteClosure_agenda (i : SiteId) (c : Cause) (h : s.closing i = false) :
    (s.noteClosure i c).agenda = insertTask (.closure i c) s.agenda := by
  simp [State.noteClosure, h]

@[simp] theorem State.closing_nil (i : SiteId) (h : s.agenda = []) : s.closing i = false := by simp [State.closing, h]

/-! ### Two updates of one record -/

@[simp] theorem State.modLink_modLink (f g : Link → Link) : (s.modLink f).modLink g = s.modLink fun k => g (f k) := rfl
@[simp] theorem State.modTime_modTime (f g : TimeBase → TimeBase) :
    (s.modTime f).modTime g = s.modTime fun b => g (f b) := rfl
@[simp] theorem State.modStore_modStore (f g : Store → Store) :
    (s.modStore f).modStore g = s.modStore fun b => g (f b) := rfl

/-! ### Access to a vector entry after an update -/

theorem upd_getElem {α : Type} {n : Nat} (v : Vector α n) (i : Fin n) (f : α → α) (k : Nat) (hk : k < n) :
    (upd v i f)[k] = if i.val = k then f v[k] else v[k] := by
  simp only [upd, Fin.getElem_fin, Vector.getElem_set]
  split
  · next h => subst h; rfl
  · rfl

theorem upd_get {α : Type} {n : Nat} (v : Vector α n) (i j : Fin n) (f : α → α) :
    (upd v i f)[j] = if i = j then f v[j] else v[j] := by
  simp only [Fin.getElem_fin, upd_getElem, Fin.ext_iff]

@[simp] theorem upd_getElem_self {α : Type} {n : Nat} (v : Vector α n) (i : Fin n) (f : α → α) :
    (upd v i f)[i.val] = f v[i.val] := by rw [upd_getElem]; simp

theorem upd_getElem_ne {α : Type} {n : Nat} (v : Vector α n) {i j : Fin n} (f : α → α) (h : i ≠ j) :
    (upd v i f)[j.val] = v[j.val] := by rw [upd_getElem, if_neg]; exact fun e => h (Fin.ext e)

@[simp] theorem upd_upd {α : Type} {n : Nat} (v : Vector α n) (i : Fin n) (f g : α → α) :
    upd (upd v i f) i g = upd v i fun x => g (f x) := by
  simp [upd]

theorem upd_id {α : Type} {n : Nat} (v : Vector α n) (i : Fin n) (f : α → α) (h : f v[i] = v[i]) : upd v i f = v := by
  simp only [upd, h]; simp

end Sys2Proof.Machine
end

