-- ==== Sys2Proof/Laws/Settle.lean ====
section
/-! SUPPORT. The end of an event: what `drain`, `settle` and `finish` come to when no follow-up is left and nothing waits
for a place, and what a request comes to that is answered at its dispatch. -/

namespace Sys2Proof.Machine

theorem drain_nil (n : Nat) (s : State) (h : s.agenda = []) : drain n s = s := by
  cases n with
  | zero => rfl
  | succ n => simp [drain, h]

theorem drain_cons (n : Nat) (s : State) (t : Task) (ts : List Task) (h : s.agenda = t :: ts) :
    drain (n + 1) s = drain n (({ s with agenda := ts } : State).runTask t) := by
  simp [drain, h]

theorem State.dispatchOne_nil (s : State) (h : s.link.slots = []) : s.dispatchOne = s := by
  simp [State.dispatchOne, h]

theorem State.admitDone_nil (s : State) (h : s.link.doneWaiting = []) : s.admitDone = s := by
  simp [State.admitDone, h]

theorem State.admitBlock_nil (s : State) (h : s.results.waiting = []) : s.admitBlock = s := by
  simp [State.admitBlock, h]

/-- A single follow-up that changes nothing leaves the state with an empty agenda. -/
theorem drain_one (n : Nat) (s u : State) (t : Task) (h : s = u.push t) (ha : u.agenda = []) (hr : u.runTask t = u) :
    drain (n + 1) s = u := by
  have e : ({ s with agenda := [] } : State) = u := by
    subst h; cases u; simp only at ha; subst ha; rfl
  have hs : s.agenda = t :: [] := by rw [h]; simp [ha]
  rw [drain_cons n s t [] hs, e, hr, drain_nil _ _ ha]

@[simp] theorem State.beginFrame_agenda (f : TxFrame) (s : State) : (s.beginFrame f).agenda = s.agenda := by
  cases f <;> rfl

@[simp] theorem State.beginFrame_slots (f : TxFrame) (s : State) : (s.beginFrame f).link.slots = s.link.slots := by
  cases f <;> rfl

@[simp] theorem State.beginFrame_doneWaiting (f : TxFrame) (s : State) :
    (s.beginFrame f).link.doneWaiting = s.link.doneWaiting := by cases f <;> rfl

@[simp] theorem State.beginFrame_waiting (f : TxFrame) (s : State) :
    (s.beginFrame f).results.waiting = s.results.waiting := by cases f <;> rfl

@[simp] theorem State.transmit_agenda (s : State) : s.transmit.agenda = s.agenda := by
  unfold State.transmit
  split
  · split
    · simp
    · rfl
  · rfl

/-- With nothing waiting for a place, an event ends with the transmitter's choice. -/
theorem State.settle_noBacklog (s : State) (h : s.noBacklog) : s.settle = s.transmit := by
  obtain ⟨ha, hs, hd, hw⟩ := h
  unfold State.settle State.pump State.transmit
  rw [drain_nil _ s ha]
  split
  · cases hf : s.nextFrame with
    | none => simp only; rw [drain_nil _ s ha]
    | some f =>
      cases f with
      | reply r =>
        exact drain_one _ _ _ .dispatch rfl (by simp [ha]) (State.dispatchOne_nil _ (by simp [hs]))
      | done d =>
        exact drain_one _ _ _ .admitDone rfl (by simp [ha]) (State.admitDone_nil _ (by simp [hd]))
      | notice e =>
        simp only [State.placeFreed]
        rw [drain_nil _ _ (by simp [ha])]
      | result b =>
        simp only [State.placeFreed]
        rw [State.admitBlock_nil _ (by simp [hw]), drain_nil _ _ (by simp [ha])]
  · rw [drain_nil _ s ha]

theorem State.finish_noBacklog (s : State) (h : s.noBacklog) : s.finish = .next s.transmit := by
  unfold State.finish
  rw [State.settle_noBacklog s h, if_pos]
  rw [State.transmit_agenda]; exact h.1

/-- An event of a part with power that leaves nothing waiting. -/
theorem event_next (f : State → State) (s : State) (hp : s.powered = true) (h : (f s).noBacklog) :
    event f s = .next (f s).transmit := by
  simp [event, hp, State.finish_noBacklog _ h]

theorem receiverEvent_next (f : State → State) (s : State) (hp : s.powered = true) (hl : s.linkUp = true)
    (h : (f s).noBacklog) : receiverEvent f s = .next (f s).transmit := by
  unfold receiverEvent
  rw [event_next _ s hp (by simpa [hl] using h)]
  simp [hl]

theorem inputEvent_next (p : Pins → Pins) (f : State → State) (s : State) (hp : s.powered = true)
    (h : (f s).noBacklog) : inputEvent p f s = .next (f s).transmit := by
  simp [inputEvent, hp, State.finish_noBacklog _ h]

/-- A step of an event that ends in a next state has an empty agenda. -/
theorem State.finish_agenda (s t : State) (h : s.finish = .next t) : t.agenda = [] := by
  unfold State.finish at h
  split at h
  · next ha => cases h; exact ha
  · cases h

/-! ### A request answered at its dispatch -/

theorem State.nextFrame_reply (s : State) (r : Reply) (rs : List Reply) (h : s.link.replies = r :: rs) :
    s.nextFrame = some (.reply r) := by simp [State.nextFrame, h]

/-- With a reply in the queue and no frame in the slots, an event ends with the transmitter's choice. -/
theorem State.settle_reply (s : State) (ha : s.agenda = []) (hs : s.link.slots = []) (hr : s.link.replies ≠ []) :
    s.settle = s.transmit := by
  unfold State.settle State.pump State.transmit
  rw [drain_nil _ s ha]
  split
  · obtain ⟨r, rs, h⟩ := List.exists_cons_of_ne_nil hr
    rw [State.nextFrame_reply s r rs h]
    exact drain_one _ _ _ .dispatch rfl (by simp [ha]) (State.dispatchOne_nil _ (by simp [hs]))
  · rw [drain_nil _ s ha]

@[simp] theorem State.silenceFrame_link (s : State) : s.silenceFrame.link = s.link := by
  unfold State.silenceFrame; split <;> rfl

@[simp] theorem State.silenceFrame_agenda (s : State) : s.silenceFrame.agenda = s.agenda := by
  unfold State.silenceFrame; split <;> rfl

@[simp] theorem State.silenceFrame_linkUp (s : State) : s.silenceFrame.linkUp = s.linkUp := by
  unfold State.silenceFrame; split <;> rfl

/-- An update of the link is what it makes of the link as it stands. -/
theorem State.modLink_congr (s : State) (f g : Link → Link) (h : f s.link = g s.link) : s.modLink f = s.modLink g := by
  simp [State.modLink, h]

/-- Clearing the agenda of a state with a noted follow-up. -/
theorem State.push_clear (u : State) (t : Task) (h : u.agenda = []) : ({ u.push t with agenda := [] } : State) = u := by
  cases u; simp only at h; subst h; rfl

/-- The arrival of a good frame at a part that is ready: its dispatch is the first follow-up. -/
theorem State.receiveGood_drain (f : Frame) (s : State) (n : Nat) (h : s.ready) :
    drain (n + 1) (s.receiveGood f) = drain n ((s.arrive.judge f).afterDispatch f) := by
  obtain ⟨-, hl, hag, hsl, hres⟩ := h
  have hgood : s.receiveGood f =
      ((s.modLink fun k => { k with rx := .hunting, slots := [f] }).silenceFrame).push .dispatch := by
    unfold State.receiveGood
    rw [if_neg (by simp [hsl, Config.receiveSlots])]
    rw [State.modLink_congr s _ (fun k => { k with rx := .hunting, slots := [f] }) (by simp [hsl])]
  generalize hu : ((s.modLink fun k => { k with rx := .hunting, slots := [f] }).silenceFrame) = u at hgood
  have hua : u.agenda = [] := by rw [← hu]; simpa using hag
  have hul : u.link = { s.link with rx := .hunting, slots := [f] } := by rw [← hu]; simp
  have hup : u.linkUp = true := by rw [← hu, State.silenceFrame_linkUp]; exact hl
  have har : u.modLink (fun k => { k with slots := [], reserved := k.reserved + 1 }) = s.arrive := by
    rw [← hu]
    unfold State.arrive State.silenceFrame
    simp only [State.modLink_time]
    split <;> rfl
  have hdisp : u.dispatchOne = (s.arrive.judge f).afterDispatch f := by
    unfold State.dispatchOne
    rw [hul]
    simp only [hup, Bool.true_and]
    rw [if_pos (show decide (s.link.reserved < Config.replyPlaces) = true from decide_eq_true hres), har]
  rw [hgood, drain_cons n _ .dispatch [] (by simp [hua]), State.push_clear u _ hua]
  simp only [State.runTask, hdisp]

/-- An event whose follow-ups come to a state with a reply in the queue and no frame in the slots. -/
theorem State.finish_of_drain (s v : State) (hd : drain Config.cascadeBound s = v) (hva : v.agenda = [])
    (hvs : v.link.slots = []) (hvr : v.link.replies ≠ []) : s.finish = .next v.transmit := by
  have hset : s.settle = v.transmit := by
    have e := State.settle_reply v hva hvs hvr
    unfold State.settle at e ⊢
    rw [drain_nil Config.cascadeBound v hva] at e
    rw [hd, e]
  unfold State.finish
  rw [hset, if_pos]
  rw [State.transmit_agenda]; exact hva

/-- The arrival of a good frame at a part that is ready: it is judged at once, sets the marker, and the event ends. -/
theorem State.receiveGood_finish (f : Frame) (s : State) (h : s.ready) (ha : (s.arrive.judge f).agenda = [])
    (hs : (s.arrive.judge f).link.slots = []) (hr : (s.arrive.judge f).link.replies ≠ []) :
    (s.receiveGood f).finish = .next ((s.arrive.judge f).marked f.kind f.site) := by
  refine State.finish_of_drain _ _ ?_ ha hs hr
  rw [show Config.cascadeBound = 4095 + 1 from rfl, State.receiveGood_drain f s 4095 h]
  exact drain_one 4094 _ _ .dispatch rfl ha (State.dispatchOne_nil _ hs)

/-- The same for a frame after which a site looks whether its head step starts, and does not start it (R9). -/
theorem State.receiveGood_finish_next (f : Frame) (s v : State) (i : SiteId) (h : s.ready)
    (hj : s.arrive.judge f = v.push (.next i)) (ha : v.agenda = []) (hs : v.link.slots = []) (hr : v.link.replies ≠ [])
    (hm : v.mayStart i = false) : (s.receiveGood f).finish = .next (v.marked f.kind f.site) := by
  refine State.finish_of_drain _ _ ?_ ha hs hr
  rw [show Config.cascadeBound = 4095 + 1 from rfl, State.receiveGood_drain f s 4095 h, hj,
    drain_cons 4094 _ (.next i) [.dispatch] (by
      have h4 : (i : Nat) < 4 := i.isLt
      simp only [State.afterDispatch, State.push_agenda, State.modLink_agenda, ha, insertTask_nil, insertTask_cons]
      rw [if_neg (by simp only [Task.rank]; omega)])]
  generalize hw : v.modLink (fun k => { k with marker := some (f.kind, f.site) }) = w
  have hwa : w.agenda = [] := by rw [← hw]; exact ha
  have hwm : (w.push .dispatch).mayStart i = false := by rw [← hw]; exact hm
  have e : ({ (v.push (.next i)).afterDispatch f with agenda := [.dispatch] } : State) = w.push .dispatch := by
    rw [← hw]
    cases v; simp only at ha; subst ha; rfl
  rw [e]
  have ht : (w.push .dispatch).runTask (.next i) = w.push .dispatch := by
    simp only [State.runTask, State.tryStart, hwm, Bool.false_eq_true, if_false]
  rw [ht]
  exact drain_one 4093 _ w .dispatch rfl hwa (State.dispatchOne_nil _ (by rw [← hw]; exact hs))

/-- A request that a ready part answers at its dispatch. -/
theorem request_next (r : Request) (tag site : Byte) (s : State) (h : s.ready)
    (hc : checkFrame (requestFrame r tag site) = .ok r)
    (ha : (s.arrive.takeRequest r ⟨tag, site⟩).agenda = [])
    (hs : (s.arrive.takeRequest r ⟨tag, site⟩).link.slots = [])
    (hr : (s.arrive.takeRequest r ⟨tag, site⟩).link.replies ≠ []) :
    request r tag site s = .next ((s.arrive.takeRequest r ⟨tag, site⟩).marked (requestKind r) site) := by
  have hj : s.arrive.judge (requestFrame r tag site) = s.arrive.takeRequest r ⟨tag, site⟩ := by
    unfold State.judge
    rw [hc]
    rfl
  have := State.receiveGood_finish (requestFrame r tag site) s h (by rw [hj]; exact ha) (by rw [hj]; exact hs)
    (by rw [hj]; exact hr)
  rw [hj] at this
  unfold request event
  simp only [h.1, h.2.1, if_true]
  exact this

/-! ### The agenda's order (log entries 6 and 36) -/

/-- A follow-up that is noted joins those that wait, and nothing else changes among them. -/
theorem mem_insertTask (t u : Task) (l : List Task) : u ∈ insertTask t l ↔ u = t ∨ u ∈ l := by
  induction l with
  | nil => simp
  | cons v vs ih =>
    rw [insertTask_cons]; split
    · simp
    · rw [List.mem_cons, ih, List.mem_cons]; exact or_left_comm

/-- An agenda in the order of its ranks stays so when a follow-up is noted: DONEs and closings stand in ascending site
order (R138, R192). -/
theorem insertTask_ranked (t : Task) (l : List Task) (h : l.Pairwise fun u v => u.rank ≤ v.rank) :
    (insertTask t l).Pairwise fun u v => u.rank ≤ v.rank := by
  induction l with
  | nil => simp
  | cons v vs ih =>
    obtain ⟨hv, hs⟩ := List.pairwise_cons.mp h
    rw [insertTask_cons]; split
    case isTrue hlt =>
      refine List.pairwise_cons.mpr ⟨fun u hu => ?_, h⟩
      rcases List.mem_cons.mp hu with rfl | hu
      · omega
      · exact le_trans hlt.le (hv u hu)
    case isFalse hge =>
      refine List.pairwise_cons.mpr ⟨fun u hu => ?_, ih hs⟩
      rcases (mem_insertTask t u vs).mp hu with rfl | hu
      · omega
      · exact hv u hu

/-- A site without a running step has neither a room waiter nor a flush waiter (R135, R141). -/
theorem State.serveWaiting_idle (s : State) (i : SiteId) (h : s.sites[i].running = none) : s.serveWaiting i = s := by
  have ha : s.active i = none := by
    unfold State.active
    split
    case h_1 hr => rw [h] at hr; cases hr
    case h_2 => rfl
  rw [State.serveWaiting, ha]

/-- A DONE in its turn (R192): it enters the completion queue, or joins the completion waiting list. -/
theorem State.handleDone_cases (s : State) (d : DoneFrame) :
    s.handleDone d = s.enterDone d ∨
      s.handleDone d = s.modLink fun k => { k with doneWaiting := k.doneWaiting ++ [d] } := by
  unfold State.handleDone; split <;> simp

end Sys2Proof.Machine
end

