-- ==== Sys2Proof/Laws/Startup.lean ====
section
/-! SUPPORT. What a start-up leaves, field by field: every block is as its items load it, but for HEALTH's recomputation and
the notices (R182); and what a store item reads as after it is written or spoilt (R175, R178). -/

namespace Sys2Proof.Machine

/-! ### Store items -/

/-- An item that matches its check reads as its content. -/
theorem Item.read_of_check {α : Type} (b : α → List Byte) {c : α} {k : BitVec 16} (h : crc16 (b c) = k) :
    Item.read b ⟨c, k⟩ = some c := if_pos h.symm

/-- An item that was written reads as its content. -/
@[simp] theorem Item.read_write {α : Type} (b : α → List Byte) (c : α) : (Item.write b c).read b = some c := by
  simp [Item.read, Item.write]

/-- A spoilt item fails its check. -/
@[simp] theorem Item.read_spoil {α : Type} (b : α → List Byte) (x : Item α) : (x.spoil b).read b = none := by
  have h : ∀ v : BitVec 16, ¬(~~~v = v) := by
    intro v hv
    have := congrArg (fun w : BitVec 16 => w.getLsbD 0) hv
    simp at this
  simp [Item.read, Item.spoil, h]

/-! ### recompute: HEALTH and the notices -/

variable (s : State)

@[simp] theorem State.recompute_sites : s.recompute.sites = s.sites := by unfold State.recompute; simp only; split <;> simp
@[simp] theorem State.recompute_ports : s.recompute.ports = s.ports := by unfold State.recompute; simp only; split <;> simp
@[simp] theorem State.recompute_lanes : s.recompute.lanes = s.lanes := by unfold State.recompute; simp only; split <;> simp
@[simp] theorem State.recompute_meter : s.recompute.meter = s.meter := by unfold State.recompute; simp only; split <;> simp
@[simp] theorem State.recompute_store : s.recompute.store = s.store := by unfold State.recompute; simp only; split <;> simp
@[simp] theorem State.recompute_results : s.recompute.results = s.results := by
  unfold State.recompute; simp only; split <;> simp
@[simp] theorem State.recompute_time : s.recompute.time = s.time := by unfold State.recompute; simp only; split <;> simp
@[simp] theorem State.recompute_agenda : s.recompute.agenda = s.agenda := by
  unfold State.recompute; simp only; split <;> simp

/-- The whole of HEALTH after a recomputation (R155 to R158). -/
theorem State.recompute_health : s.recompute.health =
    { s.health with
      life := s.leastLife
      inService := s.serviceLanes.length
      spares := sparesOf s.serviceLanes.length s.laneNeed
      sparePct := sparePctOf (sparesOf s.serviceLanes.length s.laneNeed) s.laneNeed
      low := stateLow s.leastLife s.lifeThreshold s.laneNeed (sparesOf s.serviceLanes.length s.laneNeed)
        s.serviceLanes.length
      record := { s.health.record with lifeWorst := min s.health.record.lifeWorst s.leastLife,
                                        latch := s.health.record.latch || s.levelReached } } := by
  unfold State.recompute; simp only; split <;> simp

/-! ### loadNotices: only the link changes -/

/-- What every step of a `forEach` leaves as it is, the whole leaves as it is. -/
theorem forEach_frame {α β : Type} (g : State → β) (f : α → State → State) (h : ∀ a t, g (f a t) = g t) (l : List α)
    (s : State) : g (forEach l f s) = g s := by
  induction l generalizing s with
  | nil => rfl
  | cons a l ih => exact (ih (f a s)).trans (h a s)

theorem State.loadNotices_frame {β : Type} (g : State → β) (h : ∀ (n : Notice) (t : State), g (t.notice n) = g t) :
    g s.loadNotices = g s := by
  have e := forEach_frame g (fun it (s : State) => s.notice (.storeFault it false)) (fun a t => h _ t)
    (loadOrder.filter fun it => s.store.loadFailed[it]) s
  unfold State.loadNotices
  simp only
  split
  · exact e
  · exact (h _ _).trans e

/-! ### startUp -/

@[simp] theorem State.startUp_store : s.startUp.store = Store.started s.store.stored := by
  unfold State.startUp
  rw [State.loadNotices_frame _ State.store (fun n t => t.notice_store n)]
  simp [State.loaded]

@[simp] theorem State.startUp_sites : s.startUp.sites = s.store.stored.loadReach.map Site.started := by
  unfold State.startUp
  rw [State.loadNotices_frame _ State.sites (fun n t => t.notice_sites n)]
  simp [State.loaded]

@[simp] theorem State.startUp_ports : s.startUp.ports = s.store.stored.loadConfig.2.map Port.fresh := by
  unfold State.startUp
  rw [State.loadNotices_frame _ State.ports (fun n t => t.notice_ports n)]
  simp [State.loaded]

@[simp] theorem State.startUp_lanes : s.startUp.lanes = s.loaded.lanes := by
  unfold State.startUp
  rw [State.loadNotices_frame _ State.lanes (fun n t => t.notice_lanes n)]
  simp

@[simp] theorem State.startUp_meter : s.startUp.meter = { cal := s.store.stored.loadCal, acq := none } := by
  unfold State.startUp
  rw [State.loadNotices_frame _ State.meter (fun n t => t.notice_meter n)]
  simp [State.loaded]

@[simp] theorem State.startUp_health : s.startUp.health = s.loaded.recompute.health := by
  unfold State.startUp
  rw [State.loadNotices_frame _ State.health (fun n t => t.notice_health n)]

@[simp] theorem State.startUp_agenda : s.startUp.agenda = [] := by
  unfold State.startUp
  rw [State.loadNotices_frame _ State.agenda (fun n t => t.notice_agenda n)]
  simp [State.loaded]

end Sys2Proof.Machine
end

