-- ==== Sys2Proof/Tests/Slice0.lean ====
section
/-! SUPPORT. Tests: the well-formedness smoke test, worked values of the manual, one small step test for the main
commands, and for every statement with hypotheses a `witness_…` theorem whose states and operands meet them. -/

namespace Sys2Proof.Tests

open Sys2Proof.Machine

-- One theorem at a time: waiting kernel evaluations would each hold a thread.
set_option Elab.async false

/-! ### Small states -/

/-- The next state of an outcome. -/
def nextOf (o : Host.Outcome State Fault Refusal) : Option State :=
  match o with
  | .next s => some s
  | .fault _ => none
  | .refused _ => none

/-- A view of the state after a command. -/
def after {α : Type} (c : Instr) (s : State) (f : State → α) : Option α := (nextOf (exec c s)).map f

/-- Site `i` in a state, with a reach of pins 0 to 39. -/
def siteIn (i : SiteId) (st : SiteState) (s : State) : State :=
  s.modSite i fun x => { x with state := st, reach := ⟨some (0, 39), true⟩ }

/-- Site `i` runs one step in a phase. -/
def running (i : SiteId) (st : Step) (ph : Phase) (s : State) : State :=
  (siteIn i .running s).modSite i fun x => { x with queue := [st], running := some ⟨.active ph, 0⟩ }

/-- A lane in a state, with site 0's route of handle 0 to a port. -/
def routed (l : LaneId) (p : PortId) (st : LaneState) (rs : RouteState) (s : State) : State :=
  (s.modLane l fun x => { x with state := st, route := some ⟨0, 0, p, rs⟩, closed := [3, portRelay p] }).modPort p fun x =>
    { x with claim := some ⟨0, 0⟩, desc := { x.desc with kind := .source } }

/-- The lane reads live. -/
def live (l : LaneId) (s : State) : State := s.modPins (liveUp l)

/-- A FULL reset in flight in a phase. -/
def fullReset (p : ResetPhase) (s : State) : State :=
  { s with resetReq := some ⟨9, true, p, [], Vector.replicate 4 .idle⟩ }

/-- A timer whose expiry a part straight after start-up has reached. -/
def soon : Timer := ⟨0, 0, 0⟩

/-- A write of a lane record in flight. -/
def writing : Write := ⟨.lane 15 [] [], false⟩

/-- The lane holds a load. -/
def loading (l : LaneId) (k : LoadKind) (s : State) : State := s.modLane l fun x => { x with load := some ⟨k, [3], [3]⟩ }

/-- The lane's route waits. -/
def laneWait (l : LaneId) (k : WaitKind) (s : State) : State := s.modLane l fun x => { x with wait := some ⟨k, soon⟩ }

/-- Port `p` waits for the done line of site 0's trigger. -/
def triggered (p : PortId) (s : State) : State :=
  (s.modPort p fun x => { x with wait := some ⟨0, 7, 0⟩, doneTimer := some soon }).modRes 0 fun x =>
    { x with reserved := true }

/-- An acquisition of four samples on range 5. -/
def acq (switching : Bool) : Acquisition :=
  { site := 0, tag := 1, point := 0, requested := 5, range := 5, aperture := 2, autorange := false, raw := false,
    limits := none, clip := 1024, interval := 20, cal := Vector.replicate 6 ⟨8191, 32768, false⟩, hv := false,
    retries := 0, switching := switching, timer := soon, taken := 2, sum := 0, clipped := 0, last := 0,
    lastUncertain := false }

/-- A CONNECT of site 0's handle 0 to a port. -/
def connectStep (p : PortId) : Step := ⟨1, .connect 0 p 10 10 [3]⟩

/-- A MEASURE's fields on range 4. -/
def spec : MeterSpec := ⟨0, 4, 0, false, false, ⟨false, false, false, false⟩, none⟩

/-! ### Well-formedness: an ill-formed term for each check -/

theorem test_wf_connect_count : (Instr.stepConnect 0 0 0 0 0 0 (List.replicate 256 0)).wellFormed = false := by decide +kernel
theorem test_wf_connect_good : (Instr.stepConnect 0 0 0 0 0 0 (List.replicate 255 0)).wellFormed = true := by decide +kernel
theorem test_wf_scan_payload :
    (Instr.stepScan 0 0 ⟨0, 0, 0, false, false, ⟨false, false, false, false⟩, none⟩ 0
      (List.replicate 72 ⟨0, none⟩)).wellFormed = false := by decide +kernel
theorem test_wf_scan_count :
    (Instr.stepScan 0 0 ⟨0, 0, 0, false, false, ⟨false, false, false, false⟩, none⟩ 0
      (List.replicate 256 ⟨0, none⟩)).wellFormed = false := by decide +kernel
theorem test_wf_config_payload : (Instr.configSet 0 0 (List.replicate 205 (0, 0))).wellFormed = false := by decide +kernel
theorem test_wf_frame_payload :
    (Instr.frameReceived ⟨0, 0, 0, List.replicate 1025 0⟩ 0).wellFormed = false := by decide +kernel
theorem test_wf_readback : (Instr.loadDone 0 [3, 3]).wellFormed = false := by decide +kernel
theorem test_wf_done_assert : (Instr.doneLineAssert 0).wellFormed = false := by decide +kernel
theorem test_wf_done_deassert : (Instr.doneLineDeassert 0).wellFormed = false := by decide +kernel
theorem test_wf_done_timer : (Instr.doneTimerExpiry 0).wellFormed = false := by decide +kernel
theorem test_wf_pulse_timer : (Instr.pulseTimerExpiry 0).wellFormed = false := by decide +kernel

/-! ### Values worked from the manual -/

/-- No row of the table has bits. -/
theorem test_no_word : decodeTableWord 16 0 = none := by decide
/-- The catalogue's check value of this CRC, over the ASCII digits 1 to 9 (R186). -/
theorem test_crc : crc16 [0x31, 0x32, 0x33, 0x34, 0x35, 0x36, 0x37, 0x38, 0x39] = 0x29B1 := by decide +kernel
/-- Halves go toward plus infinity (R102): 6 / 4 gives 2, -6 / 4 gives -1. -/
theorem test_mean : meanStage 4 6 = 2 ∧ meanStage 4 (-6) = -1 := by decide
/-- Halves go away from zero (R103): 1 × 16,384 / 32,768 gives 1, and -1 for m = -1. -/
theorem test_gain : gainStage 1 16384 = 1 ∧ gainStage (-1) 16384 = -1 := by decide
/-- The default durations of R180: OC_PERSIST 2 ms, OPERATE_TIME 3 ms, DISCHARGE_TIMEOUT 50 ms. -/
theorem test_durations : Duration.value 0x4014 = 2000 ∧ Duration.value 0x401E = 3000 ∧ Duration.value 0x41F4 = 50000 := by
  decide
/-- A 1 s tick: a count of 2 started at 2.5 s expires at 5 s (R166). -/
theorem test_timer : (Timer.begin 0xC002 2500000).expiry = 5000000 := by decide
/-- A width at a midpoint of two of the eight takes the larger (R31). -/
theorem test_width : clampWidth 15 = 20 ∧ clampWidth 14 = 10 ∧ clampWidth 0 = 1 := by decide
/-- The worked conversions of section 5.10 and 5.13: 520,910 µV on range 1, the largest and the smallest value. -/
theorem test_worked_value : scaleStage 1 (gainStage (meanStage 4 207526) 32900) = 520910 := by decide
theorem test_largest_value : scaleStage 3 (gainStage (meanStage 256 35651328) 49151) = 208890000 := by decide
theorem test_smallest_value : scaleStage 3 (gainStage (meanStage 256 (256 * -122879)) 49151) = -184315000 := by decide
/-- The last row of R105's table: lo + gb lies above every 32-bit value. -/
theorem test_wide_guard_band :
    verdictOf 0 (some ⟨2147483000, 2147483647, 2147483647⟩) 2147483500 = .marginal := by decide
/-- One operation takes a lane's life from 100 to 99 (R154). -/
theorem test_life : lifePercent 10000000 0 = 100 ∧ lifePercent 10000000 1 = 99 ∧ lifePercent 10000000 10000000 = 0 := by
  decide

/-! ### One step each -/

/-- The CRC over a byte string, each value reduced to a numeral before the next byte is taken, for long strings. -/
def crcForced : List Byte → Nat → Nat
  | [], a => a
  | b :: bs, a =>
    match (crcByte (BitVec.ofNat 16 a) b).toNat with
    | 0 => crcForced bs 0
    | n + 1 => crcForced bs (n + 1)

theorem foldl_crcByte (bs : List Byte) (a : Nat) :
    bs.foldl crcByte (BitVec.ofNat 16 a) = BitVec.ofNat 16 (crcForced bs a) := by
  induction bs generalizing a with
  | nil => rfl
  | cons b bs ih =>
    have h : crcForced (b :: bs) a = crcForced bs (crcByte (BitVec.ofNat 16 a) b).toNat := by
      rw [crcForced]; split <;> simp_all
    rw [h, ← ih, List.foldl_cons, BitVec.ofNat_toNat, BitVec.setWidth_eq]

theorem crc16_eq_crcForced (bs : List Byte) : crc16 bs = BitVec.ofNat 16 (crcForced bs 0xFFFF) := foldl_crcByte bs 0xFFFF
theorem test_lane_check : crc16 (laneRecordBytes ([], [])) = 0x2AAB := by rw [crc16_eq_crcForced]; decide +kernel
theorem test_config_check : crc16 (configRecordBytes (.default, PortDesc.defaults)) = 0x2EC2 := by
  rw [crc16_eq_crcForced]; decide +kernel
theorem test_cal_check : crc16 (calRecordBytes (Vector.replicate 6 .default)) = 0x9024 := by
  rw [crc16_eq_crcForced]; decide +kernel
theorem test_reach_check : crc16 (reachRecordBytes (Vector.replicate 4 .none)) = 0x3548 := by
  rw [crc16_eq_crcForced]; decide +kernel
theorem test_health_check : crc16 (healthRecordBytes .fresh) = 0xE2BF := by rw [crc16_eq_crcForced]; decide +kernel

/-- No default item fails its check (R175). -/
theorem test_default_items :
    (∀ l : LaneId, Stored.default.readLane l = some ([], [])) ∧
      Stored.default.readConfig = some (.default, PortDesc.defaults) ∧
      Stored.default.readCal = some (Vector.replicate 6 .default) ∧
      Stored.default.readReach = some (Vector.replicate 4 .none) ∧ Stored.default.readHealth = some .fresh := by
  refine ⟨fun l => ?_, Item.read_of_check _ test_config_check, Item.read_of_check _ test_cal_check,
    Item.read_of_check _ test_reach_check, Item.read_of_check _ test_health_check⟩
  have h : Stored.default.lanes[l] = ⟨([], []), 0x2AAB⟩ := by simp [Stored.default]
  unfold Stored.readLane
  rw [h]
  exact Item.read_of_check _ test_lane_check
/-- A start-up of the part of State.reset finds the ports as they are. -/
theorem test_power_on : State.reset.startUp.ports = State.reset.ports := by
  have h : Stored.default.loadConfig = (.default, PortDesc.defaults.set 0 PortDesc.meter) := by
    rw [Stored.loadConfig, test_default_items.2.1]
  rw [State.startUp_ports, show State.reset.store.stored = Stored.default from rfl, h]
  decide +kernel
theorem test_idle_tick : nextOf (step State.reset) =
    some ((State.reset.modTime fun b => { b with now := 1 }).drew 1) := by decide +kernel
theorem test_status_reply : after (.status 5 0xFF) State.reset (fun s => s.link.tx.isSome) = some true := by
  decide +kernel
theorem test_unknown_kind : after (.frameReceived ⟨0x55, 1, 3, []⟩ (frameCrc ⟨0x55, 1, 3, []⟩)) State.reset
    (fun s => s.link.tx) = some (some (.reply ⟨0x55, 1, 3, .unknownKind, [], false⟩)) := by decide +kernel
theorem test_wait_starts : after (.stepWait 1 0 10) (siteIn 0 .idle State.reset)
    (fun s => s.sites[(0 : SiteId)].waitTimer) = some (some ⟨0, 10, 10⟩) := by decide +kernel
theorem test_connect_starts : after (.stepConnect 1 0 2 0 0 5 [3]) (siteIn 0 .idle State.reset)
    (fun s => (s.lanes[(0 : LaneId)].closed, s.lanes[(0 : LaneId)].route)) =
      some ([3, 256], some ⟨0, 2, 0, .closing⟩) := by decide +kernel
theorem test_connect_no_reach : after (.stepConnect 1 0 2 0 0 5 [3]) State.reset (fun s => s.link.tx) =
    some (some (.reply ⟨0x02, 1, 0, .noReach, [], false⟩)) := by decide +kernel
theorem test_store_write : after (.storeWriteDone false) (State.reset.modStore fun t => { t with inFlight := some writing })
    (fun s => s.link.tx) = some (some (.notice ⟨.storeFault 15 true, false⟩)) := by decide +kernel
theorem test_stray_done : after (.doneLineAssert 11) State.reset (fun s => s.link.tx) =
    some (some (.notice ⟨.strayDone 11 0, false⟩)) := by decide +kernel

/-! ### Witnesses: the queue, frames, stages -/

theorem witness_StepRunsFrontCommand : (State.reset.withPending [.rtsFall, .rtsRise]).pending = .rtsFall :: [.rtsRise] := by
  decide
/-- A timer is due from its expiry on: at the count of 5, not at 4. -/
theorem witness_EmptyQueuePassesTime :
    let s := fun n : Nat => (running 3 ⟨1, .wait 10⟩ .waiting State.reset).modSite 3 (fun x =>
      { x with waitTimer := some ⟨0, 5, 5⟩ }) |>.modTime fun b => { b with now := n }
    State.reset.pending = [] ∧ State.reset.powered = true ∧ State.reset.unpowered.pending = [] ∧
      State.reset.unpowered.powered = false ∧ (s 4).awake ∧ timerCommand (.waitTimerExpiry 3) = true ∧
      .waitTimerExpiry 3 ∉ (s 4).dueCommands ∧ .waitTimerExpiry 3 ∈ (s 5).dueCommands := by
  unfold State.awake State.noBacklog; decide +kernel
theorem witness_RequestFramesReadBack :
    requestFits (.step (.connect 0 0 0 0 (List.replicate 255 0))) ∧
      requestFits (.step (.scan ⟨0, 0, 0, false, false, ⟨false, false, false, false⟩, none⟩ 0 (List.replicate 255 ⟨0, none⟩))) := by
  unfold requestFits; decide +kernel
theorem witness_Receiver :
    let r := fun (b : List Byte) (n : Nat) => (State.reset.modLink fun k => { k with rx := .receiving b 0 }).modTime fun t =>
      { t with now := n }
    let f : Frame := ⟨0x01, 9, 0xFF, []⟩
    let all := frameBody f.kind f.tag f.site f.payload ++ bytes16 (frameCrc f)
    (⟨0x01, 0, 0, List.replicate 1024 0⟩ : Frame).payload.length ≤ 1024 ∧ State.reset.awake ∧ State.reset.linkUp = true ∧
      State.reset.link.rx = .hunting ∧ (0x7D : Byte) ≠ 0x7E ∧ (r [2] 2000).awake ∧
      (r [2] 2000).link.rx = .receiving [2] 0 ∧ (r [2] 2000).time.now ≤ 0 + 2000 ∧ (le16 2 0).toNat < 3 ∧
      1027 < (le16 4 4).toNat ∧ (r [] 2001).awake ∧ (r [] 2001).link.rx = .receiving [] 0 ∧
      0 + 2000 < (r [] 2001).time.now ∧ ([] ++ [3] : List Byte).length < 2 ∧ 3 ≤ (le16 3 0).toNat ∧
      (le16 3 0).toNat ≤ 1027 ∧ [1, 9, 0xFF, 0].length < (le16 3 0).toNat + 2 ∧
      (r all.dropLast 2000).awake ∧ (r all.dropLast 2000).link.rx = .receiving all.dropLast 0 ∧
      f.payload.length ≤ 1024 ∧ all.dropLast ++ [all.getLastD 0] = all ∧
      after (.byteReceived (all.getLastD 0)) (r all.dropLast 2000) (fun t => (t.link.rx, t.link.tx.isSome)) =
        some (.hunting, true) := by
  unfold State.awake State.noBacklog; decide +kernel
theorem witness_TimerExpiry : Duration.count 0x4000 = 0 ∧ 1 ≤ Duration.count 0xC001 := by decide
theorem witness_MeterRounding : (8 : Nat) ≤ 8 ∧ (0 : Int) ≤ 0 := by decide
theorem witness_VerdictTable : (0 : Nat) < 1 := by decide
theorem witness_LifePercentage : (1000 : Nat) ≤ 1000 ∧ (1 : Nat) ≤ 10 ∧ 100 * 10 ≤ 1000 ∧ 99 * 1000 < 100 * 991 := by decide

/-! ### Witnesses: power and the store -/

theorem witness_PowerAndResetCommands :
    let w := State.reset.modStore fun t => { t with inFlight := some writing }
    State.reset.powered = true ∧ (fullReset .startup State.reset).powered = true ∧
      (fullReset .startup State.reset).inPhase .startup = true ∧ (fullReset .startup State.reset).store.inFlight = none ∧
      w.store.inFlight = some writing ∧ laneItem 0 ≠ writing.content.item ∧ configItem ≠ writing.content.item ∧
      calItem ≠ writing.content.item ∧ reachItem ≠ writing.content.item ∧ healthItem ≠ writing.content.item ∧
      (1 : PortId) ≠ 0 := by decide +kernel
/-- Each item read, and each item spoilt. -/
theorem witness_stored_items (n : Stored) (l : LaneId) :
    (∀ l : LaneId, Stored.default.readLane l = some ([], [])) ∧
      Stored.default.readConfig = some (.default, PortDesc.defaults) ∧
      Stored.default.readCal = some (Vector.replicate 6 .default) ∧
      Stored.default.readReach = some (Vector.replicate 4 .none) ∧
      (n.spoil (.lane l [] [])).readLane l = none ∧ (n.spoil (.config .default PortDesc.defaults)).readConfig = none ∧
      (n.spoil (.cal (Vector.replicate 6 .default))).readCal = none ∧
      (n.spoil (.reach (Vector.replicate 4 .none))).readReach = none := by
  obtain ⟨a, b, c, d, -⟩ := test_default_items
  refine ⟨a, b, c, d, ?_, ?_, ?_, ?_⟩ <;>
    simp [Stored.spoil, Stored.readLane, Stored.readConfig, Stored.readCal, Stored.readReach]
theorem witness_StoreWriteEnds :
    let s := State.reset.modStore fun t => { t with inFlight := some writing }
    s.awake ∧ s.store.inFlight = some writing ∧ s.store.awaits = [] ∧ s.store.pendingWrites = [] := by
  unfold State.awake State.noBacklog; decide +kernel

/-! ### Witnesses: the link -/

/-- A part whose link is free to take a request. -/
theorem witness_ready : State.reset.ready ∧ State.reset.noBacklog := by
  unfold State.ready State.noBacklog; decide +kernel
theorem witness_StatusHealthAndTimeAnswers : State.reset.ready := witness_ready.1
/-- All but one reply place reserved. -/
theorem witness_ready_last_place : (State.reset.modLink fun k => { k with reserved := 31 }).ready := by
  unfold State.ready; decide +kernel
theorem witness_FrameReceivedOutcomes :
    let f : Frame := ⟨0x17, 0, 0, List.replicate 1024 0⟩
    let s := State.reset.modLink fun k => { k with slots := List.replicate 4 f, tx := some (.reply ⟨1, 1, 1, .ok, [], false⟩) }
    State.reset.awake ∧ State.reset.ready ∧ State.reset.linkUp = true ∧ f.payload.length ≤ 1024 ∧ 0x16 < f.kind.toNat ∧
      s.powered = true ∧ s.linkUp = true ∧ s.agenda = [] ∧ s.link.slots.length = 4 ∧ s.mayBegin = false := by
  unfold State.awake State.ready State.noBacklog; decide +kernel
theorem witness_bad_crc : (0 : BitVec 16) ≠ frameCrc ⟨0x01, 0, 0, []⟩ := by decide +kernel
theorem witness_DispatchAnswers :
    let f : Frame := ⟨0x01, 1, 0xFF, [0]⟩
    let busy : TxFrame := .reply ⟨1, 1, 1, .ok, [], false⟩
    let s := fun (n : Nat) (fs : List Frame) => State.reset.modLink fun k =>
      { k with slots := fs, reserved := n, tx := some busy }
    (s 31 [f]).powered = true ∧ (s 31 [f]).linkUp = true ∧ (s 31 [f]).agenda = [] ∧ (s 31 [f]).link.slots = [f] ∧
      (s 31 [f]).link.reserved < 32 ∧ checkFrame f = .error .badLength ∧ (s 30 [f, f]).powered = true ∧
      (s 30 [f, f]).linkUp = true ∧ (s 30 [f, f]).agenda = [] ∧ (s 30 [f, f]).link.slots = [f, f] ∧
      (s 30 [f, f]).link.reserved < 31 ∧ (s 31 [f, f]).link.reserved = 31 ∧ (s 31 [f, f]).mayBegin = false := by
  refine ⟨by decide, by decide, by decide, by decide, by decide, by rfl, by decide, by decide, by decide, by decide,
    by decide, by decide, by decide⟩
theorem witness_DispatchAnswers_passed :
    let f : Frame := ⟨0x01, 1, 0xFF, []⟩
    let s := State.reset.modLink fun k => { k with slots := [f], reserved := 31 }
    let v := (s.modLink fun k => { k with slots := [], reserved := k.reserved + 1 }).takeRequest .status ⟨1, 0xFF⟩
    checkFrame f = .ok .status ∧ s.link.slots = [f] ∧ s.link.reserved < 32 ∧ v.agenda = [] ∧ v.link.slots = [] ∧
      v.link.replies ≠ [] := by
  refine ⟨by rfl, by decide, by decide, by decide +kernel, by decide +kernel, by decide +kernel⟩
theorem witness_Transmitter :
    let r : Reply := ⟨0x15, 9, 0xFF, .ok, [], true⟩
    let q : Reply := ⟨1, 1, 1, .ok, [], false⟩
    let d : DoneFrame := ⟨0, 1, .ok, none, 0, 0, none, []⟩
    let e : NoticeEntry := ⟨.hostSilent 0 [], false⟩
    let n := State.reset.modLink fun k => { k with notices := upd k.notices 8 fun _ => some e }
    let b : Block := ⟨0, 0, .fill, []⟩
    let sent (r : Reply) := (fullReset .reply State.reset).modLink fun k => { k with tx := some (.reply r) }
    State.reset.awake ∧ (sent q).awake ∧ (sent q).link.tx = some (.reply q) ∧ q.fullReset = false ∧ (sent r).awake ∧
      (sent r).link.tx = some (.reply r) ∧ r.fullReset = true ∧ (sent r).resetReq.isSome = true ∧
      State.reset.mayBegin = true ∧ (State.reset.modLink fun k => { k with replies := [q] }).mayBegin = true ∧
      (State.reset.modLink fun k => { k with completion := [d] }).link.replies = [] ∧
      n.mayBegin = true ∧ n.link.notices[(8 : Fin 9)] = some e ∧ e.notice.kind = 8 ∧
      (∀ m : Fin 9, m < 8 → n.link.notices[m] = none) ∧ (∀ m : Fin 9, State.reset.link.notices[m] = none) ∧
      ({ State.reset with results := { State.reset.results with outbound := [b] } } : State).mayBegin = true := by
  unfold State.awake State.noBacklog; decide +kernel
theorem witness_NoticeEntries :
    let n : Notice := .hostSilent 0 []
    (State.reset.modStore fun t => { t with config := upd t.config 2 fun _ => 0 }).noticeMask.getLsbD n.kind.val = false ∧
      State.reset.noticeMask.getLsbD n.kind.val = true ∧ State.reset.link.notices[n.kind] = none ∧
      (State.reset.notice n).link.notices[n.kind] ≠ none ∧ (0 : Fin 9) ≠ n.kind := by decide +kernel
theorem witness_PartRequestsNeedPartSite : partRequest (.time 1 3 true) = some (0x16, 1, 3) ∧ (3 : Byte) ≠ 0xFF := by decide
theorem witness_SiteRequestsNeedSite :
    siteRequest (.hold 1 4) = some (0x03, 1, 4) ∧ 3 < (4 : Byte).toNat ∧
      stepCommand (.stepFlush 1 0xFF) = some (1, 0xFF, .flush) ∧ (Instr.stepFlush 1 0xFF).wellFormed = true ∧
      3 < (0xFF : Byte).toNat ∧ State.reset.fullReset = false ∧ (4 : Byte) ≠ 0xFF ∧ 3 < (0xFE : Byte).toNat ∧
      (0xFE : Byte) ≠ 0xFF := by decide +kernel
/-! ### Witnesses: queries and settings -/

/-- A route and a claim without a route; port 12 is the first that PORT_GET refuses. -/
theorem witness_ReachRouteAndPortAnswers :
    let s := (routed 15 1 .inUse .ready State.reset).modPort 2 fun x => { x with claim := some ⟨0, 7⟩ }
    11 < (12 : Byte).toNat ∧ s.ready ∧ s.routeLane 0 0 = some 15 ∧ s.routeLane 0 7 = none ∧ s.claimPort 0 7 = some 2 ∧
      s.claimPort 0 6 = none := by
  unfold State.ready; decide +kernel
theorem witness_CalConfigAndCountAnswers :
    1 ≤ (16 : Byte).toNat ∧ (16 : Byte).toNat ≤ 16 ∧ (15 < (16 : Byte).toNat ∨ (1 : Byte) = 0 ∨ 16 < (1 : Byte).toNat) ∧
      1 ≤ (128 : Byte).toNat ∧ (128 : Byte).toNat ≤ 128 ∧ (140 : BitVec 16).toNat + (128 : Byte).toNat ≤ 268 ∧
      5 < (6 : Byte).toNat := by decide
/-- REACH_SET: the reversed range, the waiting request, a neighbour's range met at its last pin and missed by one, a held
pin at the range's end and one past it, a high-voltage port that the new reach does not allow. -/
theorem witness_RequestCheckOrders_reach :
    let s := siteIn 1 .held (siteIn 0 .idle State.reset)
    let w := s.modStore fun t => { t with reqs := [⟨.reachSet 0, 1, []⟩] }
    let q := routed 15 11 .inUse .ready (siteIn 0 .idle State.reset)
    let h := q.modPort 11 fun x => { x with desc := { x.desc with hv := true } }
    ({ s with freeze := true } : State).freeze = true ∧ s.freeze = false ∧ s.ready ∧
      s.checkReachSet 0 ⟨some (1, 0), false⟩ false = some .badField ∧
      (siteIn 0 .running s).checkReachSet 0 ⟨some (50, 60), false⟩ false = some .siteState ∧
      w.checkReachSet 0 ⟨some (50, 60), false⟩ false = some .busy ∧
      s.checkReachSet 0 ⟨some (39, 60), false⟩ false = some .overlap ∧
      s.checkReachSet 0 ⟨some (40, 60), false⟩ false = none ∧ s.checkReachSet 0 ⟨none, false⟩ true = none ∧
      q.checkReachSet 0 ⟨some (4, 9), false⟩ false = some .routesOutside ∧
      q.checkReachSet 0 ⟨none, false⟩ false = some .routesOutside ∧
      q.checkReachSet 0 ⟨some (3, 3), false⟩ false = none ∧
      h.checkReachSet 0 ⟨some (3, 3), false⟩ false = some .routesOutside ∧
      h.checkReachSet 0 ⟨some (3, 3), true⟩ false = none := by
  unfold State.ready; decide +kernel
/-- STEP: each check from the second to the ninth fails somewhere, and a step passes them all at the end pins of its reach. -/
theorem witness_RequestCheckOrders_step :
    let q := fun n : Nat => (siteIn 0 .held State.reset).modSite 0 fun x => { x with queue := List.replicate n ⟨1, .flush⟩ }
    let m := fun (r : Byte) (u : Limits) => StepReq.measure ⟨0, r, 0, false, false, ⟨false, false, false, false⟩, some u⟩
    let low := (q 0).modSite 0 fun x => { x with reach := ⟨some (0, 39), false⟩ }
    let src := (q 0).modPort 11 fun x => { x with desc := ⟨.source, true, .pulse, 10⟩ }
    let met := routed 15 0 .inUse .ready (q 0)
    State.reset.acceptStep 0 1 .flush = .error .noReach ∧
      (siteIn 0 .safe State.reset).acceptStep 0 1 .flush = .error .siteState ∧
      (q 32).acceptStep 0 2 .flush = .error .queueFull ∧ (q 31).acceptStep 0 1 .flush = .error .tagInUse ∧
      (q 31).acceptStep 0 2 (.arm 8) = .error .badField ∧
      (q 0).acceptStep 0 2 (.connect 0 11 0 0 [0]) = .error .badField ∧
      met.acceptStep 0 2 (.trigger 0 5) = .error .badField ∧
      src.acceptStep 0 2 (.connect 0 11 0 0 [40]) = .error .outOfReach ∧
      (src.modSite 0 fun x => { x with reach := ⟨some (0, 39), false⟩ }).acceptStep 0 2 (.connect 0 11 0 0 [39]) =
        .error .hvDenied ∧
      low.acceptStep 0 2 (m 3 ⟨1, 0, 0⟩) = .error .hvDenied ∧ low.acceptStep 0 2 (m 2 ⟨1, 0, 0⟩) = .error .badLimits ∧
      src.acceptStep 0 2 (.connect 0 11 0 0 [0, 39]) = .ok (.connect 0 11 0 0 [0, 39]) := by
  refine ⟨?_, ?_, ?_, ?_, ?_, ?_, ?_, ?_, ?_, ?_, ?_, ?_⟩ <;> rfl
theorem witness_PortSetStores :
    let s := State.reset.modPort 11 fun x => { x with claim := some ⟨0, 0⟩ }
    ((0 : Byte) = 0 ∨ 11 < (0 : Byte).toNat ∨ 2 < (0 : Byte).toNat ∨ 1 < (0 : Byte).toNat) ∧ (11 : PortId) ≠ 0 ∧
      s.ports[(11 : PortId)].claim ≠ none ∧ State.reset.ports[(11 : PortId)].claim = none ∧
      State.reset.ports[(11 : PortId)].desc = ⟨.none, false, .pulse, clampWidth 10⟩ ∧
      State.reset.ports[(11 : PortId)].desc ≠ ⟨.source, false, .pulse, clampWidth 10⟩ := by decide +kernel
theorem witness_SettingsAndCalibration :
    (200 : Nat) ∈ [1, 2, 5, 10, 20, 50, 100, 200] ∧ State.reset.ready ∧ 5 < (6 : Byte).toNat ∧
      State.reset.store.config[(1 : Fin 16)] = clampConfig 1 0 ∧ State.reset.store.config[(1 : Fin 16)] ≠ clampConfig 1 1 ∧
      (12 : Fin 16) ∈ ([3, 4, 5, 12] : List (Fin 16)) := by
  unfold State.ready; decide +kernel
/-- RETIRE_AT_END set with a lane at life 0: a FREE one is RETIRED, an IN_USE one RETIRING, and the spares fall to 3. -/
theorem test_retire_at_end :
    let worn := fun s : State => (s.modWear 0 fun x => { x with life := 0 }).modWear 1 fun x => { x with life := 0 }
    let s := (routed 1 1 .inUse .ready (worn State.reset)).modStore fun t => { t with config := upd t.config 12 fun _ => 0 }
    after (.configSet 1 0xFF [(12, 7)]) s (fun t => (t.lanes[(0 : LaneId)].state, t.lanes[(1 : LaneId)].state,
      t.health.inService, t.health.spares)) = some (.retired, .retiring, 15, 3) := by decide +kernel
theorem witness_ConfigSetOutcomes :
    (15 : Fin 16) ∈ ([0, 6, 7, 8, 9, 10, 11, 13, 14, 15] : List (Fin 16)) ∧
      State.reset.store.config[(15 : Fin 16)] = clampConfig 15 1024 ∧
      State.reset.store.config[(15 : Fin 16)] ≠ clampConfig 15 0 ∧
      16 < (List.replicate 17 ((0 : Byte), (0 : BitVec 32))).length ∧
      (∃ e ∈ [((16 : Byte), (0 : BitVec 32))], 15 < e.1.toNat) ∧ State.reset.ready ∧
      State.reset.store.config[(2 : Fin 16)] = clampConfig 2 0x1FF ∧ State.reset.store.config[(2 : Fin 16)] ≠ clampConfig 2 0 ∧
      (List.replicate 16 ((4 : Fin 16), (0 : BitVec 32))) ≠ [] ∧
      (List.replicate 16 ((4 : Fin 16), (0 : BitVec 32))).length ≤ 16 := by
  unfold State.ready; decide +kernel
/-- RETIRE_AT_END before RATED_LIFE in one request, the latter named twice: a lane with 1,200 operations reaches life 0 under
the later value and is retired; the answer carries the pairs in their order. -/
theorem test_config_pairs :
    let s := (State.reset.modStore fun t => { t with config := upd t.config 12 fun _ => 0 }).modWear 0 fun x =>
      { x with counts := [(3, 1200)] }
    after (.configSet 1 0xFF [(12, 1), (4, 2000), (4, 1000)]) s (fun t => (t.store.config[(4 : Fin 16)],
      (t.health.lanes[(0 : LaneId)]).life, t.lanes[(0 : LaneId)].state, t.link.tx)) =
      some (1000, 0, .retired, some (.reply ⟨0x10, 1, 0xFF, .ok, [12, 1, 0, 0, 0, 4, 0xD0, 7, 0, 0, 4, 0xE8, 3, 0, 0], false⟩)) := by
  decide +kernel
theorem witness_ReachSetOutcomes :
    let s := State.reset.modLink fun k => { k with marker := some (0x07, siteByte 0) }
    let w := s.modStore fun t => { t with inFlight := some writing }
    State.reset.link.marker ≠ some (0x07, siteByte 0) ∧ s.ready ∧ s.link.marker = some (0x07, siteByte 0) ∧
      s.checkReachSet 0 ⟨some (1, 0), false⟩ true = some .badField ∧ s.checkReachSet 0 ⟨some (0, 255), false⟩ false = none ∧
      w.ready ∧ w.link.marker = some (0x07, siteByte 0) ∧ w.checkReachSet 0 ⟨some (0, 255), false⟩ true = none ∧
      w.noBacklog ∧ w.store.inFlight ≠ none ∧ s.noBacklog ∧
      s.checkReachSet 0 ⟨some (0, 255), false⟩ true = none ∧ s.store.inFlight = none ∧ s.store.pendingWrites = [] := by
  unfold State.ready State.noBacklog; decide +kernel

/-! ### Witnesses: sites -/

/-- A part with site 0 in each state takes requests. -/
theorem witness_HoldByState : ∀ st ∈ [SiteState.idle, .running, .held, .stopped, .aborting, .safing, .safe],
    (siteIn 0 st State.reset).ready ∧ (siteIn 0 st State.reset).sites[(0 : SiteId)].state = st := by
  unfold State.ready; decide +kernel
theorem witness_ResumeByState :
    let s := siteIn 0 .held State.reset
    let e := s.modSite 0 fun x => { x with queue := [connectStep 1], running := some ⟨.ended, 0⟩ }
    let p := (s.modSite 0 fun x => { x with queue := [connectStep 1], running := some ⟨.suspended, 2⟩ }).modRes 0 fun x =>
      { x with pos := .closedWaiting }
    let w := s.modSite 0 fun x => { x with queue := [⟨1, .wait 10⟩, connectStep 1] }
    s.ready ∧ s.sites[(0 : SiteId)].state = .held ∧ s.sites[(0 : SiteId)].running = none ∧
      s.sites[(0 : SiteId)].queue = [] ∧ e.ready ∧ e.sites[(0 : SiteId)].running = some ⟨.ended, 0⟩ ∧ p.ready ∧
      p.sites[(0 : SiteId)].state = .held ∧ p.sites[(0 : SiteId)].running = some ⟨.suspended, 2⟩ ∧
      p.results.sites[(0 : SiteId)].pos = .closedWaiting ∧ w.ready ∧ w.sites[(0 : SiteId)].state = .held ∧
      w.sites[(0 : SiteId)].queue = [⟨1, .wait 10⟩, connectStep 1] ∧ w.sites[(0 : SiteId)].running = none ∧
      Duration.count 10 ≠ 0 ∧
      ((w.arrive.modSite 0 fun x => { x with held := false, state := .idle }).startHead 0).agenda = [] ∧
      ((w.arrive.modSite 0 fun x => { x with held := false, state := .idle }).startHead 0).link.slots = [] := by
  unfold State.ready; decide +kernel
theorem witness_ResumeByState_scan :
    let pts : List ScanPoint := [⟨5, none⟩, ⟨3, none⟩]
    let s := routed 15 0 .inUse .ready ((siteIn 0 .held State.reset).modSite 0 fun x =>
      { x with queue := [⟨1, .scan spec 10 pts⟩], running := some ⟨.suspended, 1⟩ })
    s.ready ∧ s.sites[(0 : SiteId)].state = .held ∧ s.sites[(0 : SiteId)].queue = [⟨1, .scan spec 10 pts⟩] ∧
      s.sites[(0 : SiteId)].running = some ⟨.suspended, 1⟩ ∧ pts[1]? = some ⟨3, none⟩ ∧
      s.results.sites[(0 : SiteId)].pos ≠ .closedWaiting ∧ s.routeLane 0 spec.handle = some 15 ∧
      s.lanes[(15 : LaneId)].route = some ⟨0, 0, 0, .ready⟩ ∧ s.pinsBusy (some 15) [3] = false ∧
      s.lanes[(15 : LaneId)].pinRelays = [pinRelay 3] ∧ Duration.count 10 ≠ 0 := by
  unfold State.ready; decide +kernel
theorem witness_AbortOutcomes :
    let s := siteIn 3 .held State.reset
    let w := running 3 ⟨1, .wait 10⟩ .waiting State.reset
    let r := fun st : RouteState => routed 15 1 .inUse st (siteIn 0 .stopped State.reset)
    s.ready ∧ s.sites[(3 : SiteId)].state = .held ∧ s.sites[(3 : SiteId)].running = none ∧ s.routeLanes 3 = [] ∧
      s.routelessPorts 3 = [] ∧ s.resetReq = none ∧ w.ready ∧ w.noBacklog ∧ w.sites[(3 : SiteId)].state = .running ∧
      w.sites[(3 : SiteId)].queue = [⟨1, .wait 10⟩] ∧ w.sites[(3 : SiteId)].running = some ⟨.active .waiting, 0⟩ ∧
      w.sites[(3 : SiteId)].carried = [] ∧ w.link.completion.length < 16 ∧ w.routeLanes 3 = [] ∧
      w.routelessPorts 3 = [] ∧ (r .ready).ready ∧ (r .ready).noBacklog ∧ (r .ready).results.outbound.length < 16 ∧
      (r .ready).sites[(0 : SiteId)].state = .stopped ∧ (r .ready).sites[(0 : SiteId)].running = none ∧
      (r .ready).routeLanes 0 = [15] ∧ (r .ready).lanes[(15 : LaneId)].route = some ⟨0, 0, 1, .ready⟩ ∧
      (r .ready).routelessPorts 0 = [] ∧ (r .ready).isLive 15 = false ∧ (r .ready).lanes[(15 : LaneId)].pinRelays ≠ [] ∧
      (live 15 (r .live)).ready ∧ (live 15 (r .live)).routeLanes 0 = [15] ∧
      (live 15 (r .live)).lanes[(15 : LaneId)].route = some ⟨0, 0, 1, .live⟩ ∧ (live 15 (r .live)).isLive 15 = true := by
  unfold State.ready State.noBacklog; decide +kernel
theorem witness_ClearReturnsToIdle :
    let s := siteIn 0 .safe State.reset
    let c := s.modSite 0 fun x => { x with clear := some ⟨1, false⟩ }
    s.ready ∧ s.sites[(0 : SiteId)].state = .safe ∧ s.sites[(0 : SiteId)].clear = none ∧ s.routeLanes 0 = [] ∧
      s.sites[(0 : SiteId)].queue = [] ∧ (siteIn 0 .stopped State.reset).sites[(0 : SiteId)].state = .stopped ∧ c.ready ∧
      c.sites[(0 : SiteId)].state = .safe ∧ c.sites[(0 : SiteId)].clear ≠ none := by
  unfold State.ready; decide +kernel
theorem witness_ClearOfStuckRoute :
    let s := routed 15 11 .inUse .stuck (siteIn 0 .safe State.reset)
    s.ready ∧ s.noBacklog ∧ s.sites[(0 : SiteId)].state = .safe ∧ s.sites[(0 : SiteId)].clear = none ∧
      s.routeLanes 0 = [15] ∧ s.lanes[(15 : LaneId)].route = some ⟨0, 0, 11, .stuck⟩ ∧
      s.lanes[(15 : LaneId)].pinRelays ≠ [] ∧ s.fullReset = false ∧ s.isLive 15 = false ∧ (live 15 s).ready ∧
      (live 15 s).isLive 15 = true := by
  unfold State.ready State.noBacklog; decide +kernel
theorem witness_LaneRenewAndAttributes :
    let s := State.reset.modLane 15 fun x => { x with state := .retired }
    s.ready ∧ s.noBacklog ∧ s.laneWaiters = [] ∧ 1000 ≤ s.ratedLife ∧ s.lanes[(15 : LaneId)].state = .retired ∧
      s.hasReq (.laneRenew 15) = false ∧ s.lanes[(0 : LaneId)].state = .free ∧
      (routed 0 1 .inUse .ready s).lanes[(0 : LaneId)].state = .inUse ∧
      (routed 0 1 .retiring .ready s).lanes[(0 : LaneId)].state = .retiring ∧
      (s.modStore fun t => { t with reqs := [⟨.laneRenew 0, 1, []⟩] }).hasReq (.laneRenew 0) = true ∧
      15 < (16 : Byte).toNat ∧ s.noticeMask.getLsbD 2 = true := by
  unfold State.ready State.noBacklog; decide +kernel
theorem witness_SaveOutcomes :
    let d := State.reset.modStore fun t => { t with differs := upd (upd t.differs 3 fun _ => true) 19 fun _ => true }
    let b := d.modStore fun t => { t with inFlight := some writing }
    State.reset.hasReq .save = false ∧ State.reset.fullReset = false ∧
      (∀ it : ItemId, State.reset.store.differs[it] = false) ∧
      (allItems.filter fun it => d.store.differs[it]) = [3, 19] ∧ d.ready ∧ d.noBacklog ∧ d.store.inFlight = none ∧
      d.store.pendingWrites = [] ∧ d.store.awaits = [] ∧ b.ready ∧ b.noBacklog ∧ b.store.inFlight ≠ none ∧
      (State.reset.modStore fun t => { t with reqs := [⟨.save, 1, []⟩] }).hasReq .save = true ∧
      (fullReset .save State.reset).ready ∧ (fullReset .save State.reset).fullReset = true := by
  unfold State.ready State.noBacklog; decide +kernel
/-- Each kind of waiting request at the done of the write it awaits: the last one, or with another still missing. -/
theorem witness_SaveOutcomes_done :
    ∀ o ∈ [Owner.save, .laneRenew 3, .reachSet 1, .fullReset], ∀ more ∈ [([] : List Await), [⟨o, 16, false⟩], [⟨.laneRenew 9, 9, true⟩]],
    let s := (fullReset .save State.reset).modStore fun t => { t with
      inFlight := some writing, reqs := [⟨o, 1, []⟩], awaits := ⟨o, writing.content.item, true⟩ :: more }
    s.awake ∧ s.store.inFlight = some writing ∧ s.store.reqs = [⟨o, 1, []⟩] ∧
      s.store.awaits = ⟨o, writing.content.item, true⟩ :: more ∧
      (∀ a ∈ more, ¬(a.item = writing.content.item ∧ a.begun = true)) ∧ s.resetReq.isSome = true ∧
      ((∃ a ∈ more, a.owner = o) ∨ ∀ a ∈ more, a.owner ≠ o) := by
  unfold State.awake State.noBacklog; decide +kernel
theorem witness_ResetAtRest :
    let w := running 3 ⟨1, .wait 10⟩ .waiting ((siteIn 2 .stopped State.reset).modSite 2 fun x =>
      { x with queue := [connectStep 1], running := some ⟨.ended, 0⟩ })
    State.reset.ready ∧ State.reset.atRest ∧ (∀ it : ItemId, State.reset.store.differs[it] = false) ∧
      (fullReset .teardown State.reset).ready ∧ (fullReset .teardown State.reset).resetReq ≠ none ∧ w.ready ∧
      w.resetReq = none ∧ (∀ i : SiteId, (w.sites[i].state = .idle ∨ w.sites[i].state = .running ∨
        w.sites[i].state = .held ∨ w.sites[i].state = .stopped) ∧ w.sites[i].abort = none) ∧
      w.sites[(0 : SiteId)].running = none ∧ w.sites[(2 : SiteId)].running = some ⟨.ended, 0⟩ ∧
      w.sites[(3 : SiteId)].running = some ⟨.active .waiting, 0⟩ ∧ w.sites[(3 : SiteId)].queue = [⟨1, .wait 10⟩] ∧
      (∀ l : LaneId, w.lanes[l].route = none) ∧ (∀ p : PortId, w.ports[p].claim = none) := by
  unfold State.ready State.atRest; decide +kernel
theorem witness_ResetAtRest_route :
    let s := routed 15 1 .inUse .ready State.reset
    let o := laneWait 15 .release (((routed 15 1 .inUse .opening State.reset).modLane 15 fun x => { x with closed := [] }).modSite 0
      fun x => { x with state := .aborting, teardown := some .runReset })
    let q : ResetReq := ⟨9, false, .teardown, [0], Vector.replicate 4 .idle⟩
    let t : State := { o with resetReq := some q }
    s.ready ∧ s.noBacklog ∧ s.resetReq = none ∧ (∀ j : SiteId, s.sites[j] = { Site.fresh with
        reach := s.sites[j].reach, retainedFlag := s.sites[j].retainedFlag, retained := s.sites[j].retained }) ∧
      (∀ k : LaneId, k ≠ 15 → s.lanes[k].route = none) ∧ s.lanes[(15 : LaneId)].route = some ⟨0, 0, 1, .ready⟩ ∧
      s.isLive 15 = false ∧ s.lanes[(15 : LaneId)].pinRelays ≠ [] ∧ s.routelessPorts 0 = [] ∧
      (∀ p : PortId, ∀ c ∈ s.ports[p].claim, c.site = 0) ∧ t.ready ∧ t.awake ∧ t.resetReq = some q ∧ q.full = false ∧
      q.phase = .teardown ∧ q.waiting = [0] ∧ t.routeLanes 0 = [15] ∧
      t.lanes[(15 : LaneId)].route = some ⟨0, 0, 1, .opening⟩ ∧ t.lanes[(15 : LaneId)].closed = [] ∧
      t.lanes[(15 : LaneId)].state = .inUse ∧ t.laneWaiters = [] ∧ t.ports[(1 : PortId)].waiters = [] ∧
      t.lanes[(15 : LaneId)].wait = some ⟨.release, soon⟩ ∧ soon.expiry ≤ t.time.now ∧
      t.sites[(0 : SiteId)].state = .aborting ∧ t.sites[(0 : SiteId)].teardown = some .runReset ∧
      t.sites[(0 : SiteId)].abort = none ∧ t.sites[(0 : SiteId)].clear = none ∧ t.sites[(0 : SiteId)].queue = [] ∧
      t.sites[(0 : SiteId)].running = none := by
  unfold State.ready State.awake State.noBacklog; decide +kernel
/-- A FULL reset with items that differ, on an idle store and on a busy one, and of a SAFE site with a STUCK route. -/
theorem witness_ResetAtRest_full :
    let d := State.reset.modStore fun t => { t with differs := upd (upd t.differs 3 fun _ => true) 19 fun _ => true }
    let b := d.modStore fun t => { t with inFlight := some writing }
    let u := routed 15 1 .inUse .stuck (State.reset.modSite 0 fun x => { x with state := .safe, stopCause := some .coilFault })
    d.ready ∧ d.atRest ∧ (allItems.filter fun it => d.store.differs[it]) = [3, 19] ∧ d.store.inFlight = none ∧
      d.store.pendingWrites = [] ∧ d.store.awaits = [] ∧ b.ready ∧ b.atRest ∧ b.store.inFlight ≠ none ∧ u.ready ∧
      u.resetReq = none ∧ (∀ j : SiteId, u.sites[j] = { Site.fresh with
        reach := u.sites[j].reach, retainedFlag := u.sites[j].retainedFlag, retained := u.sites[j].retained,
        state := if j = 0 then .safe else .idle, stopCause := if j = 0 then some .coilFault else none }) ∧
      (∀ k : LaneId, k ≠ 15 → u.lanes[k].route = none) ∧ u.lanes[(15 : LaneId)].route = some ⟨0, 0, 1, .stuck⟩ ∧
      (∀ p : PortId, ∀ c ∈ u.ports[p].claim, c.site = 0) ∧ u.isLive 15 = false ∧ (live 15 u).ready ∧
      (live 15 u).isLive 15 = true := by
  unfold State.ready State.atRest; decide +kernel
/-- Phase 2 of a FULL reset: the last release wait of a SAFE site, alone in the table and not; the end of phase 1 by a SAFING
site while another holds a STUCK route on a live lane, after which the former is SAFE and the latter waits for quiet. -/
theorem witness_ResetAtRest_phase2 :
    let o := fun (st : SiteState) (p : ResetPhase) (ws : List SiteId) (s : State) =>
      ({ laneWait 15 .release ((routed 15 1 .inUse .opening (siteIn 0 st s)).modLane 15 fun x => { x with closed := [] }) with
        resetReq := some ⟨9, true, p, ws, Vector.replicate 4 .idle⟩ } : State)
    let k := State.reset.modLane 0 fun x => { x with state := .inUse, route := some ⟨3, 1, 2, .stuck⟩, closed := [9] }
    let a := o .safe .stuck [] State.reset
    let b := o .safe .stuck [] k
    let c := (live 0 (o .safing .teardown [0] k)).modSite 0 fun x => { x with teardown := some (.fault .coilFault) }
    (∀ s ∈ [a, b, c], s.awake ∧ s.lanes[(15 : LaneId)].route = some ⟨0, 0, 1, .opening⟩ ∧
        s.lanes[(15 : LaneId)].closed = [] ∧ s.lanes[(15 : LaneId)].state = .inUse ∧ s.laneWaiters = [] ∧
        s.ports[(1 : PortId)].waiters = [] ∧ s.lanes[(15 : LaneId)].wait = some ⟨.release, soon⟩ ∧
        soon.expiry ≤ s.time.now ∧ s.sites[(0 : SiteId)].clear = none ∧ s.sites[(0 : SiteId)].abort = none ∧
        s.sites[(0 : SiteId)].running = none ∧ s.routeLanes 0 = [15]) ∧
      a.resetReq = some ⟨9, true, .stuck, [], Vector.replicate 4 .idle⟩ ∧ a.sites[(0 : SiteId)].state = .safe ∧
      (∀ l : LaneId, l ≠ 15 → a.lanes[l].route = none) ∧ (∀ it : ItemId, a.store.differs[it] = false) ∧
      b.sites[(0 : SiteId)].state = .safe ∧ b.lanes[(0 : LaneId)].route = some ⟨3, 1, 2, .stuck⟩ ∧
      c.resetReq = some ⟨9, true, .teardown, [0], Vector.replicate 4 .idle⟩ ∧ c.sites[(0 : SiteId)].state = .safing ∧
      c.sites[(0 : SiteId)].teardown = some (.fault .coilFault) ∧ c.lanes[(0 : LaneId)].route = some ⟨3, 1, 2, .stuck⟩ ∧
      c.sites[(3 : SiteId)].clear = none ∧ c.isLive 0 = true ∧ c.results.outbound.length < 16 ∧
      (∀ l : LaneId, l ≠ 0 → l ≠ 15 → c.lanes[l].route = none) ∧
      after (.releaseWaitExpiry 15) c (fun t => (t.sites[(0 : SiteId)].state, t.sites[(0 : SiteId)].stopCause,
        t.lanes[(0 : LaneId)].quiet)) = some (.safe, some .coilFault, some ⟨.unstick, none⟩) := by
  unfold State.awake State.noBacklog; decide +kernel
/-! ### Witnesses: steps -/

theorem witness_StepAcceptedOrRefused :
    let s := siteIn 3 .held (State.reset.modSite 3 fun x => { x with held := true })
    s.ready ∧ stepCommand (.stepFlush 1 3) = some (1, siteByte 3, .flush) ∧ (Instr.stepFlush 1 3).wellFormed = true ∧
      s.fullReset = false ∧ s.acceptStep 3 1 .flush = .ok .flush ∧ s.sites[(3 : SiteId)].held = true ∧
      State.reset.acceptStep 3 1 .flush = .error .noReach ∧ (fullReset .save s).ready ∧
      (fullReset .save s).fullReset = true := by
  unfold State.ready
  refine ⟨by decide +kernel, by decide, by decide, by decide +kernel, by rfl, by decide, by rfl, by decide +kernel,
    by decide +kernel⟩

/-- The head of a queue may be of every kind, and a WAIT's duration other than 0. -/
theorem witness_HeadStepStarts : ∀ b ∈ [StepBody.connect 0 1 10 0 [3], .arm 0, .disarm 0, .release 0, .measure spec,
    .scan spec 10 [⟨3, none⟩], .trigger 0 10, .wait 1, .flush],
    ((siteIn 3 .idle State.reset).modSite 3 fun x => { x with queue := [⟨1, b⟩] }).sites[(3 : SiteId)].queue = [⟨1, b⟩] ∧
      Duration.count 1 ≠ 0 := by decide +kernel
/-- A STEP accepted at an idle site and at a running one whose last step is gone; its start leaves no follow-up. -/
theorem witness_HeadStepStarts_step : ∀ st ∈ [SiteState.idle, .running],
    let s := siteIn 3 st State.reset
    let v := (s.arrive.modSite 3 fun x => { x with queue := [⟨1, .wait 1⟩] }).reply 0x02 1 3 .ok []
    let u := ((v.modLink fun k => { k with marker := some (0x02, 3) }).push .dispatch).startHead 3
    s.ready ∧ stepCommand (.stepWait 1 3 1) = some (1, siteByte 3, .wait 1) ∧ (Instr.stepWait 1 3 1).wellFormed = true ∧
      s.fullReset = false ∧ s.sites[(3 : SiteId)].reach.range ≠ none ∧ s.sites[(3 : SiteId)].state = st ∧
      s.sites[(3 : SiteId)].held = false ∧
      s.sites[(3 : SiteId)].running = none ∧ s.sites[(3 : SiteId)].queue = [] ∧ u.agenda = [.dispatch] ∧
      u.link.slots = [] ∧ u.link.replies ≠ [] := by
  unfold State.ready; decide +kernel
theorem witness_HeadStepStarts_accepted :
    (siteIn 3 .idle State.reset).acceptStep 3 1 (.wait 1) = .ok (.wait 1) ∧
      (siteIn 3 .running State.reset).acceptStep 3 1 (.wait 1) = .ok (.wait 1) := ⟨rfl, rfl⟩
/-- A WAIT with a step behind it, held and not; an ENDED step whose DONE waits for the entry that a DONE frame frees. -/
theorem witness_HeadStepStarts_next :
    let s := fun h : Bool => (running 3 ⟨1, .wait 10⟩ .waiting State.reset).modSite 3 fun x =>
      { x with queue := [⟨1, .wait 10⟩, ⟨2, .wait 1⟩], waitTimer := some soon, held := h }
    let u := (((s false).modLink fun k => { k with completion := [⟨3, 1, .ok, none, 0, 0, none, []⟩] }).modSite 3 fun x =>
      { x with queue := [⟨2, .wait 1⟩], running := none, waitTimer := none }).startHead 3
    let d : DoneFrame := ⟨3, 1, .ok, none, 0, 0, none, []⟩
    let e : DoneFrame := ⟨0, 9, .ok, none, 0, 0, none, []⟩
    let w := fun (h : Bool) (rest : List Step) => ((siteIn 3 .running State.reset).modSite 3 fun x =>
      { x with queue := ⟨1, .flush⟩ :: rest, running := some ⟨.ended, 0⟩, held := h }).modLink fun k =>
      { k with tx := some (.notice ⟨.strayDone 1 0, false⟩), completion := List.replicate 16 e, doneWaiting := [d] }
    let m := (((w false [⟨2, .wait 1⟩]).modLink fun k => { k with
      tx := some (.done e), completion := List.replicate 15 e ++ [d], doneWaiting := [] }).modSite 3 fun x =>
      { x with queue := [⟨2, .wait 1⟩], running := none }).startHead 3
    (s true).awake ∧ (s false).awake ∧ (s false).sites[(3 : SiteId)].queue = [⟨1, .wait 10⟩, ⟨2, .wait 1⟩] ∧
      (s false).sites[(3 : SiteId)].running = some ⟨.active .waiting, 0⟩ ∧ (s false).sites[(3 : SiteId)].state = .running ∧
      (s false).sites[(3 : SiteId)].carried = [] ∧ (s false).sites[(3 : SiteId)].waitTimer = some soon ∧
      soon.expiry ≤ (s false).time.now ∧ (s true).sites[(3 : SiteId)].held = true ∧ u.noBacklog ∧
      (∀ h ∈ [true, false], ∀ rest ∈ [([] : List Step), [⟨2, .wait 1⟩]],
        (w h rest).powered = true ∧ (w h rest).linkUp = true ∧ (w h rest).agenda = [] ∧ (w h rest).pins.rts = true ∧
        (w h rest).link.replies = [] ∧ (w h rest).link.completion = e :: List.replicate 15 e ∧
        (w h rest).link.doneWaiting = [d] ∧ (List.replicate 15 e).length < 16 ∧ d.site = 3 ∧
        (w h rest).sites[(3 : SiteId)].queue = ⟨1, .flush⟩ :: rest ∧ (w h rest).sites[(3 : SiteId)].held = h ∧
        (w h rest).sites[(3 : SiteId)].running = some ⟨.ended, 0⟩ ∧ (w h rest).sites[(3 : SiteId)].carried = []) ∧
      m.agenda = [] := by
  unfold State.awake State.noBacklog; decide +kernel
theorem witness_ConnectStarts :
    let s := running 0 (connectStep 0) .starting State.reset
    let w := (s.modLane 0 fun x => { x with state := .retired }).modHealth fun h => { h with record := { h.record with latch := true } }
    let other := s.modPort 0 fun x => { x with claim := some ⟨1, 7⟩ }
    let own := s.modPort 0 fun x => { x with claim := some ⟨0, 7⟩ }
    (routed 3 1 .inUse .ready s).routeLane 0 0 = some 3 ∧ s.sites[(0 : SiteId)].queue = [connectStep 0] ∧
      s.sites[(0 : SiteId)].running = some ⟨.active .starting, 0⟩ ∧ s.routeLane 0 0 = none ∧ s.claimPort 0 0 = none ∧
      s.ports[(0 : PortId)].desc.kind ≠ .none ∧ s.ports[(0 : PortId)].desc.hv = false ∧
      s.ports[(1 : PortId)].desc.kind = .none ∧ s.ports[(0 : PortId)].claim = none ∧ other.routeLane 0 0 = none ∧
      other.claimPort 0 0 = none ∧ other.ports[(0 : PortId)].claim = some ⟨1, 7⟩ ∧ (1 : SiteId) ≠ 0 ∧
      own.claimPort 0 0 = none ∧ own.ports[(0 : PortId)].claim = some ⟨0, 7⟩ ∧ s.ports[(0 : PortId)].waiters = [] ∧
      (other.modPort 0 fun x => { x with waiters := [⟨0, 0⟩] }).ports[(0 : PortId)].waiters = [⟨0, 0⟩] ∧
      s.health.record.latch = false ∧ w.health.record.latch = true ∧ w.chooseLane = some 1 ∧
      w.qualifies 15 = true := by decide +kernel
theorem witness_ConnectStarts_lane :
    let s := running 0 (connectStep 0) .laneWait State.reset
    let w : LaneWaiter := ⟨0, 1, 0, 0, [3]⟩
    let q : State := { s with laneWaiters := [w] }
    let n := s.modPins fun p => { p with live := Vector.replicate 16 true }
    Duration.count s.ocPersist ≠ 0 ∧ s.sites[w.site].queue = [⟨w.tag, .connect w.handle w.port 10 10 w.pins⟩] ∧
      s.sites[w.site].running = some ⟨.active .laneWait, 0⟩ ∧ s.laneWaiters = [] ∧ s.chooseLane = some 0 ∧
      (∀ k : LaneId, s.lanes[k].route = none) ∧ q.laneWaiters = [w] ∧ q.chooseLane = some 0 ∧ n.chooseLane = none ∧
      n.laneWaiters = [] ∧ (routed 3 1 .inUse .ready s).lanes[(3 : LaneId)].route = some ⟨0, 0, 1, .ready⟩ ∧
      pinRelay 3 ∈ (routed 3 1 .inUse .ready s).lanes[(3 : LaneId)].closed := by decide +kernel
theorem witness_RouteStepsStart :
    let s := routed 0 1 .inUse .ready State.reset
    let v := routed 0 1 .inUse .live State.reset
    let m := routed 0 0 .inUse .ready (running 0 ⟨1, .measure spec⟩ .starting State.reset)
    let t := routed 0 1 .inUse .ready (running 0 ⟨1, .trigger 0 5⟩ .starting State.reset)
    s.findRoute 0 0 = some (0, ⟨0, 0, 1, .ready⟩) ∧ s.ports[(1 : PortId)].desc.kind = .source ∧
      (s.modPort 1 fun x => { x with desc := .default }).findRoute 0 0 = some (0, ⟨0, 0, 1, .ready⟩) ∧
      (s.modPort 1 fun x => { x with desc := .default }).ports[(1 : PortId)].desc.kind ≠ .source ∧
      v.findRoute 0 0 = some (0, ⟨0, 0, 1, .live⟩) ∧ v.isLive 0 = false ∧ (live 0 v).isLive 0 = true ∧
      v.fullReset = false ∧ m.findRoute 0 0 = some (0, ⟨0, 0, 0, .ready⟩) ∧
      m.sites[(0 : SiteId)].queue = [⟨1, .measure spec⟩] ∧
      m.sites[(0 : SiteId)].running = some ⟨.active .starting, 0⟩ ∧ m.results.sites[(0 : SiteId)].pos ≠ .closedWaiting ∧
      t.findRoute 0 0 = some (0, ⟨0, 0, 1, .ready⟩) ∧ t.sites[(0 : SiteId)].queue = [⟨1, .trigger 0 5⟩] ∧
      t.sites[(0 : SiteId)].running = some ⟨.active .starting, 0⟩ ∧ t.results.sites[(0 : SiteId)].pos ≠ .closedWaiting ∧
      t.ports[(1 : PortId)].trigger = false ∧ Duration.count 5 ≠ 0 ∧ m.closing 0 = false ∧ t.closing 0 = false := by
  decide +kernel
/-- A handle that names nothing, one that names a claim without a route, and ARM and DISARM with nothing to do. -/
theorem witness_RouteStepsStart_noHandle :
    let c := State.reset.modPort 1 fun x => { x with claim := some ⟨0, 0⟩ }
    let v := routed 0 1 .inUse .live State.reset
    State.reset.findRoute 0 0 = none ∧ c.findRoute 0 0 = none ∧ (c.claimPort 0 0).isSome = true ∧
      v.findRoute 0 0 = some (0, ⟨0, 0, 1, .live⟩) ∧ v.ports[(1 : PortId)].desc.kind = .source ∧
      (routed 0 1 .inUse .ready State.reset).findRoute 0 0 = some (0, ⟨0, 0, 1, .ready⟩) := by decide +kernel

/-! ### Witnesses: faults and step ends -/

theorem witness_FaultTakesSite :
    let s := running 0 ⟨1, .wait 10⟩ .waiting State.reset
    let v := routed 0 1 .inUse .live (siteIn 0 .stopped State.reset)
    let r := routed 15 1 .inUse .ready (siteIn 0 .held State.reset)
    s.noBacklog ∧ s.sites[(0 : SiteId)].state = .running ∧ s.sites[(0 : SiteId)].queue = [⟨1, .wait 10⟩] ∧
      s.sites[(0 : SiteId)].running = some ⟨.active .waiting, 0⟩ ∧ s.sites[(0 : SiteId)].carried = [] ∧
      s.link.completion.length < 16 ∧ s.results.outbound.length < 16 ∧ s.routeLanes 0 = [] ∧ s.routelessPorts 0 = [] ∧
      s.resetReq = none ∧
      (siteIn 0 .safing State.reset).sites[(0 : SiteId)].state = .safing ∧ v.sites[(0 : SiteId)].state = .stopped ∧
      v.lanes[(0 : LaneId)].route = some ⟨0, 0, 1, .live⟩ ∧ r.sites[(0 : SiteId)].state = .held ∧
      r.sites[(0 : SiteId)].queue = [] ∧ r.sites[(0 : SiteId)].running = none ∧ r.routeLanes 0 = [15] ∧
      r.lanes[(15 : LaneId)].route = some ⟨0, 0, 1, .ready⟩ ∧ r.isLive 15 = false ∧
      r.lanes[(15 : LaneId)].pinRelays ≠ [] ∧ r.routelessPorts 0 = [] := by
  unfold State.noBacklog; decide +kernel
/-- A second fault before the first carried DONE has entered: each carried step keeps its own DONE (R12). -/
theorem test_two_carried :
    let s := (siteIn 0 .idle State.reset).modSite 0 fun x =>
      { x with queue := [connectStep 1, ⟨2, .wait 10⟩, ⟨3, .wait 10⟩], running := some ⟨.ended, 0⟩ }
    let t := (s.takeFault 0 .coilFault).modSite 0 fun x => { x with state := .idle, queue := x.queue ++ [⟨4, .flush⟩] }
    let u := t.takeFault 0 .overcurrent
    (u.sites[(0 : SiteId)].queue.map Step.tag, u.sites[(0 : SiteId)].carried.map fun d => (d.tag, d.failure, d.discarded)) =
      ([1, 2, 4], [(2, some .coilFault, [3]), (4, some .overcurrent, [])]) := by decide +kernel
/-- An ABORT of site 3 frees a port whose waiter, site 0, then fails with PIN_BUSY: the DONE of site 0 enters first (R192). -/
theorem test_dones_ascend :
    let s := (running 3 ⟨1, .connect 1 1 10 10 [5]⟩ .portWait (running 0 ⟨2, .connect 0 2 10 10 [3]⟩ .portWait State.reset))
    let s := (s.modPort 2 fun x => { x with claim := some ⟨3, 2⟩, waiters := [⟨0, 0⟩] }).modPort 1 fun x =>
      { x with claim := some ⟨2, 0⟩, waiters := [⟨3, 1⟩] }
    let s := s.modLane 0 fun x => { x with state := .inUse, route := some ⟨2, 0, 1, .ready⟩, closed := [3, 257] }
    after (.abort 9 3) (s.modPins fun p => { p with rts := false }) (fun t => t.link.completion.map fun d =>
      (d.site, d.failure)) = some [(0, some .pinBusy), (3, none)] := by decide +kernel
/-- Site 1's RELEASE of a claim fails its waiter, site 3, with PIN_BUSY, and site 1's FLUSH then starts: the block of site 1
closes first (R138). -/
theorem test_closings_ascend :
    let mark : Reading := .mark ⟨1, 0, false, 0, 0⟩
    let o := fun (i : SiteId) (s : State) => s.modRes i fun x => { x with pos := .opened 2 [mark] }
    let s := o 1 (o 3 (running 3 ⟨2, .connect 0 2 10 10 [3]⟩ .portWait (siteIn 1 .held State.reset)))
    let s := (s.modSite 1 fun x => { x with queue := [⟨5, .release 7⟩, ⟨6, .flush⟩] }).modPort 2 fun x =>
      { x with claim := some ⟨1, 7⟩, waiters := [⟨3, 0⟩] }
    let s := s.modLane 0 fun x => { x with state := .inUse, route := some ⟨2, 0, 1, .ready⟩, closed := [3, 257] }
    after (.resume 9 1) (s.modPins fun p => { p with rts := false }) (fun t => t.results.outbound.map fun b =>
      (b.site, b.cause)) = some [(1, .flush), (3, .ended)] := by decide +kernel
theorem witness_ClaimTimerFailsConnect : ∀ ph ∈ [Phase.portWait, .laneWait],
    let s := (running 0 (connectStep 1) ph State.reset).modSite 0 fun x => { x with claimTimer := some soon }
    s.awake ∧ s.sites[(0 : SiteId)].claimTimer = some soon ∧ soon.expiry ≤ s.time.now ∧
      s.sites[(0 : SiteId)].queue = [connectStep 1] ∧
      (connectStep 1).body = .connect 0 1 10 10 [3] ∧ s.sites[(0 : SiteId)].running = some ⟨.active ph, 0⟩ ∧
      s.sites[(0 : SiteId)].carried = [] ∧ s.link.completion.length < 16 ∧ s.results.outbound.length < 16 := by
  unfold State.awake State.noBacklog; decide +kernel
theorem witness_WaitTimerEndsWait :
    let s := (running 3 ⟨1, .wait 10⟩ .waiting State.reset).modSite 3 fun x => { x with waitTimer := some soon }
    s.awake ∧ s.runsAlone 3 ⟨1, .wait 10⟩ .waiting 0 ∧ s.sites[(3 : SiteId)].waitTimer = some soon ∧
      soon.expiry ≤ s.time.now := by
  unfold State.awake State.noBacklog State.runsAlone; decide +kernel
theorem witness_DoneTimerFailsTrigger :
    let s := triggered 11 (running 0 ⟨7, .trigger 0 10⟩ .doneWait State.reset)
    s.awake ∧ s.ports[(11 : PortId)].doneTimer = some soon ∧ soon.expiry ≤ s.time.now ∧
      s.ports[(11 : PortId)].wait = some ⟨0, 7, 0⟩ ∧
      s.sites[(0 : SiteId)].queue = [⟨7, .trigger 0 10⟩] ∧
      s.sites[(0 : SiteId)].running = some ⟨.active .doneWait, 0⟩ ∧ s.sites[(0 : SiteId)].carried = [] ∧
      s.link.completion.length < 16 ∧ s.results.outbound.length < 16 := by
  unfold State.awake State.noBacklog; decide +kernel

/-! ### Witnesses: lanes -/

/-- LOAD_DONE of each kind of load: going on, in a teardown on a quiet and on a live lane, and read back. -/
theorem witness_LoadDoneGoesOn :
    let at_ := fun (k : LoadKind) (rs : RouteState) (st : SiteState) =>
      loading 15 k (routed 15 1 .inUse rs (siteIn 0 st State.reset))
    let st : Step := ⟨1, .scan spec 10 [⟨5, none⟩, ⟨3, none⟩]⟩
    let f := fun ph : Phase => loading 15 .closing (routed 15 1 .inUse .closing (running 0 st ph State.reset))
    (at_ .closing .closing .idle).awake ∧ (at_ .closing .closing .idle).lanes[(15 : LaneId)].load = some ⟨.closing, [3], [3]⟩ ∧
      (at_ .closing .closing .idle).lanes[(15 : LaneId)].route = some ⟨0, 0, 1, .closing⟩ ∧
      (at_ .closing .closing .idle).tearing 0 = false ∧ Duration.count (at_ .closing .closing .idle).operateTime ≠ 0 ∧
      (at_ .opening .switching .idle).awake ∧ (at_ .opening .switching .idle).tearing 0 = false ∧
      (at_ .opening .switching .idle).lanes[(15 : LaneId)].route = some ⟨0, 0, 1, .switching⟩ ∧
      Duration.count (at_ .opening .switching .idle).releaseTime ≠ 0 ∧ (at_ .hot .stuck .safe).awake ∧
      (at_ .hot .stuck .safe).lanes[(15 : LaneId)].load = some ⟨.hot, [3], [3]⟩ ∧
      (at_ .hot .stuck .safe).lanes[(15 : LaneId)].route = some ⟨0, 0, 1, .stuck⟩ ∧ RouteState.opening ≠ .switching ∧
      (at_ .closing .closing .safing).awake ∧ (at_ .closing .closing .safing).tearing 0 = true ∧
      (at_ .closing .closing .safing).isLive 15 = false ∧ (live 15 (at_ .closing .closing .safing)).awake ∧
      (live 15 (at_ .closing .closing .safing)).isLive 15 = true ∧
      (live 15 (at_ .closing .closing .safing)).unbounded 15 = false ∧
      (∀ ph ∈ [Phase.closing, .switch], (f ph).awake ∧ (f ph).isLive 15 = false ∧ (f ph).sites[(0 : SiteId)].state = .running ∧
        (f ph).sites[(0 : SiteId)].queue = [st] ∧ (f ph).sites[(0 : SiteId)].running = some ⟨.active ph, 0⟩ ∧
        (f ph).sites[(0 : SiteId)].carried = [] ∧ (f ph).link.completion.length < 16 ∧ (f ph).routeLanes 0 = [15] ∧
        (f ph).routelessPorts 0 = []) ∧ ([3] : List Relay) ≠ [] := by
  unfold State.awake State.noBacklog; decide +kernel
theorem witness_LoadReports :
    State.reset.countsWf ∧ ([267, 0] : List Relay).Nodup ∧ ([] : List Relay).Nodup ∧ ([267] : List Relay) ≠ [] ∧
      (routed 0 1 .inUse .closing State.reset).lanes[(0 : LaneId)].state = .inUse ∧ (1 : LaneId) ≠ 0 := by
  unfold State.countsWf; decide +kernel
/-- A load done while another write is in flight, on an idle store, and with RETIRE_AT_END on at life 0. -/
theorem witness_LoadReports_store :
    let busy := State.reset.modStore fun t => { t with inFlight := some writing }
    let worn := (State.reset.modStore fun t => { t with config := upd t.config 12 fun _ => 1 }).modWear 0 fun x =>
      { x with counts := [(0, 4294967295)], unsaved := 4294967295 }
    busy.countsWf ∧ busy.store.inFlight ≠ none ∧ State.reset.store.inFlight = none ∧ State.reset.store.pendingWrites = [] ∧
      State.reset.inPhase .startup = false ∧ worn.countsWf ∧ worn.retireAtEnd = true ∧
      ((worn.healthLoad 0 ⟨.hot, [], [0]⟩ []).health.lanes[(0 : LaneId)]).life = 0 ∧
      worn.lanes[(0 : LaneId)].state = .free ∧ worn.autosaveThreshold ≤ 4294967295 := by
  unfold State.countsWf; decide +kernel
/-- A hot load of two relays whose readback names one of them twice and an already marked one (R149 to R152). -/
theorem test_load_report :
    let s := (State.reset.modWear 0 fun x => { x with marks := [7] }).modStore fun t => { t with inFlight := some writing }
    let u := s.healthLoad 0 ⟨.hot, [], [5, 6]⟩ [6, 7, 6]
    u.health.record.hotOps = 2 ∧ u.health.record.coilFaults = 1 ∧ (u.health.lanes[(0 : LaneId)]).unsaved = 100 ∧
      (u.health.lanes[(0 : LaneId)]).counts = [(5, 50), (6, 50)] ∧ u.lanes[(0 : LaneId)].state = .retired ∧
      u.store.pendingWrites = [0, 19] := by decide +kernel
theorem witness_ConnectWaits : ∀ k ∈ [WaitKind.operate, .settle],
    let s := laneWait 15 k (routed 15 1 .inUse .closing (running 0 (connectStep 1) .closing State.reset))
    s.awake ∧ s.lanes[(15 : LaneId)].route = some ⟨0, 0, 1, .closing⟩ ∧ s.runsAlone 0 (connectStep 1) .closing 0 ∧
      s.lanes[(15 : LaneId)].wait = some ⟨k, soon⟩ ∧ soon.expiry ≤ s.time.now ∧ RouteState.closing ≠ .live ∧
      Duration.count 10 ≠ 0 := by
  unfold State.awake State.noBacklog State.runsAlone; decide +kernel
/-- The operate wait of a SCAN's switch, and settles of count 0. -/
theorem witness_ConnectWaits_scan :
    let st : Step := ⟨1, .scan spec 10 [⟨5, none⟩]⟩
    let s := laneWait 15 .operate (routed 15 0 .inUse .switching (running 0 st .switch State.reset))
    s.awake ∧ s.lanes[(15 : LaneId)].route = some ⟨0, 0, 0, .switching⟩ ∧ s.sites[(0 : SiteId)].queue = [st] ∧
      s.sites[(0 : SiteId)].running = some ⟨.active .switch, 0⟩ ∧ s.lanes[(15 : LaneId)].wait = some ⟨.operate, soon⟩ ∧
      soon.expiry ≤ s.time.now ∧ Duration.count 0 = 0 := by
  unfold State.awake State.noBacklog; decide +kernel
theorem witness_ReleaseTimerOpensRoute :
    let s := laneWait 15 .release (routed 15 1 .inUse .opening (running 0 ⟨1, .release 0⟩ .releasing State.reset))
    let p := s.modLane 15 fun x => { x with closed := [257] }
    let e := s.modLane 15 fun x => { x with closed := [] }
    p.awake ∧ p.lanes[(15 : LaneId)].route = some ⟨0, 0, 1, .opening⟩ ∧
      p.lanes[(15 : LaneId)].wait = some ⟨.release, soon⟩ ∧ p.lanes[(15 : LaneId)].closed ≠ [] ∧ soon.expiry ≤ p.time.now ∧
      soon.expiry ≤ e.time.now ∧
      p.lanes[(15 : LaneId)].pinRelays = [] ∧ p.isLive 15 = false ∧ e.awake ∧
      e.lanes[(15 : LaneId)].route = some ⟨0, 0, 1, .opening⟩ ∧ e.lanes[(15 : LaneId)].wait = some ⟨.release, soon⟩ ∧
      e.lanes[(15 : LaneId)].closed = [] ∧ e.lanes[(15 : LaneId)].state = .inUse ∧ e.laneWaiters = [] ∧
      e.ports[(1 : PortId)].waiters = [] ∧ e.runsAlone 0 ⟨1, .release 0⟩ .releasing 0 ∧
      e.sites[(0 : SiteId)].clear = none ∧ e.resetReq = none := by
  unfold State.awake State.noBacklog State.runsAlone; decide +kernel
/-- An opening behind a live lane, a forced CLEAR's port relay, a SCAN's switch with its pin open and closed. -/
theorem witness_ReleaseTimerOpensRoute_loads :
    let st : Step := ⟨1, .scan spec 10 [⟨5, none⟩, ⟨3, none⟩]⟩
    let port := fun rs : RouteState => (laneWait 15 .release (routed 15 1 .inUse rs (siteIn 0 .safe State.reset))).modLane 15
      fun x => { x with closed := [257] }
    let w := laneWait 15 .release (routed 15 0 .inUse .switching (running 0 st .switch State.reset))
    let v := w.modSite 0 fun x => { x with running := some ⟨.active .switch, 1⟩ }
    (live 15 (port .opening)).awake ∧ (live 15 (port .opening)).isLive 15 = true ∧
      (port .opening).lanes[(15 : LaneId)].wait = some ⟨.release, soon⟩ ∧
      (live 15 (port .opening)).fullReset = false ∧ (port .stuck).awake ∧
      (port .stuck).lanes[(15 : LaneId)].route = some ⟨0, 0, 1, .stuck⟩ ∧
      (port .stuck).lanes[(15 : LaneId)].pinRelays = [] ∧ (port .stuck).lanes[(15 : LaneId)].closed ≠ [] ∧ w.awake ∧
      w.lanes[(15 : LaneId)].route = some ⟨0, 0, 0, .switching⟩ ∧ w.lanes[(15 : LaneId)].wait = some ⟨.release, soon⟩ ∧
      w.sites[(0 : SiteId)].queue = [st] ∧ w.sites[(0 : SiteId)].running = some ⟨.active .switch, 0⟩ ∧
      pinRelay 5 ∉ w.lanes[(15 : LaneId)].closed ∧ w.isLive 15 = false ∧ (live 15 w).isLive 15 = true ∧
      (live 15 w).fullReset = false ∧ v.sites[(0 : SiteId)].running = some ⟨.active .switch, 1⟩ ∧
      pinRelay 3 ∈ v.lanes[(15 : LaneId)].closed ∧ Duration.count 10 ≠ 0 := by
  unfold State.awake State.noBacklog; decide +kernel
/-- Site 0 without a step, whose last relays are open on lane 15, IN_USE or RETIRING. -/
def leaving (ls : LaneState) (rs : RouteState) (st : SiteState) (td : Option Teardown) (q : Option AbortReq)
    (c : Option ClearReq) : State :=
  ((laneWait 15 .release (routed 15 1 ls rs (siteIn 0 st State.reset))).modLane 15 fun x => { x with closed := [] }).modSite 0
    fun x => { x with teardown := td, abort := q, clear := c }
/-- The removal that ends a plain or forced CLEAR, an ABORT, a fault's teardown or a RUN reset's: nothing else stands. -/
theorem witness_ReleaseTimerOpensRoute_ends : ∀ ls ∈ [LaneState.inUse, .retiring],
    let f := leaving ls .stuck .safe none none (some ⟨9, true⟩)
    let p := leaving ls .opening .safe none none (some ⟨9, false⟩)
    let a := leaving ls .opening .aborting (some .abort) (some ⟨4, [1, 2]⟩) none
    let t := leaving ls .opening .safing (some (.fault .coilFault)) none none
    let r := leaving ls .opening .aborting (some .runReset) none none
    (∀ s ∈ [f, p, a, t, r], s.awake ∧ s.lanes[(15 : LaneId)].wait = some ⟨.release, soon⟩ ∧ soon.expiry ≤ s.time.now ∧
      s.lanes[(15 : LaneId)].closed = [] ∧ s.lanes[(15 : LaneId)].state = ls ∧ s.ports[(1 : PortId)].waiters = [] ∧
      s.laneWaiters = [] ∧ (∀ k : LaneId, k ≠ 15 → s.lanes[k].route = none)) := by
  unfold State.awake State.noBacklog; decide +kernel
theorem witness_ReleaseTimerOpensRoute_sites : ∀ ls ∈ [LaneState.inUse, .retiring],
    let f := leaving ls .stuck .safe none none (some ⟨9, true⟩)
    let p := leaving ls .opening .safe none none (some ⟨9, false⟩)
    let a := leaving ls .opening .aborting (some .abort) (some ⟨4, [1, 2]⟩) none
    let t := leaving ls .opening .safing (some (.fault .coilFault)) none none
    let r := leaving ls .opening .aborting (some .runReset) none none
    (∀ s ∈ [f, p, a, t, r], s.sites[(0 : SiteId)].running = none ∧ s.sites[(0 : SiteId)].queue = [] ∧
      s.fullReset = false ∧ s.results.outbound.length < 16) ∧
      f.lanes[(15 : LaneId)].route = some ⟨0, 0, 1, .stuck⟩ ∧ p.lanes[(15 : LaneId)].route = some ⟨0, 0, 1, .opening⟩ ∧
      f.sites[(0 : SiteId)].clear = some ⟨9, true⟩ ∧ p.sites[(0 : SiteId)].clear = some ⟨9, false⟩ ∧
      a.sites[(0 : SiteId)].abort = some ⟨4, [1, 2]⟩ ∧ t.sites[(0 : SiteId)].teardown = some (.fault .coilFault) ∧
      r.sites[(0 : SiteId)].teardown = some .runReset ∧ r.sites[(0 : SiteId)].clear = none := by decide +kernel
/-- The same removals while another route of the site is left, STUCK or OPENING, and with a RUN reset that waits for the
site. -/
theorem witness_ReleaseTimerOpensRoute_left : ∀ rs ∈ [RouteState.stuck, .opening],
    let o := fun s : State => s.modLane 0 fun x => { x with state := .inUse, route := some ⟨0, 1, 2, rs⟩, closed := [258] }
    let q : ResetReq := ⟨9, false, .teardown, [0], Vector.replicate 4 .idle⟩
    let p := o (leaving .inUse .opening .safe none none (some ⟨9, false⟩))
    let a := o (leaving .inUse .opening .aborting (some .abort) (some ⟨4, [1, 2]⟩) none)
    let w : State := { a with resetReq := some q }
    (∀ s ∈ [p, a, w], s.awake ∧ s.lanes[(15 : LaneId)].route = some ⟨0, 0, 1, .opening⟩ ∧
      s.lanes[(0 : LaneId)].route = some ⟨0, 1, 2, rs⟩ ∧ (∀ k : LaneId, k ≠ 15 → k ≠ 0 → s.lanes[k].route = none) ∧
      s.fullReset = false) ∧ a.tearing 0 = true ∧ p.sites[(0 : SiteId)].clear = some ⟨9, false⟩ := by
  unfold State.awake State.noBacklog; decide +kernel
/-- The last removal of a forced CLEAR: the site is IDLE and the CLEAR's reply reports OK (R21). -/
theorem test_clear_ends :
    let s := leaving .inUse .stuck .safe none none (some ⟨9, true⟩)
    after (.releaseWaitExpiry 15) (s.modPins fun p => { p with rts := false }) (fun t =>
      (t.sites[(0 : SiteId)].state, t.link.replies.map fun r => (r.kind, r.tag, r.data))) = some (.idle, [(6, 9, [0])]) := by
  decide +kernel
/-- The end of an ABORT that completes a RUN reset: the ABORT's reply stands before the RESET's (log entry 40). -/
theorem test_abort_before_reset :
    let s : State := { leaving .inUse .opening .aborting (some .abort) (some ⟨4, [1, 2]⟩) none with
      resetReq := some ⟨9, false, .teardown, [0], Vector.replicate 4 .idle⟩ }
    after (.releaseWaitExpiry 15) (s.modPins fun p => { p with rts := false }) (fun t =>
      (t.resetReq, t.link.replies.map fun r => (r.kind, r.tag, r.data))) =
      some (none, [(5, 4, [0, 2, 1, 2]), (0x15, 9, [0, 0, 0, 0, 0, 0])]) := by decide +kernel
/-- A freed lane with a lane waiter, and a freed port with a waiter: where the lane qualifies, where it reads live, and behind
another lane waiter. -/
theorem witness_ReleaseTimerOpensRoute_waiters :
    let c : Step := ⟨7, .connect 2 1 10 10 [9]⟩
    let w : LaneWaiter := ⟨3, 7, 2, 5, [9]⟩
    let s := fun (ph : Phase) => laneWait 15 .release ((((routed 15 1 .inUse .opening
      (running 3 c ph (running 0 ⟨1, .release 0⟩ .releasing State.reset))).modLane 15 fun x => { x with closed := [] })).modPins
      fun p => { p with live := Vector.ofFn fun k => decide (k.val < 15) })
    let lw : State := { s .laneWait with laneWaiters := [w] }
    let pw := (s .portWait).modPort 1 fun x => { x with waiters := [⟨3, 2⟩] }
    let none_ := live 15 pw
    lw.awake ∧ lw.lanes[(15 : LaneId)].route = some ⟨0, 0, 1, .opening⟩ ∧ lw.lanes[(15 : LaneId)].closed = [] ∧
      lw.lanes[(15 : LaneId)].state = .inUse ∧ lw.lanes[(15 : LaneId)].wait = some ⟨.release, soon⟩ ∧
      soon.expiry ≤ lw.time.now ∧ lw.runsAlone 0 ⟨1, .release 0⟩ .releasing 0 ∧ lw.sites[(0 : SiteId)].clear = none ∧
      lw.resetReq = none ∧ lw.laneWaiters = [w] ∧ w.site ≠ 0 ∧ lw.isLive 15 = false ∧
      (∀ k : LaneId, k ≠ 15 → lw.lanes[k].state = .free → lw.pins.live[k] = true) ∧ Duration.count lw.ocPersist ≠ 0 ∧
      lw.ports[(1 : PortId)].waiters = [] ∧ pw.awake ∧ pw.runsAlone 0 ⟨1, .release 0⟩ .releasing 0 ∧
      pw.ports[(1 : PortId)].waiters = [⟨3, 2⟩] ∧ pw.sites[(3 : SiteId)].queue = [c] ∧
      pw.sites[(3 : SiteId)].running = some ⟨.active .portWait, 0⟩ ∧
      (∀ k : LaneId, k ≠ 15 → pw.lanes[k].route = none) ∧ pinRelay 9 ∉ pw.lanes[(15 : LaneId)].closed ∧
      pw.laneWaiters = [] ∧ pw.isLive 15 = false ∧
      (∀ k : LaneId, (k = 15 ∨ none_.lanes[k].state = .free) → none_.pins.live[k] = true) := by
  unfold State.awake State.noBacklog State.runsAlone; decide +kernel
theorem witness_ResultBlocks :
    let mark : Reading := .mark ⟨1, 0, false, 0, 0⟩
    let b : Block := ⟨3, 0, .fill, [mark]⟩
    let o := fun p : BlockPos => State.reset.modRes 0 fun x => { x with pos := p, reserved := true }
    let full : State := { State.reset with results := { State.reset.results with outbound := List.replicate 16 b } }
    let one := State.reset.modStore fun t => { t with config := upd t.config 0 fun _ => 1 }
    (o (.opened 2 [mark])).results.sites[(0 : SiteId)].pos = .opened 2 [mark] ∧ [mark] ≠ [] ∧
      State.reset.results.outbound.length < 16 ∧ State.reset.results.waiting = [] ∧ 16 ≤ full.results.outbound.length ∧
      (∀ (cap : Nat) (rs : List Reading), State.reset.results.sites[(0 : SiteId)].pos = .opened cap rs → rs = []) ∧
      (o .empty).results.sites[(0 : SiteId)].reserved = true ∧ (o .empty).results.sites[(0 : SiteId)].pos = .empty ∧
      1 < State.reset.blockFill ∧ one.blockFill ≤ 1 ∧ [mark].length + 1 < 3 ∧ 2 ≤ [mark].length + 1 := by
  refine ⟨by decide +kernel, by decide, by decide, by decide, by decide, ?_, by decide +kernel, by decide +kernel,
    by decide +kernel, by decide +kernel, by decide, by decide⟩
  intro cap rs h
  rw [show State.reset.results.sites[(0 : SiteId)].pos = BlockPos.empty from rfl] at h
  cases h
/-- Two sites whose blocks close at one event, and a site whose block closes already. -/
theorem witness_ResultBlocks_order :
    let mark : Reading := .mark ⟨1, 0, false, 0, 0⟩
    let o := fun (i : SiteId) (s : State) => s.modRes i fun x => { x with pos := .opened 2 [mark] }
    let s := (o 0 (o 3 State.reset)).modPins fun p => { p with rts := false }
    (0 : SiteId) < 3 ∧ s.agenda = [] ∧ s.mayBegin = false ∧ s.sites[(0 : SiteId)].running = none ∧
      s.sites[(3 : SiteId)].running = none ∧ s.closing 3 = false ∧ (s.noteClosure 3 .fill).closing 3 = true ∧
      (nextOf ((s.noteClosure 3 .flush).noteClosure 0 .fill).finish).map (fun t => t.results.outbound.map fun b =>
        (b.site, b.cause)) = some [(0, .fill), (3, .flush)] := by decide +kernel
theorem witness_ResultBlocks_sent : ∀ p ∈ [((⟨1, .measure spec⟩ : Step), Phase.blockWait), (⟨1, .flush⟩, .flushWait)],
    let b : Block := ⟨0, 0, .fill, []⟩
    let x : TxFrame := .done ⟨0, 1, .ok, none, 0, 0, none, []⟩
    let s : State := { (running 0 p.1 p.2 State.reset).modLink (fun k => { k with tx := some x }) with
      results := { State.reset.results with outbound := List.replicate 16 b, waiting := [b] } }
    let t : State := { State.reset.modLink (fun k => { k with tx := some x }) with results := s.results }
    s.powered = true ∧ s.linkUp = true ∧ s.agenda = [] ∧ s.link.slots = [] ∧ s.link.doneWaiting = [] ∧ s.pins.rts = true ∧
      s.link.tx = some x ∧ s.link.replies = [] ∧ s.link.completion = [] ∧ (∀ m : Fin 9, s.link.notices[m] = none) ∧
      s.results.outbound = b :: List.replicate 15 b ∧ s.results.waiting = [b] ∧ (List.replicate 15 b).length < 16 ∧
      s.runsAlone 0 p.1 p.2 0 ∧ t.linkUp = true ∧ t.sites[(0 : SiteId)].running = none := by
  unfold State.runsAlone; decide +kernel
theorem witness_ResultBlocks_flush : ∀ p ∈ [BlockPos.closedWaiting, .empty],
    let s := (siteIn 3 .idle State.reset).modRes 3 fun x => { x with pos := p }
    s.ready ∧ s.fullReset = false ∧ s.link.doneWaiting = [] ∧ s.link.completion.length < 16 ∧
      s.sites[(3 : SiteId)].reach.range ≠ none ∧ s.sites[(3 : SiteId)].state = .idle ∧ s.sites[(3 : SiteId)].queue = [] ∧
      s.sites[(3 : SiteId)].running = none ∧ s.sites[(3 : SiteId)].held = false ∧ s.sites[(3 : SiteId)].carried = [] ∧
      (s.arrive.closeBlock 3 .flush).results.sites[(3 : SiteId)].pos = p := by
  unfold State.ready; decide +kernel
theorem witness_ScanAndReadings_route :
    let pts : List ScanPoint := [⟨5, none⟩]
    let s := routed 15 0 .inUse .ready (running 0 ⟨1, .scan spec 10 (⟨3, none⟩ :: pts)⟩ .starting State.reset)
    let v := routed 15 1 .inUse .live State.reset
    let c := State.reset.modPort 1 fun x => { x with claim := some ⟨0, 7⟩ }
    let e := s.modLane 15 fun x => { x with closed := [256] }
    let k := s.modLane 15 fun x => { x with closed := [5, 256] }
    let z := s.modRes 0 fun x => { x with pos := .closedWaiting }
    s.findRoute 0 0 = some (15, ⟨0, 0, 0, .ready⟩) ∧ s.unbounded 15 = false ∧ s.lanes[(15 : LaneId)].pinRelays ≠ [] ∧
      s.isLive 15 = false ∧ (live 15 s).isLive 15 = true ∧ v.findRoute 0 0 = some (15, ⟨0, 0, 1, .live⟩) ∧
      v.unbounded 15 = false ∧ v.lanes[(15 : LaneId)].pinRelays ≠ [] ∧ (live 15 v).isLive 15 = true ∧
      s.findRoute 0 7 = none ∧ s.claimPort 0 7 = none ∧ c.findRoute 0 7 = none ∧ c.claimPort 0 7 = some 1 ∧
      c.ports[(1 : PortId)].waiters = [] ∧ s.sites[(0 : SiteId)].queue = [⟨1, .scan spec 10 (⟨3, none⟩ :: pts)⟩] ∧
      s.sites[(0 : SiteId)].running = some ⟨.active .starting, 0⟩ ∧
      s.results.sites[(0 : SiteId)].pos ≠ .closedWaiting ∧ z.results.sites[(0 : SiteId)].pos = .closedWaiting ∧
      s.routeLane 0 0 = some 15 ∧ s.lanes[(15 : LaneId)].route = some ⟨0, 0, 0, .ready⟩ ∧
      (s.lanes[(15 : LaneId)].closed.filter fun q => decide (q.val < 256 ∧ q ≠ pinRelay 3)) = [] ∧
      pinRelay 3 ∈ s.lanes[(15 : LaneId)].closed ∧ pinRelay 3 ∉ e.lanes[(15 : LaneId)].closed ∧
      (e.lanes[(15 : LaneId)].closed.filter fun q => decide (q.val < 256 ∧ q ≠ pinRelay 3)) = [] ∧
      (k.lanes[(15 : LaneId)].closed.filter fun q => decide (q.val < 256 ∧ q ≠ pinRelay 3)) ≠ [] ∧
      Duration.count 10 ≠ 0 ∧ s.closing 0 = false ∧ (s.push (.closure 0 .fill)).closing 0 = true := by decide +kernel
theorem witness_ScanAndReadings_held :
    let s := routed 15 0 .inUse .ready (routed 0 1 .inUse .ready State.reset)
    ∃ (k : LaneId) (u : Route), s.lanes[k].route = some u ∧ k ≠ 15 ∧ pinRelay 3 ∈ s.lanes[k].closed :=
  ⟨0, ⟨0, 0, 1, .ready⟩, by decide +kernel⟩
theorem witness_ScanAndReadings_points :
    let pts : List ScanPoint := [⟨5, none⟩, ⟨3, none⟩]
    let s := laneWait 15 .settle (routed 15 0 .inUse .switching (running 0 ⟨1, .scan spec 10 pts⟩ .switch State.reset))
    let a := running 0 ⟨1, .scan spec 10 pts⟩ .acquire State.reset
    let m := running 0 ⟨1, .measure spec⟩ .acquire State.reset
    let h := a.modSite 0 fun x => { x with held := true }
    let z := a.modRes 0 fun x => { x with pos := .closedWaiting }
    s.awake ∧ s.lanes[(15 : LaneId)].wait = some ⟨.settle, soon⟩ ∧ soon.expiry ≤ s.time.now ∧
      s.lanes[(15 : LaneId)].route = some ⟨0, 0, 0, .switching⟩ ∧ s.sites[(0 : SiteId)].queue = [⟨1, .scan spec 10 pts⟩] ∧
      s.sites[(0 : SiteId)].running = some ⟨.active .switch, 0⟩ ∧ pts[0]? = some ⟨5, none⟩ ∧
      a.sites[(0 : SiteId)].running = some ⟨.active .acquire, 0⟩ ∧ a.sites[(0 : SiteId)].queue = [⟨1, .scan spec 10 pts⟩] ∧
      m.sites[(0 : SiteId)].running = some ⟨.active .acquire, 0⟩ ∧ m.sites[(0 : SiteId)].queue = [⟨1, .measure spec⟩] ∧
      0 + 1 ≠ pts.length ∧ 1 + 1 = pts.length ∧ h.sites[(0 : SiteId)].held = true ∧ a.sites[(0 : SiteId)].held = false ∧
      z.results.sites[(0 : SiteId)].pos = .closedWaiting ∧ a.results.sites[(0 : SiteId)].pos ≠ .closedWaiting ∧
      pts[0 + 1]? = some ⟨3, none⟩ ∧ spec.stop.low = false ∧ a.closing 0 = false ∧
      (a.push (.closure 0 .fill)).closing 0 = true := by
  unfold State.awake State.noBacklog; decide +kernel
/-- The last sample of a pass: of a MEASURE's final pass, with a verdict in the stop set and not, and of a pass that is
retried. -/
theorem witness_ScanAndReadings_reading :
    let lim : Option Limits := some ⟨0, 100, 0⟩
    let m := fun low : Bool => MeterSpec.mk 0 4 0 false false ⟨low, false, false, false⟩ lim
    let a := { acq false with taken := 3, limits := lim }
    let r := { a with autorange := true, range := 2, hv := true }
    let s := fun low : Bool => ((running 0 ⟨1, .measure (m low)⟩ .acquire State.reset).modRes 0 fun x =>
      { x with reserved := true }).modMeter fun x => { x with acq := some a }
    (s true).awake ∧ (s true).meter.acq = some a ∧ a.switching = false ∧ a.timer.expiry ≤ (s true).time.now ∧
      a.taken + 1 = 2 ^ a.aperture.val ∧ 0 ≤ a.clip ∧ r.autorange = true ∧ r.range ≠ 3 ∧ r.range ≠ 5 ∧ r.hv = true ∧
      (2000 : BitVec 18).toInt > r.clip ∧ (s true).sites[(0 : SiteId)].queue = [⟨1, .measure (m true)⟩] ∧
      (s true).sites[(0 : SiteId)].running = some ⟨.active .acquire, 0⟩ ∧ (s true).sites[(0 : SiteId)].state = .running ∧
      (s true).sites[(0 : SiteId)].held = false ∧ (s true).sites[(0 : SiteId)].carried = [] ∧
      (s true).link.completion.length < 16 ∧ (s true).results.outbound.length < 16 ∧
      (s true).results.sites[(0 : SiteId)].reserved = true ∧ (s true).results.sites[(0 : SiteId)].pos = .empty ∧
      1 < (s true).blockFill ∧
      after (.sampleTimerExpiry (BitVec.ofInt 18 (-9))) (s true) (fun t => t.sites[(0 : SiteId)].state) = some .stopped ∧
      after (.sampleTimerExpiry (BitVec.ofInt 18 (-9))) (s false) (fun t => t.sites[(0 : SiteId)].state) = some .idle := by
  unfold State.awake State.noBacklog; decide +kernel
theorem witness_LiveInput :
    let s := live 15 (routed 15 1 .inUse .ready State.reset)
    let q := s.modLane 15 fun x => { x with quiet := some ⟨.load ⟨.opening, [], [3]⟩, some soon⟩ }
    q.awake ∧ q.isLive 15 = true ∧ q.lanes[(15 : LaneId)].quiet = some ⟨.load ⟨.opening, [], [3]⟩, some soon⟩ ∧ s.awake ∧
      s.isLive 15 = true ∧ s.lanes[(15 : LaneId)].quiet = none ∧ s.lanes[(15 : LaneId)].state ≠ .free ∧
      s.fullReset = false := by
  unfold State.awake State.noBacklog; decide +kernel
/-- A disarm that waits for quiet, in a teardown, in a RELEASE and in a DISARM; a STUCK route that a FULL reset opens; a FREE
lane with a lane waiter. -/
theorem witness_LiveInput_waiting :
    let at_ := fun (a : QuietAction) (rs : RouteState) (u : State) => (live 15 (routed 15 1 .inUse rs u)).modLane 15 fun x =>
      { x with quiet := some ⟨a, none⟩ }
    let t := at_ .disarm .quieting (siteIn 0 .safing State.reset)
    let r := at_ .disarm .quieting (running 0 ⟨1, .release 0⟩ .releasing State.reset)
    let d := at_ .disarm .quieting (running 0 ⟨1, .disarm 0⟩ .disarming State.reset)
    let u := at_ .unstick .stuck (siteIn 0 .safe State.reset)
    let w : State := { State.reset.modPins (fun p => { p with live := Vector.replicate 16 true }) with
      laneWaiters := [⟨3, 7, 2, 5, [9]⟩] }
    (∀ s ∈ [t, r, d], s.awake ∧ s.isLive 15 = true ∧ s.lanes[(15 : LaneId)].quiet = some ⟨.disarm, none⟩ ∧
        s.lanes[(15 : LaneId)].route = some ⟨0, 0, 1, .quieting⟩) ∧
      t.tearing 0 = true ∧ r.tearing 0 = false ∧ r.sites[(0 : SiteId)].queue = [⟨1, .release 0⟩] ∧
      r.sites[(0 : SiteId)].running = some ⟨.active .releasing, 0⟩ ∧ d.runsAlone 0 ⟨1, .disarm 0⟩ .disarming 0 ∧
      u.awake ∧ u.isLive 15 = true ∧ u.lanes[(15 : LaneId)].quiet = some ⟨.unstick, none⟩ ∧
      u.lanes[(15 : LaneId)].route = some ⟨0, 0, 1, .stuck⟩ ∧ w.awake ∧ w.isLive 0 = true ∧
      w.lanes[(0 : LaneId)].quiet = none ∧ w.lanes[(0 : LaneId)].state = .free ∧
      (∀ k : LaneId, k ≠ 0 → w.lanes[k].state = .free → w.pins.live[k] = true) ∧ Duration.count w.ocPersist ≠ 0 := by
  unfold State.awake State.noBacklog State.runsAlone; decide +kernel
theorem witness_DischargeAndOvercurrent :
    let s := routed 15 1 .inUse .quieting (routed 0 2 .inUse .opening (siteIn 0 .safing State.reset))
    let q := s.modLane 15 fun x => { x with quiet := some ⟨.disarm, some soon⟩ }
    let o := s.modLane 15 fun x => { x with episode := some soon }
    q.awake ∧ q.lanes[(15 : LaneId)].route = some ⟨0, 0, 1, .quieting⟩ ∧
      q.lanes[(15 : LaneId)].quiet = some ⟨.disarm, some soon⟩ ∧ q.tearing 0 = true ∧ RouteState.quieting ≠ .live ∧
      soon.expiry ≤ q.time.now ∧ soon.expiry ≤ o.time.now ∧ (0 : LaneId) ≠ 15 ∧
      q.lanes[(0 : LaneId)].route = some ⟨0, 0, 2, .opening⟩ ∧ RouteState.opening ≠ .stuck ∧ o.awake ∧
      o.lanes[(15 : LaneId)].episode = some soon ∧ o.lanes[(15 : LaneId)].route = some ⟨0, 0, 1, .quieting⟩ ∧
      o.sites[(0 : SiteId)].state = .safing := by
  unfold State.awake State.noBacklog; decide +kernel
/-- A quiet wait of a plain CLEAR that expires, with no other route, a STUCK one or one still OPENING. -/
theorem witness_DischargeAndOvercurrent_clear : ∀ rs ∈ [RouteState.stuck, .opening],
    let c := ((routed 15 1 .inUse .opening (siteIn 0 .safe State.reset)).modLane 15 fun x =>
      { x with quiet := some ⟨.load ⟨.opening, [], [3]⟩, some soon⟩ }).modSite 0 fun x => { x with clear := some ⟨9, false⟩ }
    let o := c.modLane 0 fun x => { x with state := .inUse, route := some ⟨0, 1, 2, rs⟩, closed := [258] }
    (∀ s ∈ [c, o], s.awake ∧ s.lanes[(15 : LaneId)].route = some ⟨0, 0, 1, .opening⟩ ∧
      s.lanes[(15 : LaneId)].quiet = some ⟨.load ⟨.opening, [], [3]⟩, some soon⟩ ∧ soon.expiry ≤ s.time.now ∧
      s.sites[(0 : SiteId)].state = .safe ∧ s.sites[(0 : SiteId)].clear = some ⟨9, false⟩ ∧ s.fullReset = false ∧
      (∀ k : LaneId, k ≠ 15 → k ≠ 0 → s.lanes[k].route = none)) ∧ c.lanes[(0 : LaneId)].route = none ∧
      o.lanes[(0 : LaneId)].route = some ⟨0, 1, 2, rs⟩ := by
  unfold State.awake State.noBacklog; decide +kernel
/-- The end of a teardown with a STUCK route: after an ABORT, a fault, a RUN reset that still waits for another site. -/
theorem witness_DischargeAndOvercurrent_end :
    let at_ := fun (st : SiteState) (td : Teardown) (q : Option AbortReq) => ((routed 15 1 .inUse .quieting
      (siteIn 0 st State.reset)).modLane 15 fun x => { x with quiet := some ⟨.disarm, some soon⟩ }).modSite 0 fun x =>
      { x with teardown := some td, abort := q }
    let q : ResetReq := ⟨9, false, .teardown, [0, 3], Vector.replicate 4 .idle⟩
    let a := at_ .aborting .abort (some ⟨4, [1, 2]⟩)
    let f := at_ .safing (.fault .coilFault) none
    let r : State := { at_ .aborting .runReset none with resetReq := some q }
    (∀ s ∈ [a, f, r], s.awake ∧ s.lanes[(15 : LaneId)].route = some ⟨0, 0, 1, .quieting⟩ ∧
        s.lanes[(15 : LaneId)].quiet = some ⟨.disarm, some soon⟩ ∧ soon.expiry ≤ s.time.now ∧
        (∀ k : LaneId, k ≠ 15 → s.lanes[k].route = none) ∧ s.sites[(0 : SiteId)].running = none ∧
        s.results.outbound.length < 16) ∧
      a.sites[(0 : SiteId)].state = .aborting ∧ a.sites[(0 : SiteId)].teardown = some .abort ∧
      a.sites[(0 : SiteId)].abort = some ⟨4, [1, 2]⟩ ∧ a.resetReq = none ∧ f.sites[(0 : SiteId)].state = .safing ∧
      f.sites[(0 : SiteId)].teardown = some (.fault .coilFault) ∧ f.sites[(0 : SiteId)].abort = none ∧
      r.sites[(0 : SiteId)].teardown = some .runReset ∧ r.sites[(0 : SiteId)].abort = none ∧ r.resetReq = some q ∧
      q.phase = .teardown ∧ 0 ∈ q.waiting ∧ (∃ j ∈ q.waiting, j ≠ 0) := by
  unfold State.awake State.noBacklog; decide +kernel
/-- A step that fails at the discharge timeout, with no other route and with a READY one. -/
theorem witness_DischargeAndOvercurrent_step :
    let st : Step := ⟨1, .release 0⟩
    let q := fun ph : Phase => (routed 15 1 .inUse .quieting (running 0 st ph State.reset)).modLane 15 fun x =>
      { x with quiet := some ⟨.disarm, some soon⟩ }
    let two := (q .switch).modLane 0 fun x => { x with state := .inUse, route := some ⟨0, 1, 2, .ready⟩, closed := [9, 258] }
    (∀ ph ∈ [Phase.disarming, .releasing, .switch], (q ph).awake ∧ (q ph).sites[(0 : SiteId)].state = .running ∧
        (q ph).sites[(0 : SiteId)].queue = [st] ∧ (q ph).sites[(0 : SiteId)].running = some ⟨.active ph, 0⟩ ∧
        (q ph).sites[(0 : SiteId)].carried = [] ∧ (q ph).sites[(0 : SiteId)].clear = none ∧
        (q ph).link.completion.length < 16 ∧ (q ph).routelessPorts 0 = [] ∧ (q ph).resetReq = none ∧
        (q ph).results.outbound.length < 16 ∧ (∀ k : LaneId, k ≠ 15 → (q ph).lanes[k].route = none)) ∧
      two.awake ∧ two.lanes[(0 : LaneId)].route = some ⟨0, 1, 2, .ready⟩ ∧ two.isLive 0 = false ∧
      two.lanes[(0 : LaneId)].pinRelays ≠ [] ∧ two.routelessPorts 0 = [] ∧
      (∀ k : LaneId, k ≠ 15 → k ≠ 0 → two.lanes[k].route = none) := by
  unfold State.awake State.noBacklog; decide +kernel
/-- An overcurrent at a site that runs a WAIT with a LIVE route, and at one that is stopped with a READY route. -/
theorem witness_DischargeAndOvercurrent_taken :
    let o := fun (rs : RouteState) (s : State) => (routed 15 1 .inUse rs s).modLane 15 fun x => { x with episode := some soon }
    let w := live 15 (o .live (running 0 ⟨1, .wait 10⟩ .waiting State.reset))
    let i := o .ready (siteIn 0 .stopped State.reset)
    w.awake ∧ w.lanes[(15 : LaneId)].episode = some soon ∧
      soon.expiry ≤ w.time.now ∧ w.lanes[(15 : LaneId)].route = some ⟨0, 0, 1, .live⟩ ∧ w.routeLanes 0 = [15] ∧
      w.routelessPorts 0 = [] ∧ w.sites[(0 : SiteId)].state = .running ∧ w.sites[(0 : SiteId)].queue = [⟨1, .wait 10⟩] ∧
      w.sites[(0 : SiteId)].running = some ⟨.active .waiting, 0⟩ ∧ w.sites[(0 : SiteId)].carried = [] ∧ w.isLive 15 = true ∧
      w.fullReset = false ∧ i.awake ∧ i.sites[(0 : SiteId)].state = .stopped ∧ i.sites[(0 : SiteId)].queue = [] ∧
      i.sites[(0 : SiteId)].running = none ∧ i.isLive 15 = false ∧ i.lanes[(15 : LaneId)].pinRelays ≠ [] ∧
      i.routeLanes 0 = [15] ∧ i.routelessPorts 0 = [] := by
  unfold State.awake State.noBacklog; decide +kernel
theorem witness_OverInput : ∀ st ∈ [LaneState.inUse, .retiring, .free, .retired],
    let s := State.reset.modLane 15 fun x => { x with state := st }
    s.awake ∧ s.lanes[(15 : LaneId)].state = st ∧ s.pins.overIn[(15 : LaneId)] = false ∧
      s.lanes[(15 : LaneId)].latch = false ∧ s.lanes[(15 : LaneId)].episode = none ∧ Duration.count s.ocPersist ≠ 0 ∧
      (s.modLane 15 fun x => { x with latch := true }).lanes[(15 : LaneId)].latch = true := by
  unfold State.awake State.noBacklog; decide +kernel

/-! ### Witnesses: ports, meter, time -/

theorem witness_DoneLineAndPulse :
    let s := triggered 11 (running 0 ⟨7, .trigger 0 10⟩ .doneWait State.reset)
    let u := State.reset.modPort 11 fun x => { x with pulseTimer := some soon }
    s.awake ∧ (11 : PortId) ≠ 0 ∧ s.pins.done[(11 : PortId)] = false ∧ s.ports[(11 : PortId)].wait = some ⟨0, 7, 0⟩ ∧
      s.runsAlone 0 ⟨7, .trigger 0 10⟩ .doneWait 0 ∧ s.results.sites[(0 : SiteId)].pos = .empty ∧
      s.results.sites[(0 : SiteId)].reserved = true ∧ 1 < s.blockFill ∧ State.reset.awake ∧
      State.reset.ports[(1 : PortId)].wait = none ∧ State.reset.pins.done[(1 : PortId)] = false ∧
      (State.reset.modPins (doneUp 1)).awake ∧ (State.reset.modPins (doneUp 1)).pins.done[(1 : PortId)] = true ∧ u.awake ∧
      u.ports[(11 : PortId)].pulseTimer = some soon ∧ soon.expiry ≤ u.time.now ∧ u.ports[(11 : PortId)].claim = none := by
  unfold State.awake State.noBacklog State.runsAlone; decide +kernel
/-- A claimed port whose TRIGGER waits for done, and one whose TRIGGER waits for the pulse to end. -/
theorem witness_DoneLineAndPulse_claimed :
    let s := fun ph : Phase => (routed 15 11 .inUse .live (running 0 ⟨7, .trigger 0 10⟩ ph State.reset)).modPort 11 fun x =>
      { x with pulseTimer := some soon, trigger := true }
    (s .doneWait).awake ∧ (s .doneWait).ports[(11 : PortId)].pulseTimer = some soon ∧
      soon.expiry ≤ (s .doneWait).time.now ∧ (s .doneWait).ports[(11 : PortId)].claim = some ⟨0, 0⟩ ∧
      (s .doneWait).sites[(0 : SiteId)].running = some ⟨.active .doneWait, 0⟩ ∧ (s .pulseWait).awake ∧
      (s .pulseWait).ports[(11 : PortId)].pulseTimer = some soon ∧ (s .pulseWait).ports[(11 : PortId)].claim = some ⟨0, 0⟩ ∧
      (s .pulseWait).sites[(0 : SiteId)].queue = [⟨7, .trigger 0 10⟩] ∧
      (s .pulseWait).sites[(0 : SiteId)].running = some ⟨.active .pulseWait, 0⟩ ∧ (s .pulseWait).routeLane 0 0 = some 15 ∧
      (s .pulseWait).lanes[(15 : LaneId)].route = some ⟨0, 0, 11, .live⟩ ∧ Duration.count 10 ≠ 0 := by
  unfold State.awake State.noBacklog; decide +kernel
/-- The trigger-to-done time across the count's wrap, and at its saturation (R41). -/
theorem test_trigger_to_done : elapsedTime (2 ^ 48 - 3) (2 ^ 48 + 4) = 7 ∧ elapsedTime 5 (5 + 2 ^ 32) = 4294967295 := by
  decide
theorem witness_MeterTimers :
    let s := State.reset.modMeter fun m => { m with acq := some (acq false) }
    let t := State.reset.modMeter fun m => { m with acq := some (acq true) }
    s.awake ∧ s.meter.acq = some (acq false) ∧ (acq false).switching = false ∧
      (acq false).taken + 1 < 2 ^ (acq false).aperture.val ∧ 0 ≤ (acq false).clip ∧ t.awake ∧
      t.meter.acq = some (acq true) ∧ (acq true).timer.expiry ≤ t.time.now ∧ (acq false).timer.expiry ≤ s.time.now ∧
      (acq true).switching = true := by
  unfold State.awake State.noBacklog; decide +kernel
theorem witness_SilenceAndClock :
    let mon := fun m : Monitor => State.reset.modTime fun b => { b with monitor := m }
    let s := State.reset.modTime fun b => { b with silence := .running soon }
    s.awake ∧ s.time.silence = .running soon ∧ soon.expiry ≤ s.time.now ∧ (∀ i : SiteId, s.holdsWork i = false) ∧
      (∀ m ∈ [Monitor.present, .lost, .qualifying soon], (mon m).awake ∧ (mon m).time.monitor = m) := by
  unfold State.awake State.noBacklog; decide +kernel
/-- Sites that the silence takes: one with a READY route, and two that run a WAIT. -/
theorem witness_SilenceAndClock_taken :
    let t := fun s : State => s.modTime fun b => { b with silence := .running soon }
    let r := t (routed 15 1 .inUse .ready (siteIn 0 .held State.reset))
    let w := t (running 3 ⟨1, .wait 10⟩ .waiting (running 0 ⟨2, .wait 10⟩ .waiting State.reset))
    r.awake ∧ r.time.silence = .running soon ∧ soon.expiry ≤ r.time.now ∧ r.holdsWork 0 = true ∧
      (∀ j : SiteId, j ≠ 0 → r.holdsWork j = false) ∧ r.sites[(0 : SiteId)].state = .held ∧
      r.sites[(0 : SiteId)].queue = [] ∧ r.sites[(0 : SiteId)].running = none ∧ r.routeLanes 0 = [15] ∧
      r.lanes[(15 : LaneId)].route = some ⟨0, 0, 1, .ready⟩ ∧ r.isLive 15 = false ∧
      r.lanes[(15 : LaneId)].pinRelays ≠ [] ∧ r.routelessPorts 0 = [] ∧ w.awake ∧ w.time.silence = .running soon ∧
      (allSites.filter fun i => w.holdsWork i && w.takesFaults i) = [0, 3] ∧
      (∀ i ∈ [(0 : SiteId), 3], w.sites[i].state = .running ∧ w.sites[i].carried = [] ∧ w.routeLanes i = [] ∧
        w.routelessPorts i = [] ∧ w.sites[i].running = some ⟨.active .waiting, 0⟩) ∧
      w.sites[(0 : SiteId)].queue = [⟨2, .wait 10⟩] ∧ w.sites[(3 : SiteId)].queue = [⟨1, .wait 10⟩] ∧
      w.link.completion.length + 2 ≤ 16 ∧ w.results.outbound.length + 2 ≤ 16 ∧ w.resetReq = none ∧
      w.noticeMask.getLsbD 8 = true ∧ State.reset.sites[(0 : SiteId)].carried = [] := by
  unfold State.awake State.noBacklog; decide +kernel

/-! ### Witnesses: invariants -/

theorem witness_BuffersKept :
    let s := State.reset.withPending [.rtsRise]
    s.agenda = [] ∧ s.withinCapacity ∧ (nextOf (step s)).isSome = true := by
  unfold State.withinCapacity; decide +kernel
theorem witness_CountsKept : (State.reset.withPending [.rtsRise]).countsWf ∧
    (nextOf (step (State.reset.withPending [.rtsRise]))).isSome = true := by
  unfold State.countsWf; decide +kernel
theorem witness_LanesKept : (State.reset.withPending [.rtsRise]).lanesAgree ∧
    (nextOf (step (State.reset.withPending [.rtsRise]))).isSome = true := by
  unfold State.lanesAgree; decide +kernel
theorem witness_MeterPortKept : (State.reset.withPending [.rtsRise]).meterPortFixed ∧
    (nextOf (step (State.reset.withPending [.rtsRise]))).isSome = true := by
  unfold State.meterPortFixed; decide +kernel
theorem witness_EntriesAndArmsKept :
    let s := ((routed 15 1 .inUse .live State.reset).modPort 1 fun x => { x with arm := true }).withPending [.rtsRise]
    s.lanesAgree ∧ s.ports[(1 : PortId)].arm = true ∧ s.lanes[(15 : LaneId)].route = some ⟨0, 0, 1, .live⟩ ∧
      (nextOf (step s)).isSome = true := by
  unfold State.lanesAgree; decide +kernel
theorem witness_NeverSwitchesLive : (nextOf (step (State.reset.withPending [.loadDone 0 []]))).isSome = true := by
  decide +kernel

end Sys2Proof.Tests
end

section
set_option Elab.async false
/-! # What a command can do to the state

Every function of the model is a chain of elementary changes. `Calm` lists the changes that bring no follow-up work and
assert no arm line, `Change` adds the others. Each function is shown once to be such a chain; an invariant is then a case
analysis over the elementary changes (`Change`), not over the functions. The guards of the changes say what the functions
test before they make them. -/

namespace Sys2Proof.Machine

/-! ### The terms of the guards -/

/-- A lane in this state holds a route (R46). -/
def LaneState.holds (st : LaneState) : Bool := decide (st = .inUse) || decide (st = .retiring)

/-- The queues of LINK are within their sizes (R188, R190, R192). -/
def Link.fits (k : Link) : Prop := k.slots.length ≤ 4 ∧ k.reserved ≤ 32 ∧ k.completion.length ≤ 16

/-- A step in this phase waits for its site's block: it is a room waiter or a flush waiter (R135, R141). -/
def Phase.waits : Phase → Bool
  | .blockWait => true
  | .flushWait => true
  | _ => false

/-- The site's step waits for its block. -/
def Site.waits (x : Site) : Bool :=
  match x.running with
  | some ⟨.active ph, _⟩ => ph.waits
  | _ => false

/-! ### The elementary changes -/

/-- An elementary change that notes no follow-up, frees no place, lets no step wait for its block and asserts no arm line. -/
inductive Calm (s : State) : State → Prop
  /-- The fields that no invariant speaks of: time, meter, lane waiters, RESET in flight, freeze flag, free values. -/
  | aside {t : State} (hlink : t.link = s.link := by rfl) (hsites : t.sites = s.sites := by rfl)
      (hports : t.ports = s.ports := by rfl) (hlanes : t.lanes = s.lanes := by rfl)
      (hresults : t.results = s.results := by rfl) (hhealth : t.health = s.health := by rfl)
      (hstore : t.store = s.store := by rfl) (hpins : t.pins = s.pins := by rfl)
      (hagenda : t.agenda = s.agenda := by rfl) : Calm s t
  /-- LINK but for its notices, its slots, its reply places and its completion queue. -/
  | link (f : Link → Link) (hnotices : (f s.link).notices = s.link.notices := by rfl)
      (hslots : (f s.link).slots = s.link.slots := by rfl) (hreserved : (f s.link).reserved = s.link.reserved := by rfl)
      (hcompletion : (f s.link).completion = s.link.completion := by rfl) : Calm s (s.modLink f)
  /-- A DONE takes a free entry of the completion queue (R192). -/
  | enter (d : DoneFrame) (hfree : s.completionFree = true) :
      Calm s (s.modLink fun k => { k with completion := k.completion ++ [d] })
  | notice (n : Notice) : Calm s (s.notice n)
  | forget (k : Fin 9) : Calm s (s.modLink fun x => { x with notices := upd x.notices k fun _ => none })
  /-- A site record: no step joins its queue, and its step does not begin to wait for its block. -/
  | site (i : SiteId) (f : Site → Site)
      (hqueue : (f s.sites[i]).queue.Sublist s.sites[i].queue := by exact List.Sublist.refl _)
      (hwaits : (f s.sites[i]).waits = true → s.sites[i].waits = true := by exact fun h => h) : Calm s (s.modSite i f)
  /-- A step joins a site's queue (R4, R5). -/
  | accept (i : SiteId) (st : Step) (hroom : s.sites[i].queue.length < 32) (htag : ∀ x ∈ s.sites[i].queue, x.tag ≠ st.tag) :
      Calm s (s.modSite i fun x => { x with queue := x.queue ++ [st] })
  /-- A port record: its arm line is not asserted, and port 0 keeps its description (R31). -/
  | port (p : PortId) (f : Port → Port) (harm : (f s.ports[p]).arm = true → s.ports[p].arm = true := by exact fun h => h)
      (hdesc : (f s.ports[p]).desc = s.ports[p].desc ∨ p ≠ 0 := by exact .inl rfl) : Calm s (s.modPort p f)
  | ports (f : Port → Port) (harm : ∀ x, (f x).arm = x.arm := by exact fun _ => rfl)
      (hdesc : ∀ x, (f x).desc = x.desc := by exact fun _ => rfl) : Calm s { s with ports := s.ports.map f }
  /-- A lane record but for its state and its route; no load begins. -/
  | lane (l : LaneId) (f : Lane → Lane) (hroute : (f s.lanes[l]).route = s.lanes[l].route := by rfl)
      (hstate : (f s.lanes[l]).state = s.lanes[l].state := by rfl)
      (hload : (f s.lanes[l]).load = s.lanes[l].load ∨ (f s.lanes[l]).load = none := by exact .inl rfl) :
      Calm s (s.modLane l f)
  /-- A load begins: a hot one, or one on a lane that reads quiet (R49). -/
  | load (l : LaneId) (ld : Load) (h : ld.kind = .hot ∨ s.isLive l = false) : Calm s (s.beginLoad l ld)
  /-- A route changes its state; a LIVE one has had its arm line deasserted (R36, R37). -/
  | route (l : LaneId) (st : RouteState)
      (h : ∀ r, s.lanes[l].route = some r → r.state = .live → s.ports[r.port].arm = false) :
      Calm s (s.modLane l fun x => { x with route := x.route.map fun r => { r with state := st } })
  /-- A FREE lane is given to a route (R58). -/
  | grant (l : LaneId) (r : Route) (h : s.lanes[l].state = .free) :
      Calm s (s.modLane l fun x => { x with state := .inUse, route := some r })
  /-- A lane is condemned or retires (R47, R160). -/
  | condemned (l : LaneId) (st : LaneState) (hst : st ≠ .free) (h : st.holds = s.lanes[l].state.holds) :
      Calm s (s.modLane l fun x => { x with state := st })
  | health (f : Health → Health) (h : (f s.health).lanes = s.health.lanes := by rfl) : Calm s (s.modHealth f)
  | wear (l : LaneId) (f : LaneHealth → LaneHealth)
      (h : s.health.lanes[l].counts.wf = true → (f s.health.lanes[l]).counts.wf = true := by exact fun h => h) :
      Calm s (s.modWear l f)
  | store (f : Store → Store)
      (hwrites : s.store.pendingWrites.Nodup → (f s.store).pendingWrites.Nodup := by exact fun h => h)
      (hcounts : s.countsWf → (s.modStore f).countsWf := by exact fun h => h) : Calm s (s.modStore f)
  | results (r : Results) (h : s.results.outbound.length ≤ 16 → r.outbound.length ≤ 16 := by exact fun h => h) :
      Calm s { s with results := r }

/-- An elementary change. -/
inductive Change (s : State) : State → Prop
  | calm {t : State} (h : Calm s t) : Change s t
  | notes (a : List Task) : Change s { s with agenda := a }
  | link (f : Link → Link) (hnotices : (f s.link).notices = s.link.notices := by rfl)
      (hfits : s.link.fits → (f s.link).fits := by exact fun h => h) : Change s (s.modLink f)
  | site (i : SiteId) (f : Site → Site)
      (hqueue : (f s.sites[i]).queue.Sublist s.sites[i].queue := by exact List.Sublist.refl _) : Change s (s.modSite i f)
  /-- A route is armed (R36). -/
  | arm (l : LaneId) (r : Route) (h : s.lanes[l].route = some r) :
      Change s ((s.modPort r.port fun x => { x with arm := true }).modLane l fun x =>
        { x with route := x.route.map fun r => { r with state := .live } })
  /-- A route that is not LIVE leaves the table (R67). -/
  | remove (l : LaneId) (h : ∀ r, s.lanes[l].route = some r → r.state ≠ .live) :
      Change s (s.modLane l fun x =>
        { x with state := .free, route := none, quiet := none, wait := none, episode := none, latch := false })
  /-- A RETIRED lane returns to service (R163). -/
  | renew (l : LaneId) (h : s.lanes[l].state = .retired) : Change s (s.modLane l fun x => { x with state := .free })
  | loaded : Change s s.loaded
  | unpowered : Change s s.unpowered

/-- A chain of calm changes. -/
abbrev Calms : State → State → Prop := Relation.ReflTransGen Calm

/-- A chain of elementary changes. -/
abbrev Changes : State → State → Prop := Relation.ReflTransGen Change

theorem Calm.calms {s t : State} (h : Calm s t) : Calms s t := .single h

theorem Change.changes {s t : State} (h : Change s t) : Changes s t := .single h

theorem Calms.changes {s t : State} (h : Calms s t) : Changes s t := by
  induction h with
  | refl => exact .refl
  | tail _ h ih => exact ih.tail (.calm h)

theorem ite_calms {s t u : State} (c : Prop) [Decidable c] (ht : Calms s t) (hu : Calms s u) :
    Calms s (if c then t else u) := by
  split
  · exact ht
  · exact hu

theorem ite_changes {s t u : State} (c : Prop) [Decidable c] (ht : Changes s t) (hu : Changes s u) :
    Changes s (if c then t else u) := by
  split
  · exact ht
  · exact hu

/-- What holds of every entry of a list as one change holds of the whole. -/
theorem forEach_calms {α : Type} (f : α → State → State) (h : ∀ a t, Calms t (f a t)) (l : List α) (s : State) :
    Calms s (forEach l f s) := by
  induction l generalizing s with
  | nil => exact .refl
  | cons a l ih => exact (h a s).trans (ih (f a s))

theorem forEach_changes {α : Type} (f : α → State → State) (h : ∀ a t, Changes t (f a t)) (l : List α) (s : State) :
    Changes s (forEach l f s) := by
  induction l generalizing s with
  | nil => exact .refl
  | cons a l ih => exact (h a s).trans (ih (f a s))

variable (s : State)

/-! ### The operations every block uses -/

theorem State.push_changes (t : Task) : Changes s (s.push t) := (Change.notes _).changes

theorem State.noteClosure_changes (i : SiteId) (c : Cause) : Changes s (s.noteClosure i c) := by
  unfold State.noteClosure; split
  · exact .refl
  · exact s.push_changes _

theorem State.pushIfZero_changes (d : Duration) (t : Task) : Changes s (s.pushIfZero d t) := by
  unfold State.pushIfZero; split
  · exact s.push_changes t
  · exact .refl

theorem State.replyWith_calms (r : Reply) : Calms s (s.replyWith r) := (Calm.link _).calms

theorem State.reply_calms (k t i : Byte) (c : ReplyCode) (d : List Byte) : Calms s (s.reply k t i c d) :=
  s.replyWith_calms _

theorem State.drew_calms (n : Nat) : Calms s (s.drew n) := Calm.calms .aside

theorem State.modTime_calms (f : TimeBase → TimeBase) : Calms s (s.modTime f) := Calm.calms .aside

theorem State.modMeter_calms (f : Meter → Meter) : Calms s (s.modMeter f) := Calm.calms .aside

theorem State.modRes_calms (i : SiteId) (f : SiteResults → SiteResults) : Calms s (s.modRes i f) := (Calm.results _).calms

theorem State.notice_calms (n : Notice) : Calms s (s.notice n) := (Calm.notice n).calms

theorem State.disarmRoute_calms (l : LaneId) : Calms s (s.disarmRoute l) := by
  unfold State.disarmRoute; split
  · split
    · exact (Calm.port _ _ (by exact fun h => by cases h)).calms
    · exact .refl
  · exact .refl

/-- Once disarmed, a LIVE route's arm line is deasserted. -/
theorem State.disarmRoute_arm (l : LaneId) (r : Route) (hr : (s.disarmRoute l).lanes[l].route = some r)
    (hl : r.state = .live) : ((s.disarmRoute l).ports[r.port]).arm = false := by
  unfold State.disarmRoute at hr ⊢
  split at hr
  · next r' hr' =>
    split at hr
    · next hl' =>
      obtain rfl : r' = r := Option.some.inj (hr'.symm.trans hr)
      rw [if_pos hl']
      simp
    · next hl' =>
      obtain rfl : r' = r := Option.some.inj (hr'.symm.trans hr)
      exact absurd hl hl'
  · next hn => rw [hn] at hr; cases hr

theorem State.setRoute_calms (l : LaneId) (st : RouteState) (h : st ≠ .live) : Calms s (s.setRoute l st) := by
  unfold State.setRoute
  rw [if_neg h]
  exact (s.disarmRoute_calms l).tail (.route l st fun r hr hl => s.disarmRoute_arm l r hr hl)

/-! ### STORE -/

theorem State.touch_calms (it : ItemId) : Calms s (s.touch it) := by
  refine (Calm.store _ (by exact fun h => h) fun ⟨hl, hs, hw⟩ => ⟨hl, hs, fun w hm => ?_⟩).calms
  obtain ⟨w', hw', rfl⟩ := Option.map_eq_some_iff.mp hm
  have := hw w' hw'
  split <;> exact this

theorem State.touchIf_calms (c : Bool) (it : ItemId) : Calms s (s.touchIf c it) := by
  unfold State.touchIf; split
  · exact s.touch_calms it
  · exact .refl

/-- The content taken for a write has its counts in canonical form (R177). -/
theorem State.itemContent_countsWf (it : ItemId) (h : s.countsWf) : (s.itemContent it).countsWf = true := by
  unfold State.itemContent; split
  · exact h.1 _
  · split
    · rfl
    · split
      · rfl
      · split <;> rfl

theorem State.beginWrite_calms : Calms s s.beginWrite := by
  unfold State.beginWrite; split
  · next it rest hf hp =>
    split
    · exact .refl
    · have hbegin : Calm s (s.modStore fun t =>
          { t with pendingWrites := rest, inFlight := some { content := s.itemContent it, changed := false },
                   awaits := t.awaits.map fun a => if a.item = it then { a with begun := true } else a }) := by
        refine .store _ (fun h => ?_) fun hc => ⟨hc.1, hc.2.1, fun w hw => ?_⟩
        · rw [hp] at h; exact (List.nodup_cons.mp h).2
        · cases hw; exact s.itemContent_countsWf it hc
      simp only
      split
      · exact hbegin.calms.tail (.wear _ _)
      · exact hbegin.calms
  · exact .refl

theorem State.due_calms (it : ItemId) : Calms s (s.due it) := by
  unfold State.due; split
  · exact s.beginWrite_calms
  · next hnot =>
    refine .head (.store _ (fun h => ?_)) (State.beginWrite_calms _)
    exact List.nodup_append.mpr ⟨h, List.nodup_singleton it, by
      rintro a ha b hb rfl
      rw [List.mem_singleton] at hb
      exact hnot (by simpa [hb] using ha)⟩

theorem State.answerReq_calms (r : StoreReq) : Calms s (s.answerReq r) := by
  unfold State.answerReq; simp only; split
  · split
    · exact (s.reply_calms _ _ _ _ _).trans (State.drew_calms _ _)
    · exact s.reply_calms _ _ _ _ _
  · exact s.reply_calms _ _ _ _ _
  · exact s.reply_calms _ _ _ _ _
  · exact (s.replyWith_calms _).tail .aside

theorem State.await_calms (r : StoreReq) (items : List ItemId) : Calms s (s.await r items) := (Calm.store _).calms

theorem State.takeSave_calms (o : Owner) (tag : Byte) : Calms s (s.takeSave o tag) := by
  unfold State.takeSave; simp only; split
  · exact s.answerReq_calms _
  · exact (s.await_calms _ _).trans (forEach_calms _ (fun it t => t.due_calms it) _ _)

theorem State.settleAwaits_calms (it : ItemId) (ok : Bool) : Calms s (s.settleAwaits it ok) := by
  unfold State.settleAwaits
  exact .head (.store _) (forEach_calms _ (fun r t => t.answerReq_calms r) _ _)

@[simp] theorem Item.write_content {α : Type} (b : α → List Byte) (c : α) : (Item.write b c).content = c := rfl

@[simp] theorem Item.spoil_content {α : Type} (b : α → List Byte) (x : Item α) : (x.spoil b).content = x.content := rfl

/-- Writing a content in canonical form keeps the stored counts in canonical form. -/
theorem Stored.put_countsWf (c : ItemContent) (n : Stored) (hc : c.countsWf = true)
    (hn : ∀ l : LaneId, storedCountsWf n.lanes[l] = true) (l : LaneId) : storedCountsWf (n.put c).lanes[l] = true := by
  cases c with
  | lane k c m =>
    have e : (n.put (.lane k c m)).lanes = upd n.lanes k fun _ => Item.write laneRecordBytes (c, m) := by rw [Stored.put]
    rw [e, upd_get]; split
    · rw [storedCountsWf, Item.write_content]; exact hc
    · exact hn l
  | config | cal | reach | health => exact hn l

theorem Stored.spoil_countsWf (c : ItemContent) (n : Stored) (hn : ∀ l : LaneId, storedCountsWf n.lanes[l] = true)
    (l : LaneId) : storedCountsWf (n.spoil c).lanes[l] = true := by
  cases c with
  | lane k c m =>
    have e : (n.spoil (.lane k c m)).lanes = upd n.lanes k (Item.spoil laneRecordBytes) := by rw [Stored.spoil]
    rw [e, upd_get]; split
    · rw [storedCountsWf, Item.spoil_content]; exact hn l
    · exact hn l
  | config | cal | reach | health => exact hn l

theorem State.writeDone_calms (ok : Bool) : Calms s (s.writeDone ok) := by
  unfold State.writeDone; split
  · exact .refl
  · next w hw =>
    have hkept : Calm s (s.modStore fun t =>
        { t with inFlight := none, stored := t.stored.put w.content,
                 differs := upd t.differs w.content.item fun _ => w.changed }) :=
      .store _ (by exact fun h => h) fun ⟨hl, hs, hf⟩ =>
        ⟨hl, Stored.put_countsWf _ _ (hf w hw) hs, fun _ h => by cases h⟩
    have hlost : Calm s (s.modStore fun t => { t with inFlight := none }) :=
      .store _ (by exact fun h => h) fun ⟨hl, hs, _⟩ => ⟨hl, hs, fun _ h => by cases h⟩
    exact ((ite_calms _ hkept.calms (hlost.calms.trans (State.notice_calms _ _))).trans
      (State.settleAwaits_calms _ _ _)).trans (State.beginWrite_calms _)

theorem State.cutWrite_calms (cut : CutOff) : Calms s (s.cutWrite cut) := by
  refine (Calm.store _ (by exact fun h => h) fun ⟨hl, hs, hf⟩ => ⟨hl, ?_, fun _ h => by cases h⟩).calms
  show ∀ l : LaneId, storedCountsWf (s.store.stored.cutOff s.store.inFlight cut).lanes[l] = true
  cases hw : s.store.inFlight with
  | none => exact hs
  | some w =>
    cases cut with
    | earlier => exact hs
    | new => exact Stored.put_countsWf _ _ (hf w hw) hs
    | mixture => exact Stored.spoil_countsWf _ _ hs

/-! ### HEALTH -/

theorem State.computeLife_calms (l : LaneId) : Calms s (s.computeLife l) := (Calm.wear _ _).calms

theorem State.recompute_calms : Calms s s.recompute := by
  unfold State.recompute; simp only; split
  · exact (Calm.health _).calms
  · exact .head (.health _) (State.notice_calms _ _)

theorem State.healthDue_calms (old : HealthRecord) : Calms s (s.healthDue old) := by
  unfold State.healthDue; split
  · exact .refl
  · exact (s.touch_calms _).trans (State.due_calms _ _)

theorem State.retire_calms (l : LaneId) (h : s.lanes[l].state = .free) : Calms s (s.retire l) := by
  unfold State.retire
  exact .head (.condemned l .retired (by decide) (by rw [h]; rfl)) ((State.notice_calms _ _).trans (State.recompute_calms _))

theorem State.condemn_calms (l : LaneId) : Calms s (s.condemn l) := by
  unfold State.condemn; split
  · next h => exact s.retire_calms l h
  · next h => exact (Calm.condemned l .retiring (by decide) (by rw [h]; rfl)).calms
  · exact .refl
  · exact .refl

theorem State.checkEndOfLife_calms (l : LaneId) : Calms s (s.checkEndOfLife l) := by
  unfold State.checkEndOfLife; split
  · exact s.condemn_calms l
  · exact .refl

theorem State.healthLoad_calms (l : LaneId) (ld : Load) (readback : List Relay) : Calms s (s.healthLoad l ld readback) := by
  unfold State.healthLoad; simp only
  refine .trans (.trans (.trans ?_ (ite_calms _ (State.checkEndOfLife_calms _ l) (State.condemn_calms _ l)))
    (ite_calms _ (State.due_calms _ _) .refl)) ((State.recompute_calms _).trans (State.healthDue_calms _ _))
  refine .trans (.head (.wear l _ (chargeRelays_wf _ _ _)) (.head (.health _ ?_) (State.touchIf_calms _ _ _)))
    (State.computeLife_calms _ l)
  rfl

theorem State.countOvercurrent_calms : Calms s s.countOvercurrent := .head (.health _) (State.healthDue_calms _ _)


/-! ### RESULTS -/

theorem State.closeBlock_calms (i : SiteId) (c : Cause) : Calms s (s.closeBlock i c) := by
  unfold State.closeBlock; split
  · simp only; split
    · next hd =>
      have hlen : s.results.outbound.length < 16 := of_decide_eq_true (Bool.and_eq_true_iff.mp hd).1
      exact (s.modRes_calms i _).tail (.results _ fun _ => by simpa using hlen)
    · exact (s.modRes_calms i _).tail (.results _)
  · exact .refl

theorem State.place_changes (i : SiteId) (r : Reading) : Changes s (s.place i r) := by
  unfold State.place; simp only; split
  · split
    · exact ite_changes _ ((s.modRes_calms i _).changes.trans (State.noteClosure_changes _ _ _)) (s.modRes_calms i _).changes
    · exact ite_changes _ ((s.modRes_calms i _).changes.trans (State.noteClosure_changes _ _ _)) (s.modRes_calms i _).changes
    · exact .refl
  · exact .refl

theorem State.giveBack_calms (i : SiteId) : Calms s (s.giveBack i) := s.modRes_calms i _

theorem State.discardResults_calms : Calms s s.discardResults := (Calm.results _ fun _ => Nat.zero_le _).calms

/-! ### Steps -/

theorem State.setPhase_changes (i : SiteId) (ph : Phase) : Changes s (s.setPhase i ph) := (Change.site i _).changes

theorem State.setPhase_calms (i : SiteId) (ph : Phase) (h : ph.waits = false) : Calms s (s.setPhase i ph) := by
  refine (Calm.site i _ (List.Sublist.refl _) ?_).calms
  generalize s.sites[i] = x
  intro hw
  unfold Site.waits at hw
  cases hx : x.running with
  | none => rw [hx] at hw; cases hw
  | some r => rw [hx] at hw; exact Bool.noConfusion (h.symm.trans hw)

theorem State.setSite_calms (i : SiteId) (st : SiteState) : Calms s (s.setSite i st) := (Calm.site i _).calms

theorem State.siteMovesOn_changes (i : SiteId) : Changes s (s.siteMovesOn i) := by
  unfold State.siteMovesOn; split
  · exact ite_changes _ (s.setSite_calms i _).changes (ite_changes _ (s.setSite_calms i _).changes (s.push_changes _))
  · exact s.push_changes _
  · exact .refl

theorem State.enterDone_changes (d : DoneFrame) (h : s.completionFree = true) : Changes s (s.enterDone d) := by
  have henter := (Calm.enter (s := s) d h).calms
  unfold State.enterDone; simp only; split
  · refine .trans (Calms.changes (.tail (.tail henter (.site d.site _ ?_ ?_)) (.link _))) (State.push_changes _ _)
    · exact List.tail_sublist _
    · exact nofun
  · refine .trans (Calms.changes (.tail henter (.site d.site _ ?_ ?_))) (State.siteMovesOn_changes _ _)
    · exact List.tail_sublist _
    · exact nofun

theorem State.handleDone_changes (d : DoneFrame) : Changes s (s.handleDone d) := by
  unfold State.handleDone; split
  · next h => exact s.enterDone_changes d (Bool.and_eq_true_iff.mp h).1
  · exact (Calm.link _).calms.changes

theorem State.admitDone_changes : Changes s s.admitDone := by
  unfold State.admitDone; split
  · split
    · next h => exact .head (.calm (.link _)) (State.enterDone_changes _ _ h)
    · exact .refl
  · exact .refl

theorem State.finishStep_changes (i : SiteId) (o : StepOutcome) (f : Option Failure) (seq : Option (BitVec 16))
    (disc : List Byte) : Changes s (s.finishStep i o f seq disc) := by
  unfold State.finishStep; split
  · exact .head (.calm (.site i _ (List.Sublist.refl _) (by exact nofun))) (State.push_changes _ _)
  · exact .refl

theorem State.endOk_changes (i : SiteId) : Changes s (s.endOk i) := s.finishStep_changes _ _ _ _ _

theorem State.failLogic_changes (i : SiteId) (f : Failure) : Changes s (s.failLogic i f) := by
  unfold State.failLogic
  exact .head (.calm (.site i _ (List.take_sublist _ _))) ((State.finishStep_changes _ _ _ _ _ _).trans
    (State.noteClosure_changes _ _ _))

/-! ### MATRIX and PORTS -/

theorem State.startWait_changes (l : LaneId) (k : WaitKind) (d : Duration) : Changes s (s.startWait l k d) :=
  .head (.calm (.lane l _)) (State.pushIfZero_changes _ _ _)

theorem State.beginLoad_calms (l : LaneId) (ld : Load) (h : ld.kind = .hot ∨ s.isLive l = false) :
    Calms s (s.beginLoad l ld) := (Calm.load l ld h).calms

theorem State.startQuiet_calms (l : LaneId) (a : QuietAction) : Calms s (s.startQuiet l a) := (Calm.lane l _).calms

theorem State.loadWhenQuiet_calms (l : LaneId) (ld : Load) : Calms s (s.loadWhenQuiet l ld) := by
  unfold State.loadWhenQuiet; split
  · exact s.startQuiet_calms l _
  · next h => exact s.beginLoad_calms l ld (.inr (Bool.eq_false_iff.mpr h))

theorem State.openingStep_calms (l : LaneId) : Calms s (s.openingStep l) := s.loadWhenQuiet_calms l _

theorem State.enterOpening_calms (l : LaneId) : Calms s (s.enterOpening l) :=
  (s.setRoute_calms l _ (by decide)).trans (State.openingStep_calms _ _)

theorem State.hotStep_calms (l : LaneId) : Calms s (s.hotStep l) := s.beginLoad_calms l _ (.inl rfl)

theorem State.startEpisode_changes (l : LaneId) : Changes s (s.startEpisode l) := by
  unfold State.startEpisode; simp only; split
  · exact .head (.calm (.lane l _)) (State.pushIfZero_changes _ _ _)
  · exact .refl

theorem State.qualifies_free {s : State} {l : LaneId} (h : s.qualifies l = true) : s.lanes[l].state = .free :=
  of_decide_eq_true (Bool.and_eq_true_iff.mp h).1

theorem State.qualifies_quiet {s : State} {l : LaneId} (h : s.qualifies l = true) : s.isLive l = false := by
  simpa using (Bool.and_eq_true_iff.mp h).2

/-- The better of qualifying lanes is one of them (R57). -/
theorem State.foldl_betterLane_mem (l : LaneId) (ls : List LaneId) : ls.foldl s.betterLane l ∈ l :: ls := by
  induction ls generalizing l with
  | nil => simp
  | cons k ls ih =>
    have hpick : s.betterLane l k = l ∨ s.betterLane l k = k := by unfold State.betterLane; split <;> simp
    rcases hpick with h | h <;> simp only [List.foldl_cons, h]
    · exact List.mem_cons.mpr ((List.mem_cons.mp (ih l)).imp_right (List.mem_cons_of_mem k))
    · exact List.mem_cons_of_mem l (ih k)

/-- The lane the allocator chooses qualifies (R57). -/
theorem State.chooseLane_qualifies {s : State} {l : LaneId} (h : s.chooseLane = some l) : s.qualifies l = true := by
  have hmem : l ∈ allLanes.filter s.qualifies := by
    unfold State.chooseLane at h
    split at h
    · cases h
    · next k ks hf =>
      rw [hf]
      split at h <;> cases h
      · exact s.foldl_betterLane_mem k ks
      · exact List.mem_cons_self
  exact (List.mem_filter.mp hmem).2

theorem State.obtainLane_changes (w : LaneWaiter) (l : LaneId) (h : s.qualifies l = true) :
    Changes s (s.obtainLane w l) := by
  unfold State.obtainLane; simp only
  refine .trans (Calms.changes (.trans (.tail ?_ (.grant l _ ?_)) (State.beginLoad_calms _ l _ (.inr ?_))))
    (State.startEpisode_changes _ l)
  · exact .head (.site w.site _) (State.setPhase_calms _ _ .closing rfl)
  · exact State.qualifies_free h
  · exact (State.qualifies_quiet h : s.isLive l = false)

theorem State.lanePhase_changes (i : SiteId) : Changes s (s.lanePhase i) := by
  unfold State.lanePhase; split
  · refine (s.setPhase_calms i _ rfl).changes.trans (ite_changes _ (State.failLogic_changes _ _ _) ?_)
    simp only; split
    · next l hl =>
      refine State.obtainLane_changes _ _ _ (State.chooseLane_qualifies (l := l) ?_)
      split at hl
      · exact hl
      · cases hl
    · exact .single (.calm .aside)
  · exact .refl

theorem serveWaiters_changes (ws : List LaneWaiter) (s : State) : Changes s (serveWaiters ws s) := by
  induction ws generalizing s with
  | nil => exact .single (.calm .aside)
  | cons w ws ih =>
    unfold serveWaiters; split
    · next l hl => exact (s.obtainLane_changes w l (State.chooseLane_qualifies hl)).trans (ih _)
    · exact .single (.calm .aside)

theorem State.serveLaneWaiters_changes : Changes s s.serveLaneWaiters := serveWaiters_changes _ s

theorem State.freeClaim_changes (p : PortId) : Changes s (s.freeClaim p) := by
  unfold State.freeClaim; split
  · exact .single (.calm (.port p _))
  · exact .head (.calm (.port p _)) (State.lanePhase_changes _ _)

theorem State.disarm_calms (l : LaneId) : Calms s (s.disarm l) := s.setRoute_calms l _ (by decide)

/-! ### The steps as they run -/

theorem State.startAcquisition_calms (i : SiteId) (tag : Byte) (point : Nat) (m : MeterSpec) (limits : Option Limits) :
    Calms s (s.startAcquisition i tag point m limits) := (s.modMeter_calms _).trans (State.setPhase_calms _ _ _ rfl)

theorem State.switchClose_changes (l : LaneId) (p : Pin) (settle : Duration) : Changes s (s.switchClose l p settle) :=
  ite_changes _ (s.startWait_changes l _ _) (s.loadWhenQuiet_calms l _).changes

theorem State.scanSwitch_changes (i : SiteId) (h : Handle) (p : Pin) (settle : Duration) :
    Changes s (s.scanSwitch i h p settle) := by
  unfold State.scanSwitch; split
  · exact .refl
  · next l _ =>
    refine ite_changes _ ((s.giveBack_calms i).changes.trans (State.failLogic_changes _ _ _)) ?_
    refine (s.setRoute_calms l .switching (by decide)).changes.trans ?_
    exact ite_changes _ (State.switchClose_changes _ _ _ _) (State.loadWhenQuiet_calms _ _ _).changes

theorem State.assertTrigger_changes (i : SiteId) (tag : Byte) (p : PortId) (d : Duration) :
    Changes s (s.assertTrigger i tag p d) :=
  .head (.calm (.port p _)) ((State.setPhase_calms _ _ _ rfl).changes.trans (State.pushIfZero_changes _ _ _))

theorem State.triggerPort_changes (i : SiteId) (tag : Byte) (h : Handle) (d : Duration) :
    Changes s (s.triggerPort i tag h d) := by
  unfold State.triggerPort; split
  · exact .refl
  · split
    · exact .refl
    · exact ite_changes _ (s.setPhase_changes _ _) (s.assertTrigger_changes _ _ _ _)

theorem State.goOnWithRoom_changes (i : SiteId) : Changes s (s.goOnWithRoom i) := by
  unfold State.goOnWithRoom; split
  · exact (s.startAcquisition_calms _ _ _ _ _).changes
  · split
    · exact (s.setPhase_changes i _).trans (State.scanSwitch_changes _ _ _ _ _)
    · exact .refl
  · exact s.triggerPort_changes _ _ _ _
  · exact .refl

theorem State.giveRoom_changes (i : SiteId) : Changes s (s.giveRoom i) :=
  (s.modRes_calms i _).changes.trans (State.goOnWithRoom_changes _ _)

theorem State.askRoom_changes (i : SiteId) : Changes s (s.askRoom i) :=
  (s.setPhase_changes i _).trans (ite_changes _ .refl (State.giveRoom_changes _ _))

theorem State.serveWaiting_changes (i : SiteId) : Changes s (s.serveWaiting i) := by
  unfold State.serveWaiting; split
  · exact s.giveRoom_changes i
  · exact s.endOk_changes i
  · exact .refl

theorem State.closeNow_changes (i : SiteId) (c : Cause) : Changes s (s.closeNow i c) :=
  (s.closeBlock_calms i c).changes.trans (ite_changes _ .refl (State.serveWaiting_changes _ _))

theorem State.admitBlock_changes : Changes s s.admitBlock := by
  unfold State.admitBlock; split
  · next b bs _ =>
    split
    · next h =>
      refine .trans (Calms.changes (.trans (.single (.results _ fun _ => ?_)) (State.modRes_calms _ b.site _)))
        (State.serveWaiting_changes _ b.site)
      simpa [Config.outboundDepth] using h
    · exact .refl
  · exact .refl

/-! ### The start of each step kind -/

/-- The route that a handle names stands on the lane it is found on. -/
theorem State.findRoute_route {s : State} {i : SiteId} {h : Handle} {l : LaneId} {r : Route}
    (hf : s.findRoute i h = some (l, r)) : s.lanes[l].route = some r := by
  unfold State.findRoute at hf
  split at hf
  · next k _ =>
    obtain ⟨r', hr', he⟩ := Option.map_eq_some_iff.mp hf
    cases he
    exact hr'
  · cases hf

/-- A route that goes LIVE keeps its arm line (R36). -/
theorem State.setRoute_live (l : LaneId) : s.setRoute l .live = s.modLane l fun x =>
    { x with route := x.route.map fun r => { r with state := .live } } := by
  unfold State.setRoute; rw [if_pos rfl]

theorem State.startConnect_changes (i : SiteId) (h : Handle) (p : PortId) (claim : Duration) :
    Changes s (s.startConnect i h p claim) := by
  unfold State.startConnect; simp only
  refine ite_changes _ (s.failLogic_changes _ _) (ite_changes _ (s.failLogic_changes _ _) ?_)
  split
  · refine .trans (.trans ?_ (State.lanePhase_changes _ i)) (State.pushIfZero_changes _ _ _)
    exact Calms.changes (.tail (.single (.site i _)) (.port p _))
  · refine ite_changes _ (s.failLogic_changes _ _) (.trans (.trans ?_ (State.setPhase_changes _ i _))
      (State.pushIfZero_changes _ _ _))
    exact Calms.changes (.tail (.single (.site i _)) (.port p _))

theorem State.startArm_changes (i : SiteId) (h : Handle) : Changes s (s.startArm i h) := by
  unfold State.startArm; split
  · exact s.failLogic_changes _ _
  · next l r hf =>
    refine ite_changes _ (s.failLogic_changes _ _) (ite_changes _ ?_ (s.endOk_changes i))
    rw [State.setRoute_live]
    exact .head (.arm l r (State.findRoute_route hf)) (State.endOk_changes _ _)

theorem State.startDisarm_changes (i : SiteId) (h : Handle) : Changes s (s.startDisarm i h) := by
  unfold State.startDisarm; split
  · exact s.failLogic_changes _ _
  · next l r _ =>
    refine ite_changes _ ((s.disarm_calms l).changes.trans (ite_changes _ ?_ ?_)) (s.endOk_changes i)
    · exact (State.setPhase_changes _ _ _).trans (State.startQuiet_calms _ _ _).changes
    · exact (State.setRoute_calms _ _ _ (by decide)).changes.trans (State.endOk_changes _ _)

theorem State.startRelease_changes (i : SiteId) (h : Handle) : Changes s (s.startRelease i h) := by
  unfold State.startRelease; split
  · next l r _ =>
    refine (s.setPhase_changes i _).trans (ite_changes _ ?_ (State.enterOpening_calms _ _).changes)
    exact Calms.changes ((State.disarm_calms _ l).trans
      (ite_calms _ (State.startQuiet_calms _ _ _) (State.enterOpening_calms _ _)))
  · split
    · exact (s.freeClaim_changes _).trans (State.endOk_changes _ _)
    · exact s.failLogic_changes _ _

theorem State.startMeter_changes (i : SiteId) (h : Handle) : Changes s (s.startMeter i h) := by
  unfold State.startMeter; split
  · exact s.failLogic_changes _ _
  · exact ite_changes _ (s.failLogic_changes _ _) (s.askRoom_changes i)

theorem State.startTrigger_changes (i : SiteId) (h : Handle) : Changes s (s.startTrigger i h) := by
  unfold State.startTrigger; split
  · exact s.failLogic_changes _ _
  · exact ite_changes _ (s.failLogic_changes _ _) (s.askRoom_changes i)

theorem State.startWaitStep_changes (i : SiteId) (d : Duration) : Changes s (s.startWaitStep i d) :=
  .head (.calm (.site i _)) ((State.setPhase_changes _ _ _).trans (State.pushIfZero_changes _ _ _))

theorem State.startFlush_changes (i : SiteId) : Changes s (s.startFlush i) := by
  unfold State.startFlush; split
  · exact (s.noteClosure_changes i _).trans (State.setPhase_changes _ _ _)
  · exact s.setPhase_changes i _
  · exact s.endOk_changes i

theorem State.startHead_changes (i : SiteId) : Changes s (s.startHead i) := by
  unfold State.startHead; split
  · exact .refl
  · next st _ _ =>
    refine .head (.site i fun x => { x with state := .running, running := some ⟨.active .starting, 0⟩ }) ?_
    cases st.body with
    | connect => exact State.startConnect_changes _ _ _ _ _
    | arm => exact State.startArm_changes _ _ _
    | disarm => exact State.startDisarm_changes _ _ _
    | release => exact State.startRelease_changes _ _ _
    | measure => exact State.startMeter_changes _ _ _
    | scan => exact State.startMeter_changes _ _ _
    | trigger => exact State.startTrigger_changes _ _ _
    | wait => exact State.startWaitStep_changes _ _ _
    | flush => exact State.startFlush_changes _ _

theorem State.tryStart_changes (i : SiteId) : Changes s (s.tryStart i) := ite_changes _ (s.startHead_changes i) .refl

/-! ### Teardown -/

theorem State.endTriggerWait_calms (p : PortId) : Calms s (s.endTriggerWait p) := (Calm.port p _).calms

theorem State.leaveLists_calms (i : SiteId) : Calms s (s.leaveLists i) :=
  .head (.ports fun x => { x with waiters := x.waiters.filter fun w => decide (w.site ≠ i) }) (Calm.calms .aside)

theorem State.stopRunning_calms (i : SiteId) : Calms s (s.stopRunning i) := by
  unfold State.stopRunning; split
  · exact (s.leaveLists_calms i).tail (.site i _)
  · exact (s.leaveLists_calms i).tail (.site i _)
  · exact (Calm.site i _).calms
  · exact (s.modMeter_calms _).trans (State.giveBack_calms _ _)
  · exact s.giveBack_calms i
  · exact s.giveBack_calms i
  · split
    · exact (s.endTriggerWait_calms _).trans (State.giveBack_calms _ _)
    · exact s.giveBack_calms i
  · exact .refl

theorem State.handOver_calms (l : LaneId) : Calms s (s.handOver l) := by
  have hopen (t : State) : Calms t ((t.modLane l fun x => { x with wait := none }).enterOpening l) :=
    .head (.lane l _) (State.enterOpening_calms _ _)
  unfold State.handOver; split
  · exact .refl
  · split
    · exact (s.disarm_calms l).trans (ite_calms _ (State.startQuiet_calms _ _ _) (State.enterOpening_calms _ _))
    · exact s.enterOpening_calms l
    · exact ite_calms _ .refl (hopen s)
    · refine ite_calms _ .refl ?_
      split
      · exact (s.setRoute_calms l _ (by decide)).tail (.lane l _)
      · exact hopen s
    · exact .refl
    · exact .refl
    · exact .refl

theorem State.disarmAll_calms (i : SiteId) : Calms s (s.disarmAll i) := forEach_calms _ (fun l t => t.disarmRoute_calms l) _ s

theorem State.handOverAll_changes (i : SiteId) : Changes s (s.handOverAll i) := by
  unfold State.handOverAll
  exact .trans (Calms.changes ((s.disarmAll_calms i).trans (forEach_calms _ (fun l t => t.handOver_calms l) _ _)))
    (forEach_changes _ (fun p t => t.freeClaim_changes p) _ _)

theorem State.resetSave_calms (tag : Byte) : Calms s (s.resetSave tag) := .head .aside (State.takeSave_calms _ _ _)

theorem State.stuckPhaseEnd_calms : Calms s s.stuckPhaseEnd := by
  unfold State.stuckPhaseEnd; split
  · exact ite_calms _ (s.resetSave_calms _) .refl
  · exact .refl

theorem State.unstick_calms (l : LaneId) : Calms s (s.unstick l) :=
  ite_calms _ (ite_calms _ (s.startQuiet_calms l _) (s.enterOpening_calms l)) .refl

theorem State.resetTornDown_calms (q : ResetReq) : Calms s (s.resetTornDown q) := by
  unfold State.resetTornDown; split
  · exact .head .aside ((forEach_calms _ (fun l t => t.unstick_calms l) _ _).trans (State.stuckPhaseEnd_calms _))
  · exact .head .aside (State.replyWith_calms _ _)

theorem State.siteEnded_calms (i : SiteId) : Calms s (s.siteEnded i) := by
  unfold State.siteEnded; split
  · exact ite_calms _ (ite_calms _ (s.resetTornDown_calms _) (.single .aside)) .refl
  · exact .refl

theorem State.enterSafe_calms (i : SiteId) (f : Failure) : Calms s (s.enterSafe i f) :=
  .head (.site i _) (State.notice_calms _ _)

theorem State.answerAbort_calms (i : SiteId) : Calms s (s.answerAbort i) := by
  unfold State.answerAbort; split
  · exact .head (.site i _) (State.reply_calms _ _ _ _ _ _)
  · exact .refl

theorem State.checkTeardown_changes (i : SiteId) : Changes s (s.checkTeardown i) := by
  unfold State.checkTeardown; split
  · split
    · exact ((s.enterSafe_calms i _).changes.trans (State.noteClosure_changes _ _ _)).trans
        (State.siteEnded_calms _ _).changes
    · simp only
      exact .trans (.trans (Calms.changes (ite_calms _ (s.enterSafe_calms i _) (.single (.site i _))))
        (ite_changes _ (State.noteClosure_changes _ _ _) .refl)) (Calms.changes (.trans (State.answerAbort_calms _ i)
          (State.siteEnded_calms _ i)))
  · exact .refl

theorem State.beginTeardown_changes (i : SiteId) : Changes s (s.beginTeardown i) :=
  (s.handOverAll_changes i).trans (State.checkTeardown_changes _ _)

theorem State.checkClear_changes (i : SiteId) : Changes s (s.checkClear i) := by
  unfold State.checkClear; split
  · exact .refl
  · refine ite_changes _ ?_ (ite_changes _ ?_ .refl)
    · refine .trans (.trans (Calms.changes ?_) (State.push_changes _ _)) (State.siteEnded_calms _ i).changes
      exact .head (.site i _) (State.reply_calms _ _ _ _ _ _)
    · refine Calms.changes (.trans ?_ (ite_calms _ (forEach_calms _ (fun l t => t.unstick_calms l) _ _)
        (State.siteEnded_calms _ i)))
      exact .head (.site i _) (State.reply_calms _ _ _ _ _ _)

theorem State.afterRemoval_changes (i : SiteId) : Changes s (s.afterRemoval i) := by
  unfold State.afterRemoval; simp only
  refine .trans (.trans (.trans ?_ ((State.checkTeardown_changes _ i).trans (State.checkClear_changes _ i)))
    (ite_changes _ (.single (.calm (.site i _))) .refl)) (State.stuckPhaseEnd_calms _).changes
  split
  · exact s.endOk_changes i
  · exact .refl

theorem State.removeRoute_changes (l : LaneId) (h : ∀ r, s.lanes[l].route = some r → r.state ≠ .live) :
    Changes s (s.removeRoute l) := by
  unfold State.removeRoute; split
  · exact .refl
  · refine .head (.remove l h) (.trans (ite_changes _ ?_ (State.serveLaneWaiters_changes _))
      ((State.freeClaim_changes _ _).trans (State.afterRemoval_changes _ _)))
    exact Calms.changes ((State.retire_calms _ l (by simp)).trans (State.healthDue_calms _ _))

/-! ### Faults -/

/-- Stopping a step leaves the queues as they are. -/
theorem State.stopRunning_queue (i j : SiteId) : ((s.stopRunning i).sites[j]).queue = s.sites[j].queue := by
  have hkeep (t : State) (f : Site → Site) (hf : ∀ x, (f x).queue = x.queue) (ht : t.sites = s.sites) :
      ((t.modSite i f).sites[j]).queue = s.sites[j].queue := by
    rw [State.modSite_sites, upd_get, ht]; split
    · exact hf _
    · rfl
  unfold State.stopRunning; split
  · exact hkeep _ _ (fun _ => rfl) rfl
  · exact hkeep _ _ (fun _ => rfl) rfl
  · exact hkeep _ _ (fun _ => rfl) rfl
  · rfl
  · rfl
  · rfl
  · split <;> rfl
  · rfl

theorem State.carryFault_changes (i : SiteId) (f : Failure) : Changes s (s.carryFault i f) := by
  unfold State.carryFault; simp only
  generalize hu : ((s.stopRunning i).modSite i fun x =>
    { x with held := false, stopCause := none, state := .safing, teardown := some (.fault f) }) = u
  have hsu : Changes s u := hu ▸ Calms.changes ((s.stopRunning_calms i).tail (.site i _))
  have hq : u.sites[i].queue = s.sites[i].queue := by
    rw [← hu, State.modSite_sites, upd_get, if_pos rfl]; exact s.stopRunning_queue i i
  refine hsu.trans ?_
  split
  · split
    · next b rest hdrop =>
      refine .single (.site i _ ?_)
      rw [hq]
      conv_rhs => rw [← List.take_append_drop s.sites[i].begunSteps s.sites[i].queue, hdrop]
      exact (List.Sublist.refl _).append (List.singleton_sublist.mpr List.mem_cons_self)
    · exact .refl
  · next a rest _ hqa =>
    refine .head (.site i _ ?_) (State.finishStep_changes _ _ _ _ _ _)
    rw [hq, hqa]; exact List.singleton_sublist.mpr List.mem_cons_self
  · next a rest hqa =>
    refine .head (.site i _ ?_) (State.finishStep_changes _ _ _ _ _ _)
    rw [hq, hqa]; exact List.singleton_sublist.mpr List.mem_cons_self
  · exact .refl

theorem State.takeFault_changes (i : SiteId) (f : Failure) : Changes s (s.takeFault i f) := by
  have htake : Changes s ((s.carryFault i f).beginTeardown i) :=
    (s.carryFault_changes i f).trans (State.beginTeardown_changes _ _)
  unfold State.takeFault
  cases s.sites[i].state with
  | idle | running | held | stopped => exact htake
  | aborting | safing | safe => exact .refl


/-! ### Events -/

theorem State.claimExpired_changes (i : SiteId) : Changes s (s.claimExpired i) := by
  unfold State.claimExpired; split
  · exact .refl
  · have hstop : Changes s (s.modSite i fun x => { x with claimTimer := none }) := .single (.calm (.site i _))
    simp only; split
    · exact .trans (.trans hstop (State.leaveLists_calms _ _).changes) (State.failLogic_changes _ _ _)
    · exact .trans (.trans hstop (State.leaveLists_calms _ _).changes) (State.failLogic_changes _ _ _)
    · exact hstop

theorem State.waitExpired_changes (i : SiteId) : Changes s (s.waitExpired i) := by
  unfold State.waitExpired; split
  · exact .refl
  · have hstop : Changes s (s.modSite i fun x => { x with waitTimer := none }) := .single (.calm (.site i _))
    simp only; split
    · exact hstop.trans (State.endOk_changes _ _)
    · exact hstop

theorem State.loadGoesOn_changes (l : LaneId) (r : Route) (clean : Bool) (k : WaitKind) (d : Duration) :
    Changes s (s.loadGoesOn l r clean k d) := by
  unfold State.loadGoesOn
  exact ite_changes _ (s.enterOpening_calms l).changes (ite_changes _ (s.startWait_changes _ _ _)
    (.trans (s.setRoute_calms l .ready (by decide)).changes (State.takeFault_changes _ _ _)))

theorem State.afterLoad_changes (l : LaneId) (r : Route) (ld : Load) (clean : Bool) :
    Changes s (s.afterLoad l r ld clean) := by
  unfold State.afterLoad; split
  · exact s.startWait_changes _ _ _
  · exact s.loadGoesOn_changes _ _ _ _ _
  · exact s.startWait_changes _ _ _
  · exact s.loadGoesOn_changes _ _ _ _ _

theorem State.loadEnds_changes (l : LaneId) (readback : List Relay) : Changes s (s.loadEnds l readback) := by
  unfold State.loadEnds; split
  · exact .refl
  · have hreport (ld : Load) : Changes s ((s.modLane l fun x => { x with load := none }).healthLoad l ld readback) :=
      Calms.changes (.head (.lane l _ rfl rfl (.inr rfl)) (State.healthLoad_calms _ _ _ _))
    simp only; split
    · exact hreport _
    · exact (hreport _).trans (State.afterLoad_changes _ _ _ _ _)

theorem State.endWait_calms (l : LaneId) : Calms s (s.endWait l) := (Calm.lane l _).calms

theorem State.operateExpired_changes (l : LaneId) : Changes s (s.operateExpired l) := by
  unfold State.operateExpired; split
  · exact (s.endWait_calms l).changes.trans (State.startWait_changes _ _ _ _)
  · exact .refl

theorem State.switchComplete_calms (i : SiteId) : Calms s (s.switchComplete i) := by
  unfold State.switchComplete; split
  · split
    · exact s.startAcquisition_calms _ _ _ _ _
    · exact .refl
  · exact .refl

theorem State.settleExpired_changes (l : LaneId) : Changes s (s.settleExpired l) := by
  unfold State.settleExpired; split
  · have hready : Changes s ((s.endWait l).setRoute l .ready) :=
      Calms.changes (.trans (s.endWait_calms l) (State.setRoute_calms _ l .ready (by decide)))
    simp only; split
    · exact hready.trans (State.endOk_changes _ _)
    · exact hready.trans (State.switchComplete_calms _ _).changes
  · exact .refl

theorem State.releaseExpired_changes (l : LaneId) : Changes s (s.releaseExpired l) := by
  unfold State.releaseExpired; split
  · next r _ hr =>
    have hsame : (s.endWait l).lanes[l].route = some r := by
      unfold State.endWait; rw [State.modLane_lanes, upd_get, if_pos rfl]; exact hr
    have hremove (hst : r.state ≠ .live) : Changes (s.endWait l) ((s.endWait l).removeRoute l) :=
      State.removeRoute_changes _ l fun r' hr' => by cases hsame.symm.trans hr'; exact hst
    refine (s.endWait_calms l).changes.trans ?_
    split
    · simp only; split
      · exact State.switchClose_changes _ _ _ _
      · exact .refl
    · next hst => exact ite_changes _ (hremove (by rw [hst]; decide)) (State.openingStep_calms _ _).changes
    · next hst => exact ite_changes _ (hremove (by rw [hst]; decide)) (State.hotStep_calms _ _).changes
    · exact .refl
  · exact .refl

theorem State.disarmQuiet_changes (l : LaneId) (i : SiteId) : Changes s (s.disarmQuiet l i) := by
  unfold State.disarmQuiet
  refine ite_changes _ (s.enterOpening_calms l).changes ?_
  split
  · exact (s.setRoute_calms l .ready (by decide)).changes.trans (State.endOk_changes _ _)
  · exact (s.enterOpening_calms l).changes
  · exact .refl

theorem State.quietEffects_changes (l : LaneId) (h : s.isLive l = false) : Changes s (s.quietEffects l) := by
  unfold State.quietEffects; split
  · exact (s.beginLoad_calms l _ (.inr h)).changes
  · exact .head (.calm (.lane l _)) (State.disarmQuiet_changes _ _ _)
  · exact (s.enterOpening_calms l).changes
  · exact ite_changes _ s.serveLaneWaiters_changes .refl

theorem State.dischargeExpired_changes (l : LaneId) : Changes s (s.dischargeExpired l) := by
  unfold State.dischargeExpired; split
  · have hstuck : Calms s ((s.modLane l fun x => { x with quiet := none }).setRoute l .stuck) :=
      .head (.lane l _) (State.setRoute_calms _ l .stuck (by decide))
    refine hstuck.changes.trans ?_
    exact ite_changes _ (State.checkTeardown_changes _ _) (ite_changes _ (State.checkClear_changes _ _)
      (State.takeFault_changes _ _ _))
  · exact .refl

theorem State.ocExpired_changes (l : LaneId) : Changes s (s.ocExpired l) := by
  unfold State.ocExpired; split
  · exact .refl
  · have hcount : Changes s (s.modLane l fun x => { x with episode := none, latch := true }).countOvercurrent :=
      Calms.changes (.head (.lane l _) (State.countOvercurrent_calms _))
    simp only; split
    · exact hcount
    · exact .trans (hcount.trans (State.notice_calms _ _).changes) (State.takeFault_changes _ _ _)

theorem State.markDone_changes (p : PortId) (w : TriggerWait) : Changes s (s.markDone p w) :=
  .trans (.trans (s.endTriggerWait_calms p).changes (State.place_changes _ _ _)) (State.endOk_changes _ _)

theorem State.doneExpired_changes (p : PortId) : Changes s (s.doneExpired p) := by
  unfold State.doneExpired; split
  · exact .trans (Calms.changes (.trans (s.endTriggerWait_calms p) (State.giveBack_calms _ _)))
      (State.failLogic_changes _ _ _)
  · exact .refl

theorem State.pulseExpired_changes (p : PortId) : Changes s (s.pulseExpired p) := by
  unfold State.pulseExpired; split
  · exact .refl
  · have hend : Changes s (s.modPort p fun x => { x with trigger := false, pulseTimer := none }) :=
      .single (.calm (.port p _))
    simp only; split
    · exact hend.trans (State.assertTrigger_changes _ _ _ _ _)
    · exact hend

theorem State.scanBoundary_changes (i : SiteId) (n : Nat) : Changes s (s.scanBoundary i n) :=
  ite_changes _ (.head (.site i _) (State.setSite_calms _ _ _).changes) (.head (.site i _) (State.askRoom_changes _ _))

theorem State.learnVerdict_changes (i : SiteId) (v : Verdict) : Changes s (s.learnVerdict i v) := by
  unfold State.learnVerdict; split
  · exact ite_changes _ (s.failLogic_changes _ _) (s.endOk_changes _)
  · exact ite_changes _ (s.failLogic_changes _ _) (ite_changes _ (s.endOk_changes _) (s.scanBoundary_changes _ _))
  · exact .refl

theorem State.finishAcquisition_changes (a : Acquisition) : Changes s (s.finishAcquisition a) :=
  .trans (.trans (s.modMeter_calms _).changes (State.place_changes _ _ _)) (State.learnVerdict_changes _ _ _)

theorem State.afterSample_changes (a : Acquisition) : Changes s (s.afterSample a) := by
  unfold State.afterSample
  refine ite_changes _ (s.modMeter_calms _).changes ?_
  split
  · exact (s.modMeter_calms _).changes
  · exact s.finishAcquisition_changes a

theorem State.sampleExpired_changes (v : BitVec 18) : Changes s (s.sampleExpired v) := by
  unfold State.sampleExpired; split
  · exact ite_changes _ .refl (s.afterSample_changes _)
  · exact .refl

theorem State.rangeSwitchExpired_calms : Calms s s.rangeSwitchExpired := by
  unfold State.rangeSwitchExpired; split
  · exact ite_calms _ (s.modMeter_calms _) .refl
  · exact .refl

theorem State.startSilence_calms : Calms s s.startSilence := by
  unfold State.startSilence
  exact s.modTime_calms _

theorem State.silenceFrame_calms : Calms s s.silenceFrame := by
  unfold State.silenceFrame; split
  · exact .refl
  · exact s.startSilence_calms

theorem State.silenceExpired_changes : Changes s s.silenceExpired := by
  unfold State.silenceExpired; split
  · exact .trans (.trans (s.modTime_calms _).changes (forEach_changes _ (fun i t => t.takeFault_changes i _) _ _))
      (State.notice_calms _ _).changes
  · exact .refl

theorem State.qualificationEnds_calms : Calms s s.qualificationEnds := by
  unfold State.qualificationEnds; split
  · exact (s.modTime_calms _).trans (State.notice_calms _ _)
  · exact .refl

/-! ### Requests -/

theorem State.refuse_calms (kind : Byte) (h : Head) (c : ReplyCode) : Calms s (s.refuse kind h c) := s.reply_calms _ _ _ _ _

theorem State.answer_calms (kind : Byte) (h : Head) (data : List Byte) : Calms s (s.answer kind h data) :=
  s.reply_calms _ _ _ _ _

theorem State.answerHold_calms (kind : Byte) (h : Head) (i : SiteId) : Calms s (s.answerHold kind h i) :=
  s.answer_calms _ _ _

/-- An accepted step finds room and a tag of its own (R4, R5). -/
theorem State.acceptStep_guard {s : State} {i : SiteId} {tag : Byte} {r : StepReq} {b : StepBody}
    (h : s.acceptStep i tag r = .ok b) :
    s.sites[i].queue.length < 32 ∧ ∀ x ∈ s.sites[i].queue, x.tag ≠ tag := by
  unfold State.acceptStep at h
  simp only at h
  split at h
  · cases h
  · split at h
    · cases h
    · split at h
      · cases h
      · next hfull =>
        split at h
        · cases h
        · next htag =>
          refine ⟨Nat.lt_of_not_le hfull, fun x hx he => htag ?_⟩
          exact List.any_eq_true.mpr ⟨x, hx, decide_eq_true he⟩

theorem State.takeStep_changes (r : StepReq) (h : Head) : Changes s (s.takeStep r h) := by
  unfold State.takeStep
  refine ite_changes _ (s.refuse_calms _ _ _).changes ?_
  split
  · exact (s.refuse_calms _ _ _).changes
  · split
    · exact (s.refuse_calms _ _ _).changes
    · next b hb =>
      obtain ⟨hroom, htag⟩ := State.acceptStep_guard hb
      exact .trans (Calms.changes (.head (.accept _ _ hroom htag) (State.answer_calms _ _ _ _))) (State.push_changes _ _)

theorem State.takeHold_calms (h : Head) : Calms s (s.takeHold h) := by
  unfold State.takeHold; split
  · exact s.refuse_calms _ _ _
  · split
    · exact .head (.site _ _) (State.answerHold_calms _ _ _ _)
    · exact .head (.site _ _) (State.answerHold_calms _ _ _ _)
    · exact s.answerHold_calms _ _ _
    · exact s.refuse_calms _ _ _

theorem State.resumeHeld_changes (i : SiteId) : Changes s (s.resumeHeld i) := by
  unfold State.resumeHeld; split
  · exact .head (.site i _) (State.askRoom_changes _ _)
  · exact .head (.site i _) (State.tryStart_changes _ _)

theorem State.takeResume_changes (h : Head) : Changes s (s.takeResume h) := by
  unfold State.takeResume; split
  · exact (s.refuse_calms _ _ _).changes
  · split
    · exact (s.resumeHeld_changes _).trans (State.answerHold_calms _ _ _ _).changes
    · exact Calms.changes (.head (.site _ _) (State.answerHold_calms _ _ _ _))
    · exact (s.answerHold_calms _ _ _).changes
    · exact (s.refuse_calms _ _ _).changes

theorem State.abortSite_changes (i : SiteId) (tag : Byte) : Changes s (s.abortSite i tag) := by
  unfold State.abortSite; simp only
  refine .trans (.trans ?_ (State.noteClosure_changes _ i _)) (State.beginTeardown_changes _ i)
  have hdiscard := (s.stopRunning_calms i).tail (.site i (fun x =>
    { x with queue := x.queue.take x.begunSteps, held := false, stopCause := none, state := .aborting,
             teardown := some .abort, abort := some { tag := tag, discarded := s.sites[i].abortTags } })
      (List.take_sublist _ _))
  split
  · exact Calms.changes hdiscard
  · exact .trans (Calms.changes hdiscard) (State.finishStep_changes _ _ _ _ _ _)
  · exact Calms.changes hdiscard

theorem State.takeAbort_changes (h : Head) : Changes s (s.takeAbort h) := by
  unfold State.takeAbort; split
  · exact (s.refuse_calms _ _ _).changes
  · split
    · exact (s.refuse_calms _ _ _).changes
    · exact (s.refuse_calms _ _ _).changes
    · exact (s.refuse_calms _ _ _).changes
    · exact s.abortSite_changes _ _

theorem State.clearAtOnce_changes (h : Head) (i : SiteId) : Changes s (s.clearAtOnce h i) :=
  .trans (Calms.changes (.head (.site i _) (State.answer_calms _ _ _ _))) (State.push_changes _ _)

theorem State.clearStuck_calms (force : Bool) (h : Head) (i : SiteId) : Calms s (s.clearStuck force h i) := by
  unfold State.clearStuck; simp only
  refine ite_calms _ ?_ (ite_calms _ (s.reply_calms _ _ _ _ _) ?_)
  · exact .head (.site i _) (forEach_calms _ (fun l t => t.hotStep_calms l) _ _)
  · exact .head (.site i _) (forEach_calms _ (fun l t => t.enterOpening_calms l) _ _)

theorem State.takeClear_changes (force : Bool) (h : Head) : Changes s (s.takeClear force h) := by
  unfold State.takeClear; split
  · exact (s.refuse_calms _ _ _).changes
  · split
    · exact s.clearAtOnce_changes _ _
    · exact ite_changes _ (s.refuse_calms _ _ _).changes (ite_changes _ (s.clearStuck_calms _ _ _).changes
        (s.clearAtOnce_changes _ _))
    · exact (s.refuse_calms _ _ _).changes

theorem State.takeReachGet_calms (h : Head) : Calms s (s.takeReachGet h) := by
  unfold State.takeReachGet; split
  · exact s.refuse_calms _ _ _
  · exact (s.answer_calms _ _ _).trans (State.drew_calms _ _)

theorem State.setReach_calms (h : Head) (i : SiteId) (new : Reach) (retain : Bool) : Calms s (s.setReach h i new retain) := by
  unfold State.setReach; simp only
  refine ite_calms _ (.trans (.trans ?_ (State.touchIf_calms _ _ _)) (State.due_calms _ _)) ?_
  · exact .head (.site i _) (State.await_calms _ _ _)
  · exact .trans (.head (.site i _) (State.answer_calms _ _ _ _)) (State.drew_calms _ _)

theorem State.takeReachSet_calms (new : Reach) (retain : Bool) (h : Head) : Calms s (s.takeReachSet new retain h) := by
  unfold State.takeReachSet; split
  · exact s.refuse_calms _ _ _
  · refine ite_calms _ (s.refuse_calms _ _ _) ?_
    split
    · exact s.refuse_calms _ _ _
    · exact s.setReach_calms _ _ _ _

theorem State.takeReachFreeze_calms (h : Head) : Calms s (s.takeReachFreeze h) :=
  ite_calms _ (s.refuse_calms _ _ _) (.head .aside (State.answer_calms _ _ _ _))

theorem State.takePortGet_calms (port : Byte) (h : Head) : Calms s (s.takePortGet port h) := by
  unfold State.takePortGet
  refine ite_calms _ (s.refuse_calms _ _ _) ?_
  split
  · exact s.refuse_calms _ _ _
  · exact (s.answer_calms _ _ _).trans (State.drew_calms _ _)

theorem State.configDue_calms (changed : Bool) : Calms s (s.configDue changed) :=
  ite_calms _ ((s.touch_calms _).trans (State.due_calms _ _)) .refl

/-- PORT_SET describes an external port (R31). -/
theorem portSetFields_ne_zero {port kind : Byte} {hv : Bool} {style : Byte} {width : BitVec 16} {p : PortId} {d : PortDesc}
    (h : portSetFields port kind hv style width = some (p, d)) : p ≠ 0 := by
  unfold portSetFields at h
  split at h
  · split at h
    · cases h
    · next hp => cases h; exact hp
  · cases h

theorem State.takePortSet_calms (port kind : Byte) (hv : Bool) (style : Byte) (width : BitVec 16) (h : Head) :
    Calms s (s.takePortSet port kind hv style width h) := by
  unfold State.takePortSet
  refine ite_calms _ (s.refuse_calms _ _ _) ?_
  split
  · exact s.refuse_calms _ _ _
  · next p d hp =>
    refine ite_calms _ (s.refuse_calms _ _ _) (.trans (.trans (.single (.port p _ (fun h => h) (.inr ?_)))
      (State.configDue_calms _ _)) (State.answer_calms _ _ _ _))
    exact portSetFields_ne_zero hp

theorem State.takeRouteGet_calms (h : Head) : Calms s (s.takeRouteGet h) := by
  unfold State.takeRouteGet
  refine ite_calms _ ((s.answer_calms _ _ _).trans (State.drew_calms _ _)) ?_
  split
  · exact s.refuse_calms _ _ _
  · exact (s.answer_calms _ _ _).trans (State.drew_calms _ _)

theorem State.takeCalGet_calms (range : Byte) (h : Head) : Calms s (s.takeCalGet range h) := by
  unfold State.takeCalGet
  refine ite_calms _ (s.refuse_calms _ _ _) ?_
  split
  · exact s.refuse_calms _ _ _
  · exact s.answer_calms _ _ _

theorem State.takeCalSet_calms (range : Byte) (z g : BitVec 16) (h : Head) : Calms s (s.takeCalSet range z g h) := by
  unfold State.takeCalSet
  refine ite_calms _ (s.refuse_calms _ _ _) ?_
  split
  · exact s.refuse_calms _ _ _
  · exact .trans ((s.modMeter_calms _).trans (State.touchIf_calms _ _ _)) (State.answer_calms _ _ _ _)

theorem State.takeConfigGet_calms (start count : Byte) (h : Head) : Calms s (s.takeConfigGet start count h) := by
  unfold State.takeConfigGet
  refine ite_calms _ (s.refuse_calms _ _ _) ?_
  split
  · exact s.refuse_calms _ _ _
  · exact ite_calms _ (s.refuse_calms _ _ _) (s.answer_calms _ _ _)

theorem State.dropMasked_calms : Calms s s.dropMasked := forEach_calms _ (fun k t => (Calm.forget (s := t) k).calms) _ s

theorem State.computeLives_calms : Calms s s.computeLives := forEach_calms _ (fun l t => t.computeLife_calms l) _ s

theorem State.configEffects_calms (ps : List (Fin 16 × BitVec 32)) : Calms s (s.configEffects ps) := by
  unfold State.configEffects; simp only
  refine .trans ?_ (State.healthDue_calms _ _)
  refine .trans ?_ (ite_calms _ (State.recompute_calms _) .refl)
  refine .trans ?_ (ite_calms _ (forEach_calms _ (fun l t => t.checkEndOfLife_calms l) _ _) .refl)
  refine .trans ?_ (ite_calms _ (State.computeLives_calms _) .refl)
  refine .trans ?_ (ite_calms _ (State.dropMasked_calms _) .refl)
  exact ite_calms _ s.startSilence_calms .refl

theorem State.takeConfigSet_calms (pairs : List (Byte × BitVec 32)) (h : Head) : Calms s (s.takeConfigSet pairs h) := by
  unfold State.takeConfigSet
  refine ite_calms _ (s.refuse_calms _ _ _) (ite_calms _ (s.refuse_calms _ _ _) ?_)
  split
  · exact s.refuse_calms _ _ _
  · exact .trans (.trans (.head (.store _) (State.configEffects_calms _ _)) (State.configDue_calms _ _))
      (State.answer_calms _ _ _ _)

theorem State.takeStatus_calms (h : Head) : Calms s (s.takeStatus h) :=
  ite_calms _ (s.refuse_calms _ _ _) (s.answer_calms _ _ _)

theorem State.takeHealth_calms (h : Head) : Calms s (s.takeHealth h) :=
  ite_calms _ (s.refuse_calms _ _ _) (s.answer_calms _ _ _)

theorem State.takeCountGet_calms (lane : Byte) (first : BitVec 16) (number : Byte) (h : Head) :
    Calms s (s.takeCountGet lane first number h) := by
  unfold State.takeCountGet
  refine ite_calms _ (s.refuse_calms _ _ _) ?_
  split
  · exact s.refuse_calms _ _ _
  · exact ite_calms _ (s.refuse_calms _ _ _) (s.answer_calms _ _ _)

theorem State.renewLane_changes (l : LaneId) (tag : Byte) : Changes s (s.renewLane l tag) := by
  have hrenew (t : State) : Changes t (if t.lanes[l].state = .retired then
      (t.modLane l fun x => { x with state := .free }).serveLaneWaiters else t) := by
    split
    · next h => exact .head (.renew l h) (State.serveLaneWaiters_changes _)
    · exact .refl
  unfold State.renewLane; simp only
  refine .trans ?_ (State.due_calms _ _).changes
  refine .trans ?_ (State.due_calms _ _).changes
  refine .trans ?_ (State.touchIf_calms _ _ _).changes
  refine .trans ?_ (State.touchIf_calms _ _ _).changes
  refine .trans ?_ (State.await_calms _ _ _).changes
  refine .tail ?_ (.calm (.health _))
  refine .trans ?_ (State.recompute_calms _).changes
  refine .trans ?_ (hrenew _)
  exact Calms.changes (.head (.wear l _ fun _ => rfl) (State.computeLife_calms _ l))

theorem State.takeLaneRenew_changes (lane : Byte) (h : Head) : Changes s (s.takeLaneRenew lane h) := by
  unfold State.takeLaneRenew
  refine ite_changes _ (s.refuse_calms _ _ _).changes ?_
  split
  · exact (s.refuse_calms _ _ _).changes
  · exact ite_changes _ (s.refuse_calms _ _ _).changes (s.renewLane_changes _ _)

theorem State.takeSaveRequest_calms (h : Head) : Calms s (s.takeSaveRequest h) :=
  ite_calms _ (s.refuse_calms _ _ _) (ite_calms _ (s.refuse_calms _ _ _) (s.takeSave_calms _ _))

theorem State.resetStop_calms (i : SiteId) : Calms s (s.resetStop i) :=
  (s.stopRunning_calms i).tail (.site i _ (List.nil_sublist _) (by exact nofun))

theorem State.resetSite_changes (i : SiteId) : Changes s (s.resetSite i) := by
  unfold State.resetSite; split
  · exact .refl
  · exact .refl
  · refine ite_changes _ .refl (Calms.changes (ite_calms _ (s.siteEnded_calms i) ?_))
    exact .head (.site i _) (State.siteEnded_calms _ i)
  · exact .head (.site i _) (State.beginTeardown_changes _ _)

theorem State.resetReq_calms (r : Option ResetReq) : Calms s { s with resetReq := r } := Calm.calms .aside

theorem State.beginReset_changes (full : Bool) (tag : Byte) : Changes s (s.beginReset full tag) := by
  unfold State.beginReset; simp only
  refine .trans ?_ (forEach_changes _ (fun i t => t.resetSite_changes i) _ _)
  refine .trans ?_ (State.resetReq_calms _ _).changes
  refine .trans ?_ (forEach_calms _ (fun i t => t.resetStop_calms i) _ _).changes
  refine .tail s.discardResults_calms.changes (.link _ rfl ?_)
  exact fun ⟨hslots, hreserved, _⟩ => ⟨hslots, hreserved, Nat.zero_le _⟩

theorem State.takeReset_changes (mode : Byte) (h : Head) : Changes s (s.takeReset mode h) :=
  ite_changes _ (s.refuse_calms _ _ _).changes (ite_changes _ (s.refuse_calms _ _ _).changes
    (ite_changes _ (s.refuse_calms _ _ _).changes (s.beginReset_changes _ _)))

theorem State.takeTime_calms (ack : Bool) (h : Head) : Calms s (s.takeTime ack h) :=
  ite_calms _ (s.refuse_calms _ _ _) (.trans (ite_calms _ (s.modTime_calms _) .refl) (State.answer_calms _ _ _ _))

theorem State.takeRequest_changes (r : Request) (h : Head) : Changes s (s.takeRequest r h) := by
  cases r with
  | status => exact (s.takeStatus_calms h).changes
  | step q => exact s.takeStep_changes q h
  | hold => exact (s.takeHold_calms h).changes
  | resume => exact s.takeResume_changes h
  | abort => exact s.takeAbort_changes h
  | clear force => exact s.takeClear_changes force h
  | reachGet => exact (s.takeReachGet_calms h).changes
  | reachSet => exact (s.takeReachSet_calms _ _ h).changes
  | reachFreeze => exact (s.takeReachFreeze_calms h).changes
  | portGet => exact (s.takePortGet_calms _ h).changes
  | portSet => exact (s.takePortSet_calms _ _ _ _ _ h).changes
  | routeGet => exact (s.takeRouteGet_calms h).changes
  | calGet => exact (s.takeCalGet_calms _ h).changes
  | calSet => exact (s.takeCalSet_calms _ _ _ h).changes
  | configGet => exact (s.takeConfigGet_calms _ _ h).changes
  | configSet => exact (s.takeConfigSet_calms _ h).changes
  | health => exact (s.takeHealth_calms h).changes
  | countGet => exact (s.takeCountGet_calms _ _ _ h).changes
  | laneRenew => exact s.takeLaneRenew_changes _ h
  | save => exact (s.takeSaveRequest_calms h).changes
  | reset => exact s.takeReset_changes _ h
  | time => exact (s.takeTime_calms _ h).changes

/-! ### LINK -/

theorem State.discardFrame_calms (c : LinkCause) : Calms s (s.discardFrame c) := .head (.link _) (State.notice_calms _ _)

theorem State.receiveGood_changes (f : Frame) : Changes s (s.receiveGood f) := by
  unfold State.receiveGood; split
  · exact (s.discardFrame_calms _).changes
  · next hfull =>
    refine .trans (.trans (.single (.link _ rfl ?_)) (State.silenceFrame_calms _).changes) (State.push_changes _ _)
    rintro ⟨-, hreserved, hcompletion⟩
    refine ⟨?_, hreserved, hcompletion⟩
    simpa [Config.receiveSlots] using hfull

theorem State.frameEnd_changes (f : Frame) (crc : BitVec 16) : Changes s (s.frameEnd f crc) :=
  ite_changes _ (s.discardFrame_calms _).changes (ite_changes _ (s.discardFrame_calms _).changes (s.receiveGood_changes f))

theorem State.huntByte_calms (b : Byte) : Calms s (s.huntByte b) := ite_calms _ (Calm.link _).calms .refl

theorem State.takeBytes_changes (bytes : List Byte) : Changes s (s.takeBytes bytes) := by
  have hgo : Changes s (s.modLink fun k => { k with rx := .receiving bytes s.time.now }) := .single (.calm (.link _))
  unfold State.takeBytes; simp only; split
  · refine ite_changes _ (s.discardFrame_calms _).changes (ite_changes _ hgo ?_)
    split
    · exact s.frameEnd_changes _ _
    · exact hgo
  · exact hgo

theorem State.byteArrives_changes (b : Byte) : Changes s (s.byteArrives b) := by
  unfold State.byteArrives; split
  · exact (s.huntByte_calms b).changes
  · exact ite_changes _ (Calms.changes ((s.discardFrame_calms _).trans (State.huntByte_calms _ _))) (s.takeBytes_changes _)

theorem State.gapEnds_calms : Calms s s.gapEnds := ite_calms _ (s.discardFrame_calms _) .refl

theorem State.judge_changes (f : Frame) : Changes s (s.judge f) := by
  unfold State.judge; split
  · exact (s.reply_calms _ _ _ _ _).changes
  · exact s.takeRequest_changes _ _

theorem State.dispatchOne_changes : Changes s s.dispatchOne := by
  unfold State.dispatchOne; split
  · exact .refl
  · next f rest hslots =>
    split
    · next h =>
      have hplace : s.link.reserved < 32 := of_decide_eq_true (Bool.and_eq_true_iff.mp h).2
      refine .trans (.tail (.trans (.single (.link _ rfl ?_)) (State.judge_changes _ f)) (.calm (.link _)))
        (State.push_changes _ _)
      rintro ⟨hlen, -, hcompletion⟩
      rw [hslots, List.length_cons] at hlen
      exact ⟨by simp only; omega, hplace, hcompletion⟩
    · exact .refl

theorem State.beginFrame_changes (f : TxFrame) : Changes s (s.beginFrame f) := by
  have htx : Changes s (s.modLink fun k => { k with tx := some f }) := .single (.calm (.link _))
  unfold State.beginFrame; simp only
  cases f with
  | reply r =>
    refine htx.tail (.link _ rfl ?_)
    exact fun ⟨hslots, hreserved, hcompletion⟩ => ⟨hslots, (Nat.sub_le _ _).trans hreserved, hcompletion⟩
  | done d =>
    refine htx.tail (.link _ rfl ?_)
    exact fun ⟨hslots, hreserved, hcompletion⟩ => ⟨hslots, hreserved, (List.tail_sublist _).length_le.trans hcompletion⟩
  | notice e => exact htx.tail (.calm (.forget _))
  | result b => exact htx.tail (.calm (.results _ fun h => (List.tail_sublist _).length_le.trans h))

theorem State.placeFreed_changes (f : TxFrame) : Changes s (s.placeFreed f) := by
  cases f with
  | reply => exact s.push_changes _
  | done => exact s.push_changes _
  | notice => exact .refl
  | result => exact s.admitBlock_changes

theorem State.pump_changes : Changes s s.pump := by
  unfold State.pump
  refine ite_changes _ ?_ .refl
  split
  · exact (s.beginFrame_changes _).trans (State.placeFreed_changes _ _)
  · exact .refl

theorem State.frameSent_calms : Calms s s.frameSent := by
  have hend : Calm s (s.modLink fun k => { k with tx := none }) := .link _
  unfold State.frameSent; simp only; split
  · exact ite_calms _ (hend.calms.tail .aside) hend.calms
  · exact hend.calms

/-! ### The end of an event -/

theorem State.runTask_changes (t : Task) : Changes s (s.runTask t) := by
  cases t with
  | next i => exact s.tryStart_changes i
  | done d => exact s.handleDone_changes d
  | closure i c => exact s.closeNow_changes i c
  | claimExpired i => exact s.claimExpired_changes i
  | waitExpired i => exact s.waitExpired_changes i
  | operateExpired l => exact s.operateExpired_changes l
  | settleExpired l => exact s.settleExpired_changes l
  | releaseExpired l => exact s.releaseExpired_changes l
  | ocExpired l => exact s.ocExpired_changes l
  | doneExpired p => exact s.doneExpired_changes p
  | dispatch => exact s.dispatchOne_changes
  | admitDone => exact s.admitDone_changes

theorem drain_changes (n : Nat) (s : State) : Changes s (drain n s) := by
  induction n generalizing s with
  | zero => exact .refl
  | succ n ih =>
    unfold drain; split
    · exact .refl
    · exact .head (.notes _) ((State.runTask_changes _ _).trans (ih _))

theorem State.settle_changes : Changes s s.settle :=
  .trans (.trans (drain_changes _ s) (State.pump_changes _)) (drain_changes _ _)

theorem State.finish_changes {s t : State} (h : s.finish = .next t) : Changes s t := by
  unfold State.finish at h
  split at h
  · cases h; exact s.settle_changes
  · cases h

theorem event_changes {f : State → State} {s t : State} (hf : Changes s (f s)) (h : event f s = .next t) : Changes s t := by
  unfold event at h
  split at h
  · exact hf.trans (State.finish_changes h)
  · cases h; exact .refl

theorem receiverEvent_changes {f : State → State} {s t : State} (hf : Changes s (f s)) (h : receiverEvent f s = .next t) :
    Changes s t := event_changes (ite_changes _ hf .refl) h

theorem request_changes {r : Request} {tag site : Byte} {s t : State} (h : request r tag site s = .next t) : Changes s t :=
  event_changes (ite_changes _ (s.receiveGood_changes _) .refl) h

/-! ### Start-up -/

theorem State.loadNotices_calms : Calms s s.loadNotices :=
  .trans (forEach_calms _ (fun _ t => t.notice_calms _) _ s) (ite_calms _ .refl (State.notice_calms _ _))

theorem State.startUp_changes : Changes s s.startUp :=
  .head .loaded (Calms.changes ((State.recompute_calms _).trans (State.loadNotices_calms _)))

/-! ### Commands -/

/-- A chain of changes behind a change of the input pins. -/
def PinsThen (s t : State) : Prop := ∃ p : Pins, Changes { s with pins := p } t

theorem Changes.pinsThen {s t : State} (h : Changes s t) : PinsThen s t := ⟨s.pins, h⟩

theorem PinsThen.trans {s t u : State} (h : PinsThen s t) (h' : Changes t u) : PinsThen s u := by
  obtain ⟨p, hp⟩ := h
  exact ⟨p, hp.trans h'⟩

theorem State.modPins_then {f : Pins → Pins} {s t : State} (h : Changes (s.modPins f) t) : PinsThen s t := ⟨f s.pins, h⟩

theorem inputEvent_changes {pin : Pins → Pins} {f : State → State} {s t : State} (hf : PinsThen s (f s))
    (h : inputEvent pin f s = .next t) : PinsThen s t := by
  unfold inputEvent at h
  split at h
  · exact hf.trans (State.finish_changes h)
  · cases h; exact State.modPins_then .refl

theorem State.liveFalls_changes (l : LaneId) : PinsThen s (s.liveFalls l) := by
  unfold State.liveFalls; split
  · refine State.modPins_then (State.quietEffects_changes _ l ?_)
    simp [State.isLive]
  · exact Changes.pinsThen .refl

theorem State.overRises_changes (l : LaneId) : PinsThen s (s.overRises l) := by
  unfold State.overRises; split
  · exact Changes.pinsThen .refl
  · exact State.modPins_then (State.startEpisode_changes _ l)

theorem State.overFalls_changes (l : LaneId) : PinsThen s (s.overFalls l) := State.modPins_then (.single (.calm (.lane l _)))

theorem State.doneAsserted_changes (p : PortId) : PinsThen s (s.doneAsserted p) := by
  unfold State.doneAsserted; split
  · exact Changes.pinsThen .refl
  · simp only; split
    · exact State.modPins_then (State.markDone_changes _ p _)
    · exact State.modPins_then (State.notice_calms _ _).changes

theorem State.referenceLost_changes : PinsThen s s.referenceLost := by
  unfold State.referenceLost; simp only; split
  · exact State.modPins_then (Calms.changes ((State.modTime_calms _ _).trans (State.notice_calms _ _)))
  · exact State.modPins_then (State.modTime_calms _ _).changes
  · exact State.modPins_then .refl

theorem State.referenceEdge_changes : PinsThen s s.referenceEdge := by
  unfold State.referenceEdge; simp only; split
  · exact State.modPins_then (State.modTime_calms _ _).changes
  · exact State.modPins_then .refl

theorem execPowerLoss_changes {cut : CutOff} {s t : State} (h : execPowerLoss cut s = .next t) : Changes s t := by
  unfold execPowerLoss at h
  split at h <;> cases h
  · exact (s.cutWrite_calms cut).changes.tail .unpowered
  · exact .refl

/-- What a command can do: a change of the input pins, then a chain of elementary changes. -/
theorem exec_changes {c : Instr} {s t : State} (h : exec c s = .next t) : PinsThen s t := by
  cases c with
  | powerOn => exact Changes.pinsThen (s.startUp_changes.trans (State.finish_changes h))
  | resetPin cut =>
    have hcut : Changes s (s.cutWrite cut).startUp := (s.cutWrite_calms cut).changes.trans (State.startUp_changes _)
    exact Changes.pinsThen (event_changes (f := fun s => (s.cutWrite cut).startUp) hcut h)
  | startup => exact Changes.pinsThen (event_changes (ite_changes _ s.startUp_changes .refl) h)
  | frameReceived f crc => exact Changes.pinsThen (receiverEvent_changes (s.frameEnd_changes f crc) h)
  | rxGapTimeout => exact Changes.pinsThen (receiverEvent_changes s.gapEnds_calms.changes h)
  | frameDispatch => exact Changes.pinsThen (event_changes s.dispatchOne_changes h)
  | byteReceived b => exact Changes.pinsThen (receiverEvent_changes (s.byteArrives_changes b) h)
  | rtsRise => exact inputEvent_changes (State.modPins_then .refl) h
  | rtsFall => exact inputEvent_changes (State.modPins_then .refl) h
  | txFrameEnd => exact Changes.pinsThen (event_changes s.frameSent_calms.changes h)
  | claimTimerExpiry i => exact Changes.pinsThen (event_changes (s.claimExpired_changes i) h)
  | loadDone l b => exact Changes.pinsThen (event_changes (s.loadEnds_changes l b) h)
  | operateWaitExpiry l => exact Changes.pinsThen (event_changes (s.operateExpired_changes l) h)
  | settleWaitExpiry l => exact Changes.pinsThen (event_changes (s.settleExpired_changes l) h)
  | releaseWaitExpiry l => exact Changes.pinsThen (event_changes (s.releaseExpired_changes l) h)
  | liveRise l => exact inputEvent_changes (State.modPins_then .refl) h
  | liveFall l => exact inputEvent_changes (s.liveFalls_changes l) h
  | dischargeTimerExpiry l => exact Changes.pinsThen (event_changes (s.dischargeExpired_changes l) h)
  | overRise l => exact inputEvent_changes (s.overRises_changes l) h
  | overFall l => exact inputEvent_changes (s.overFalls_changes l) h
  | ocPersistExpiry l => exact Changes.pinsThen (event_changes (s.ocExpired_changes l) h)
  | doneLineAssert p => exact inputEvent_changes (s.doneAsserted_changes p) h
  | doneLineDeassert p => exact inputEvent_changes (State.modPins_then .refl) h
  | doneTimerExpiry p => exact Changes.pinsThen (event_changes (s.doneExpired_changes p) h)
  | pulseTimerExpiry p => exact Changes.pinsThen (event_changes (s.pulseExpired_changes p) h)
  | sampleTimerExpiry v => exact Changes.pinsThen (event_changes (s.sampleExpired_changes v) h)
  | rangeSwitchExpiry => exact Changes.pinsThen (event_changes s.rangeSwitchExpired_calms.changes h)
  | waitTimerExpiry i => exact Changes.pinsThen (event_changes (s.waitExpired_changes i) h)
  | silenceExpiry => exact Changes.pinsThen (event_changes s.silenceExpired_changes h)
  | referenceLost => exact inputEvent_changes s.referenceLost_changes h
  | referenceEdge => exact inputEvent_changes s.referenceEdge_changes h
  | qualificationEnd => exact Changes.pinsThen (event_changes s.qualificationEnds_calms.changes h)
  | storeWriteDone ok => exact Changes.pinsThen (event_changes (s.writeDone_calms ok).changes h)
  | powerLoss cut => exact Changes.pinsThen (execPowerLoss_changes h)
  | _ => exact Changes.pinsThen (request_changes h)

theorem State.pending_calms (cs : List Instr) : Calms s { s with pending := cs } := Calm.calms .aside

theorem State.tick_changes : Changes s s.tick := by
  unfold State.tick; split
  · refine .trans ?_ (State.drew_calms _ _).changes
    refine .trans ?_ (State.pending_calms _ _).changes
    exact (s.modTime_calms _).changes
  · exact .refl

/-- What a step can do: a change of the input pins, then a chain of elementary changes. -/
theorem step_changes {s t : State} (h : step s = .next t) : PinsThen s t := by
  unfold step at h
  split at h
  · next c rest _ =>
    obtain ⟨p, hp⟩ := exec_changes h
    exact ⟨p, .head (.calm .aside) hp⟩
  · cases h; exact Changes.pinsThen s.tick_changes

end Sys2Proof.Machine
end


section
set_option Elab.async false
/-! # Entries without repeats, and arm lines of LIVE routes (O59)

Both invariants are kept by each elementary change of a command (`Change`), so they are kept by each step. -/

namespace Sys2Proof.Machine

variable {s t : State}

/-! ### Queues, pending writes and notices -/

/-- A site's queue is within its size and its tags are distinct (R4). -/
def Site.queueOk (x : Site) : Prop := x.queue.length ≤ 32 ∧ (x.queue.map Step.tag).Nodup

theorem State.entriesDistinct_iff : s.entriesDistinct ↔ (∀ i : SiteId, s.sites[i].queueOk) ∧ s.store.pendingWrites.Nodup ∧
    ∀ (n : Fin 9) (e : NoticeEntry), s.link.notices[n] = some e → e.notice.kind = n := Iff.rfl

theorem Site.queueOk_of_sublist {x y : Site} (h : y.queue.Sublist x.queue) (hx : x.queueOk) : y.queueOk :=
  ⟨h.length_le.trans hx.1, (h.map Step.tag).nodup hx.2⟩

/-- A step with a tag of its own joins a queue that has room (R4). -/
theorem Site.queueOk_append {x : Site} {st : Step} (hx : x.queueOk) (hroom : x.queue.length < 32)
    (htag : ∀ y ∈ x.queue, y.tag ≠ st.tag) : Site.queueOk { x with queue := x.queue ++ [st] } := by
  refine ⟨by simpa using hroom, ?_⟩
  rw [List.map_append, List.nodup_append]
  refine ⟨hx.2, List.nodup_singleton _, fun a ha b hb => ?_⟩
  obtain ⟨y, hy, rfl⟩ := List.mem_map.mp ha
  obtain rfl : b = st.tag := List.mem_singleton.mp hb
  exact htag y hy

theorem State.entriesDistinct_of_eq (hs : s.entriesDistinct) (hsites : t.sites = s.sites)
    (hwrites : t.store.pendingWrites = s.store.pendingWrites) (hnotices : t.link.notices = s.link.notices) :
    t.entriesDistinct := by
  unfold State.entriesDistinct
  rw [hsites, hwrites, hnotices]
  exact hs

theorem State.entriesDistinct_modSite (hs : s.entriesDistinct) (i : SiteId) (f : Site → Site)
    (hf : (f s.sites[i]).queueOk) : (s.modSite i f).entriesDistinct := by
  obtain ⟨hqueues, hwrites, hnotices⟩ := hs
  refine ⟨fun j => ?_, hwrites, hnotices⟩
  rw [State.modSite_sites, upd_get]; split
  · next h => subst h; exact hf
  · exact hqueues j

theorem State.entriesDistinct_modNotices (hs : s.entriesDistinct) (k : Fin 9) (f : Option NoticeEntry → Option NoticeEntry)
    (hf : ∀ e, f s.link.notices[k] = some e → e.notice.kind = k) :
    (s.modLink fun x => { x with notices := upd x.notices k f }).entriesDistinct := by
  obtain ⟨hqueues, hwrites, hnotices⟩ := hs
  refine ⟨hqueues, hwrites, fun n e he => ?_⟩
  rw [State.modLink_link] at he
  simp only [upd_get] at he
  split at he
  · next h => subst h; exact hf e he
  · exact hnotices n e he

theorem State.entriesDistinct_notice (hs : s.entriesDistinct) (n : Notice) : (s.notice n).entriesDistinct := by
  unfold State.notice; split
  · exact State.entriesDistinct_modNotices hs _ _ (by rintro e ⟨⟩; rfl)
  · exact hs

theorem Calm.keeps_entries (h : Calm s t) (hs : s.entriesDistinct) : t.entriesDistinct := by
  cases h with
  | aside hlink hsites _ _ _ _ hstore => exact State.entriesDistinct_of_eq hs hsites (by rw [hstore]) (by rw [hlink])
  | link f hnotices => exact State.entriesDistinct_of_eq hs rfl rfl hnotices
  | notice n => exact State.entriesDistinct_notice hs n
  | forget k => exact State.entriesDistinct_modNotices hs k _ nofun
  | site i f hqueue => exact State.entriesDistinct_modSite hs i f (Site.queueOk_of_sublist hqueue (hs.1 i))
  | accept i st hroom htag => exact State.entriesDistinct_modSite hs i _ (Site.queueOk_append (hs.1 i) hroom htag)
  | store f hwrites =>
    obtain ⟨hqueues, hnodup, hnotices⟩ := hs
    exact ⟨hqueues, hwrites hnodup, hnotices⟩
  | enter | port | ports | lane | load | route | grant | condemned | health | wear | results =>
    exact State.entriesDistinct_of_eq hs rfl rfl rfl

theorem Site.started_queueOk (r : Reach) : (Site.started r).queueOk := by
  unfold Site.started
  exact ⟨Nat.zero_le _, List.nodup_nil⟩

/-- A link whose notice places are empty. -/
theorem Link.fresh_notices (r : BitVec 2) (n : Fin 9) : (Link.fresh r).notices[n] = none := by
  simp [Link.fresh]

theorem State.loaded_entries (s : State) : s.loaded.entriesDistinct := by
  refine ⟨fun i => ?_, List.nodup_nil, fun n e he => ?_⟩
  · change Site.queueOk (s.store.stored.loadReach.map Site.started)[i]
    rw [Fin.getElem_fin, Vector.getElem_map]
    exact Site.started_queueOk _
  · change (Link.fresh s.pins.straps).notices[n] = some e at he
    rw [Link.fresh_notices] at he; cases he

theorem State.unpowered_entries (s : State) : s.unpowered.entriesDistinct := by
  refine ⟨fun i => ?_, List.nodup_nil, fun n e he => ?_⟩
  · change Site.queueOk (Vector.replicate 4 Site.fresh)[i]
    rw [Fin.getElem_fin, Vector.getElem_replicate]
    exact ⟨Nat.zero_le _, List.nodup_nil⟩
  · change (Link.fresh 0).notices[n] = some e at he
    rw [Link.fresh_notices] at he; cases he

theorem Change.keeps_entries (h : Change s t) (hs : s.entriesDistinct) : t.entriesDistinct := by
  cases h with
  | calm h => exact h.keeps_entries hs
  | link f hnotices => exact State.entriesDistinct_of_eq hs rfl rfl hnotices
  | site i f hqueue => exact State.entriesDistinct_modSite hs i f (Site.queueOk_of_sublist hqueue (hs.1 i))
  | notes | arm | remove | renew => exact State.entriesDistinct_of_eq hs rfl rfl rfl
  | loaded => exact s.loaded_entries
  | unpowered => exact s.unpowered_entries

/-! ### Routes and arm lines -/

/-- A lane holds a route exactly while it is IN_USE or RETIRING, and an asserted arm line is that of a LIVE route
(R36, R46). -/
def State.armsAgree (s : State) : Prop := s.lanesAgree ∧ s.armsLive

theorem State.lanesAgree_iff : s.lanesAgree ↔ ∀ l : LaneId, s.lanes[l].route.isSome = s.lanes[l].state.holds := Iff.rfl

/-- A lane that holds no route by its state has none. -/
theorem State.lanesAgree.route_none (h : s.lanesAgree) {l : LaneId} (hl : s.lanes[l].state.holds = false) :
    s.lanes[l].route = none := by
  have := State.lanesAgree_iff.mp h l
  rwa [hl, Option.isSome_eq_false_iff, Option.isNone_iff_eq_none] at this

theorem State.armsAgree_of_eq (hs : s.armsAgree) (hlanes : t.lanes = s.lanes) (hports : t.ports = s.ports) :
    t.armsAgree := by
  unfold State.armsAgree State.lanesAgree State.armsLive
  rw [hlanes, hports]
  exact hs

/-- Ports change without an arm line being asserted. -/
theorem State.armsAgree_of_arm_le (hs : s.armsAgree) (hlanes : t.lanes = s.lanes)
    (harm : ∀ p : PortId, t.ports[p].arm = true → s.ports[p].arm = true) : t.armsAgree := by
  unfold State.armsAgree State.lanesAgree State.armsLive
  rw [hlanes]
  exact ⟨hs.1, fun p hp => hs.2 p (harm p hp)⟩

/-- A lane changes, and each LIVE route it held whose arm line is asserted stays LIVE at its port. -/
theorem State.armsAgree_modLane (hs : s.armsAgree) (l : LaneId) (f : Lane → Lane)
    (hagree : (f s.lanes[l]).route.isSome = (f s.lanes[l]).state.holds)
    (hlive : ∀ r, s.lanes[l].route = some r → r.state = .live → s.ports[r.port].arm = true →
      ∃ r', (f s.lanes[l]).route = some r' ∧ r'.port = r.port ∧ r'.state = .live) : (s.modLane l f).armsAgree := by
  refine ⟨State.lanesAgree_iff.mpr fun k => ?_, fun p hp => ?_⟩
  · rw [State.modLane_lanes, upd_get]; split
    · next h => subst h; exact hagree
    · exact State.lanesAgree_iff.mp hs.1 k
  · obtain ⟨k, r, hr, rfl, hst⟩ := hs.2 p hp
    by_cases hk : l = k
    · subst hk
      obtain ⟨r', hr', hport, hst'⟩ := hlive r hr hst hp
      exact ⟨l, r', by rw [State.modLane_lanes, upd_get, if_pos rfl]; exact hr', hport, hst'⟩
    · exact ⟨k, r, by rw [State.modLane_lanes, upd_get, if_neg hk]; exact hr, rfl, hst⟩

theorem State.armsAgree_arm (hs : s.armsAgree) (l : LaneId) (r : Route) (h : s.lanes[l].route = some r) :
    ((s.modPort r.port fun x => { x with arm := true }).modLane l fun x =>
      { x with route := x.route.map fun r => { r with state := .live } }).armsAgree := by
  have hroute : ((s.modPort r.port fun x => { x with arm := true }).modLane l fun x =>
      { x with route := x.route.map fun r => { r with state := .live } }).lanes[l].route
        = some { r with state := .live } := by
    rw [State.modLane_lanes, upd_get, if_pos rfl]; simp only [State.modPort_lanes, h, Option.map_some]
  refine ⟨State.lanesAgree_iff.mpr fun k => ?_, fun p hp => ?_⟩
  · rw [State.modLane_lanes, upd_get]; split
    · simp only [Option.isSome_map]; exact State.lanesAgree_iff.mp hs.1 k
    · exact State.lanesAgree_iff.mp hs.1 k
  · by_cases hpr : r.port = p
    · exact ⟨l, _, hroute, hpr, rfl⟩
    · rw [State.modLane_ports, State.modPort_ports, upd_get, if_neg hpr] at hp
      obtain ⟨k, r', hr', rfl, hst⟩ := hs.2 p hp
      by_cases hk : l = k
      · subst hk
        rw [h] at hr'; cases hr'
        exact absurd rfl hpr
      · exact ⟨k, r', by rw [State.modLane_lanes, upd_get, if_neg hk]; exact hr', rfl, hst⟩

theorem Calm.keeps_arms (h : Calm s t) (hs : s.armsAgree) : t.armsAgree := by
  have hagree := State.lanesAgree_iff.mp hs.1
  cases h with
  | aside _ _ hports hlanes => exact State.armsAgree_of_eq hs hlanes hports
  | notice n => exact State.armsAgree_of_eq hs (s.notice_lanes n) (s.notice_ports n)
  | port p f harm =>
    refine State.armsAgree_of_arm_le hs rfl fun q hq => ?_
    rw [State.modPort_ports, upd_get] at hq; split at hq
    · next h => subst h; exact harm hq
    · exact hq
  | ports f harm =>
    refine State.armsAgree_of_arm_le hs rfl fun q hq => ?_
    simpa [harm] using hq
  | lane l f hroute hstate =>
    refine State.armsAgree_modLane hs l f (by rw [hroute, hstate]; exact hagree l) fun r hr hst _ => ?_
    exact ⟨r, hroute.trans hr, rfl, hst⟩
  | load l ld => exact State.armsAgree_modLane hs l _ (hagree l) fun r hr hst _ => ⟨r, hr, rfl, hst⟩
  | route l st h =>
    refine State.armsAgree_modLane hs l _ (by simpa using hagree l) fun r hr hst harm => ?_
    rw [h r hr hst] at harm; cases harm
  | grant l r h =>
    have hnone := hs.1.route_none (l := l) (by rw [h]; rfl)
    exact State.armsAgree_modLane hs l _ rfl fun r hr => by rw [hnone] at hr; cases hr
  | condemned l st _ h =>
    exact State.armsAgree_modLane hs l _ (by rw [h]; exact hagree l) fun r hr hst _ => ⟨r, hr, rfl, hst⟩
  | link | enter | forget | site | accept | health | wear | store | results => exact State.armsAgree_of_eq hs rfl rfl

theorem State.armsAgree_of_fresh (h : ∀ l : LaneId, s.lanes[l].route = none ∧ s.lanes[l].state.holds = false)
    (harm : ∀ p : PortId, s.ports[p].arm = false) : s.armsAgree := by
  refine ⟨State.lanesAgree_iff.mpr fun l => ?_, fun p hp => ?_⟩
  · rw [(h l).1, (h l).2]; rfl
  · rw [harm p] at hp; cases hp

theorem Lane.started_holds (retire : Bool) (w : LaneHealth) : (Lane.started retire w).state.holds = false := by
  unfold Lane.started; simp only; split <;> rfl

theorem State.loaded_arms (s : State) : s.loaded.armsAgree := by
  refine State.armsAgree_of_fresh (fun l => ?_) fun p => ?_
  · simp only [State.loaded, Fin.getElem_fin, Vector.getElem_map]
    exact ⟨rfl, Lane.started_holds _ _⟩
  · simp only [State.loaded, Fin.getElem_fin, Vector.getElem_map]
    rfl

theorem State.unpowered_arms (s : State) : s.unpowered.armsAgree := by
  refine State.armsAgree_of_fresh (fun l => ?_) fun p => ?_
  · simp [State.unpowered, State.reset, Lane.fresh, LaneState.holds]
  · simp only [State.unpowered, State.reset, Fin.getElem_fin, Vector.getElem_set, Vector.getElem_replicate]
    split <;> rfl

theorem Change.keeps_arms (h : Change s t) (hs : s.armsAgree) : t.armsAgree := by
  cases h with
  | calm h => exact h.keeps_arms hs
  | arm l r h => exact State.armsAgree_arm hs l r h
  | remove l h => exact State.armsAgree_modLane hs l _ rfl fun r hr hst _ => absurd hst (h r hr)
  | renew l h =>
    have hnone := hs.1.route_none (l := l) (by rw [h]; rfl)
    exact State.armsAgree_modLane hs l _ (by rw [hnone]; rfl) fun r hr => by rw [hnone] at hr; cases hr
  | notes | link | site => exact State.armsAgree_of_eq hs rfl rfl
  | loaded => exact s.loaded_arms
  | unpowered => exact s.unpowered_arms

/-! ### Every step -/

/-- What an elementary change keeps, and a change of the input pins keeps, every step keeps. -/
theorem step_keeps {P : State → Prop} (hpins : ∀ (u : State) (p : Pins), P u → P { u with pins := p })
    (hkeep : ∀ {u v : State}, Change u v → P u → P v) (h : step s = .next t) (hs : P s) : P t := by
  obtain ⟨p, hp⟩ := step_changes h
  clear h
  induction hp with
  | refl => exact hpins s p hs
  | tail _ hc ih => exact hkeep hc ih

/-- Settles O59: each elementary change keeps the queues, the pending writes and the notices without repeats, and each keeps
arm lines on LIVE routes where the lanes agree. -/
theorem entriesAndArmsKept : Obligations.EntriesAndArmsKept := by
  refine ⟨fun s t hs h => ?_, fun s t hlanes harms h => ?_⟩
  · exact step_keeps (fun _ _ hu => State.entriesDistinct_of_eq hu rfl rfl rfl) Change.keeps_entries h hs
  · have hboth : t.armsAgree :=
      step_keeps (fun _ _ hu => State.armsAgree_of_eq hu rfl rfl) Change.keeps_arms h ⟨hlanes, harms⟩
    exact hboth.2

end Sys2Proof.Machine
end


section
set_option Elab.async false
/-! # A request at a part that is ready

A request command is the arrival of its frame (log entry 5). The frame is read back as the request (R189 step 2), so a ready
part takes the request at that event; here is what the event comes to by what taking the request leaves. -/

namespace Sys2Proof.Machine

/-! ### Frames are read back -/

/-- A STEP's fields are read back. -/
theorem readStep_stepFields {r : StepReq} (h : requestFits (.step r)) : readStep (stepKindOf r) (stepFields r) = some r := by
  cases r with
  | connect a p settle claim pins =>
    have hlen : pins.length % 256 = pins.length := Nat.mod_eq_of_lt h
    simp [stepKindOf, stepFields, readStep, bytes16, byte, hlen]
  | scan m settle points =>
    have hlen : points.length % 256 = points.length := Nat.mod_eq_of_lt h
    simp [stepKindOf, stepFields, readStep, readMeter_meterBytes, bytes16, readPoints_points, byte, hlen]
  | measure m =>
    have := readMeter_meterBytes m []
    rw [List.append_nil] at this
    simp [stepKindOf, stepFields, readStep, this]
  | arm | disarm | release | flush => rfl
  | trigger | wait => simp [stepKindOf, stepFields, readStep, bytes16]

/-- The payload of a request that is not a STEP is read back. -/
theorem readPayload_requestPayload {r : Request} (h : ∀ q, r ≠ .step q) :
    readPayload (kindOf r) (requestPayload r) = some r := by
  cases r with
  | step q => exact absurd rfl (h q)
  | configSet pairs => simp [kindOf, requestPayload, readPayload, readPairs_pairs]
  | reachSet => simp [kindOf, requestPayload, readPayload, bit_flags_0, bit_flags_1, bit_flags_2]
  | clear | portSet | calSet | countGet | time => simp [kindOf, requestPayload, readPayload, bytes16]
  | _ => rfl

/-- LINK's checks of a request's frame give the request (R189 step 2). -/
theorem checkFrame_requestFrame {r : Request} (h : requestFits r) (tag site : Byte) :
    checkFrame (requestFrame r tag site) = .ok r := by
  unfold checkFrame requestFrame requestKind
  simp only [kindNamed_kindCode]
  by_cases hstep : ∃ q, r = .step q
  · obtain ⟨q, rfl⟩ := hstep
    simp [kindOf, requestPayload, stepPayload, checkStep, stepNamed_stepCode, readStep_stepFields h]
  · have hread := readPayload_requestPayload (r := r) fun q hq => hstep ⟨q, hq⟩
    cases r with
    | step q => exact absurd ⟨q, rfl⟩ hstep
    | _ => simp only [hread, kindOf] at hread ⊢

/-! ### Bytes that name a site, a port or a range -/

@[simp] theorem siteOf_siteByte (i : SiteId) : siteOf (siteByte i) = some i := by
  revert i; decide

theorem siteOf_of_gt {b : Byte} (h : 3 < b.toNat) : siteOf b = none := dif_neg (by omega)

@[simp] theorem siteByte_ne_partByte (i : SiteId) : siteByte i ≠ partByte := by
  revert i; decide

theorem fin?_byte {n : Nat} (hn : n ≤ 256) (k : Fin n) : fin? n (byte k.val) = some k := by
  have hk : k.val % 256 = k.val := Nat.mod_eq_of_lt (k.isLt.trans_le hn)
  unfold fin? byte
  simp [hk]

theorem fin?_eq_none_iff {n : Nat} {b : Byte} : fin? n b = none ↔ n ≤ b.toNat := by
  simp [fin?]

/-! ### The arrival of a frame -/

section
variable (s : State)

theorem State.silenceFrame_frame {β : Type} (g : State → β) (h : ∀ (f : TimeBase → TimeBase) (t : State), g (t.modTime f) = g t) :
    g s.silenceFrame = g s := by
  unfold State.silenceFrame; split
  · rfl
  · unfold State.startSilence
    exact h _ _

/-- What LINK and TIMEBASE do not change, the arrival of a frame does not change. -/
theorem State.arrive_frame {β : Type} (g : State → β) (hlink : ∀ (f : Link → Link) (t : State), g (t.modLink f) = g t)
    (htime : ∀ (f : TimeBase → TimeBase) (t : State), g (t.modTime f) = g t) : g s.arrive = g s :=
  (State.silenceFrame_frame _ g htime).trans (hlink _ _)

@[simp] theorem State.arrive_powered : s.arrive.powered = s.powered := s.arrive_frame _ (fun _ _ => rfl) fun _ _ => rfl
@[simp] theorem State.arrive_freeze : s.arrive.freeze = s.freeze := s.arrive_frame _ (fun _ _ => rfl) fun _ _ => rfl
@[simp] theorem State.arrive_pins : s.arrive.pins = s.pins := s.arrive_frame _ (fun _ _ => rfl) fun _ _ => rfl
@[simp] theorem State.arrive_sites : s.arrive.sites = s.sites := s.arrive_frame _ (fun _ _ => rfl) fun _ _ => rfl
@[simp] theorem State.arrive_ports : s.arrive.ports = s.ports := s.arrive_frame _ (fun _ _ => rfl) fun _ _ => rfl
@[simp] theorem State.arrive_lanes : s.arrive.lanes = s.lanes := s.arrive_frame _ (fun _ _ => rfl) fun _ _ => rfl
@[simp] theorem State.arrive_laneWaiters : s.arrive.laneWaiters = s.laneWaiters :=
  s.arrive_frame _ (fun _ _ => rfl) fun _ _ => rfl
@[simp] theorem State.arrive_meter : s.arrive.meter = s.meter := s.arrive_frame _ (fun _ _ => rfl) fun _ _ => rfl
@[simp] theorem State.arrive_results : s.arrive.results = s.results := s.arrive_frame _ (fun _ _ => rfl) fun _ _ => rfl
@[simp] theorem State.arrive_health : s.arrive.health = s.health := s.arrive_frame _ (fun _ _ => rfl) fun _ _ => rfl
@[simp] theorem State.arrive_store : s.arrive.store = s.store := s.arrive_frame _ (fun _ _ => rfl) fun _ _ => rfl
@[simp] theorem State.arrive_resetReq : s.arrive.resetReq = s.resetReq := s.arrive_frame _ (fun _ _ => rfl) fun _ _ => rfl
@[simp] theorem State.arrive_agenda : s.arrive.agenda = s.agenda := s.arrive_frame _ (fun _ _ => rfl) fun _ _ => rfl
@[simp] theorem State.arrive_freeReads : s.arrive.freeReads = s.freeReads := s.arrive_frame _ (fun _ _ => rfl) fun _ _ => rfl

@[simp] theorem State.arrive_link :
    s.arrive.link = { s.link with rx := .hunting, slots := [], reserved := s.link.reserved + 1 } := by
  unfold State.arrive; rw [State.silenceFrame_link, State.modLink_link]

@[simp] theorem State.arrive_now : s.arrive.time.now = s.time.now := by
  unfold State.arrive State.silenceFrame
  split <;> rfl

end

/-! ### What the event comes to -/

variable {s u v : State} {c : Instr} {r : Request} {tag site kind : Byte}

/-- The request is judged as itself. -/
theorem State.judge_requestFrame (hfit : requestFits r) (tag site : Byte) (s : State) :
    s.judge (requestFrame r tag site) = s.takeRequest r ⟨tag, site⟩ := by
  unfold State.judge
  rw [checkFrame_requestFrame hfit]
  rfl

/-- The event is the arrival of the frame. -/
theorem request_eq_finish (h : s.ready) : request r tag site s = (s.receiveGood (requestFrame r tag site)).finish := by
  unfold request event
  simp only [h.1, h.2.1, if_true]

/-- A request that is answered at its dispatch. -/
theorem request_answered {code : ReplyCode} {data : List Byte} (h : s.ready) (hfit : requestFits r)
    (hu : s.arrive.takeRequest r ⟨tag, site⟩ = u.reply (requestKind r) tag site code data) (ha : u.agenda = [])
    (hs : u.link.slots = []) : request r tag site s = .next (u.answered (requestKind r) tag site code data) := by
  rw [request_next r tag site s h (checkFrame_requestFrame hfit tag site) (by rw [hu]; exact ha) (by rw [hu]; exact hs)
    (by rw [hu]; simp), hu]
  rfl

/-- A request that is answered without another effect. -/
theorem request_refused {code : ReplyCode} {data : List Byte} (h : s.ready) (hfit : requestFits r)
    (hu : s.arrive.takeRequest r ⟨tag, site⟩ = s.arrive.reply (requestKind r) tag site code data) :
    request r tag site s = .next (s.arrive.answered (requestKind r) tag site code data) :=
  request_answered h hfit hu (by simpa using h.2.2.1) (by simp)

/-- A request that is answered, after which its site looks whether its head step starts, and does not start it (R9). -/
theorem request_answered_next {code : ReplyCode} {data : List Byte} {i : SiteId} (h : s.ready) (hfit : requestFits r)
    (hu : s.arrive.takeRequest r ⟨tag, site⟩ = (u.reply (requestKind r) tag site code data).push (.next i))
    (ha : u.agenda = []) (hs : u.link.slots = []) (hm : u.mayStart i = false) :
    request r tag site s = .next (u.answered (requestKind r) tag site code data) := by
  rw [request_eq_finish h]
  exact State.receiveGood_finish_next _ s (u.reply (requestKind r) tag site code data) i h
    ((State.judge_requestFrame hfit tag site _).trans hu) ha hs (by simp) hm

/-- An event whose follow-ups come to a state in which nothing waits. -/
theorem State.finish_of_drain_noBacklog (hd : drain Config.cascadeBound s = v) (hb : v.noBacklog) :
    s.finish = .next v.transmit := by
  have hsettle : s.settle = v.transmit := by
    have e := State.settle_noBacklog v hb
    unfold State.settle at e ⊢
    rw [drain_nil _ v hb.1] at e
    rw [hd, e]
  unfold State.finish
  rw [hsettle, if_pos]
  rw [State.transmit_agenda]; exact hb.1

/-- The follow-ups of a request's arrival are those of the request, and then a look at the next frame. -/
theorem request_drain (h : s.ready) (hfit : requestFits r) :
    drain Config.cascadeBound (s.receiveGood (requestFrame r tag site)) = drain 4095
      (((s.arrive.takeRequest r ⟨tag, site⟩).modLink fun k => { k with marker := some (requestKind r, site) }).push
        .dispatch) := by
  rw [show Config.cascadeBound = 4095 + 1 from rfl, State.receiveGood_drain _ s 4095 h, State.judge_requestFrame hfit]
  rfl

/-- A request whose follow-ups come to a state with a reply in the queue. -/
theorem request_of_drain (h : s.ready) (hfit : requestFits r) (hd : drain 4095
      (((s.arrive.takeRequest r ⟨tag, site⟩).modLink fun k => { k with marker := some (requestKind r, site) }).push
        .dispatch) = v) (ha : v.agenda = []) (hs : v.link.slots = []) (hr : v.link.replies ≠ []) :
    request r tag site s = .next v.transmit := by
  rw [request_eq_finish h]
  exact State.finish_of_drain _ _ ((request_drain h hfit).trans hd) ha hs hr

/-- A request whose follow-ups come to a state in which nothing waits. -/
theorem request_of_drain_noBacklog (h : s.ready) (hfit : requestFits r) (hd : drain 4095
      (((s.arrive.takeRequest r ⟨tag, site⟩).modLink fun k => { k with marker := some (requestKind r, site) }).push
        .dispatch) = v) (hb : v.noBacklog) : request r tag site s = .next v.transmit := by
  rw [request_eq_finish h]
  exact State.finish_of_drain_noBacklog ((request_drain h hfit).trans hd) hb

/-- A request that leaves nothing waiting: its reply comes later, or has been placed by another. -/
theorem request_marked (h : s.ready) (hfit : requestFits r) (hu : s.arrive.takeRequest r ⟨tag, site⟩ = u)
    (hb : u.noBacklog) : request r tag site s = .next (u.marked (requestKind r) site) := by
  refine request_of_drain_noBacklog (v := u.modLink fun k => { k with marker := some (requestKind r, site) }) h hfit ?_ hb
  rw [hu]
  exact drain_one 4094 _ _ .dispatch rfl hb.1 (State.dispatchOne_nil _ hb.2.1)

end Sys2Proof.Machine
end


section
set_option Elab.async false
/-! # What a start-up clears (O10)

A start-up is the load, HEALTH's recomputation and the notices. The last two change only HEALTH and the pending notices, so
every other field is as loaded. -/

namespace Sys2Proof.Machine

/-- What neither a notice nor HEALTH changes is after a start-up as it was loaded (R182). -/
theorem State.startUp_frame {β : Type} (g : State → β) (hn : ∀ (n : Notice) (t : State), g (t.notice n) = g t)
    (hh : ∀ (f : Health → Health) (t : State), g (t.modHealth f) = g t) (s : State) : g s.startUp = g s.loaded := by
  have hr (t : State) : g t.recompute = g t := by
    unfold State.recompute; simp only; split
    · exact hh _ _
    · exact (hn _ _).trans (hh _ _)
  exact (State.loadNotices_frame _ g hn).trans (hr _)

/-- A field of LINK other than the notices. -/
theorem State.startUp_link_frame {β : Type} (g : Link → β) (h : ∀ (k : Link) (v : Vector (Option NoticeEntry) 9),
    g { k with notices := v } = g k) (s : State) : g s.startUp.link = g (Link.fresh s.pins.straps) := by
  refine State.startUp_frame (fun t => g t.link) (fun n t => ?_) (fun _ _ => rfl) s
  unfold State.notice; split
  · exact h _ _
  · rfl

@[simp] theorem State.startUp_results (s : State) :
    s.startUp.results = { sites := Vector.replicate 4 .fresh, outbound := [], waiting := [] } :=
  State.startUp_frame State.results (fun n t => t.notice_results n) (fun _ _ => rfl) s

theorem State.startUp_site (s : State) (i : SiteId) :
    s.startUp.sites[i] = { Site.fresh with reach := s.startUp.sites[i].retained, retained := s.startUp.sites[i].retained } := by
  simp [Site.started]

theorem State.startUp_port (s : State) (p : PortId) : s.startUp.ports[p] = Port.fresh s.startUp.ports[p].desc := by
  simp [Port.fresh]

/-- A lane comes up FREE or RETIRED, with nothing in progress (R72, R93). -/
theorem Lane.started_cases (retire : Bool) (w : LaneHealth) :
    Lane.started retire w = { Lane.fresh with state := (Lane.started retire w).state } ∧
      ((Lane.started retire w).state = .free ∨ (Lane.started retire w).state = .retired) := by
  unfold Lane.started
  refine ⟨rfl, ?_⟩
  simp only; split
  · exact .inr rfl
  · exact .inl rfl

theorem State.startUp_lane (s : State) (l : LaneId) :
    s.startUp.lanes[l] = { Lane.fresh with state := s.startUp.lanes[l].state } ∧
      (s.startUp.lanes[l].state = .free ∨ s.startUp.lanes[l].state = .retired) := by
  rw [State.startUp_lanes]
  simp only [State.loaded, Fin.getElem_fin, Vector.getElem_map]
  exact Lane.started_cases _ _

/-- Settles O10: the fields as the load leaves them, since the rest of a start-up changes only HEALTH and the notices. -/
theorem startUpClearsWork : Obligations.StartUpClearsWork := by
  refine ⟨fun s => ⟨s.startUp_site, s.startUp_port, s.startUp_lane, ?_⟩, fun s => ?_⟩
  · refine ⟨?_, ?_, ?_, ?_, ?_, ?_, ?_, ?_, ?_, ?_⟩
    · exact State.startUp_frame State.laneWaiters (fun n t => t.notice_laneWaiters n) (fun _ _ => rfl) s
    · rw [State.startUp_meter]
    · exact State.startUp_frame (fun t => t.time.now) (fun n t => by rw [t.notice_time n]) (fun _ _ => rfl) s
    · exact State.startUp_frame State.freeze (fun n t => t.notice_freeze n) (fun _ _ => rfl) s
    · exact State.startUp_link_frame Link.rx (fun _ _ => rfl) s
    · exact State.startUp_link_frame Link.slots (fun _ _ => rfl) s
    · exact State.startUp_link_frame Link.marker (fun _ _ => rfl) s
    · exact State.startUp_link_frame Link.replies (fun _ _ => rfl) s
    · exact State.startUp_link_frame Link.completion (fun _ _ => rfl) s
    · exact State.startUp_link_frame Link.doneWaiting (fun _ _ => rfl) s
  · rw [State.startUp_results]
    exact ⟨rfl, rfl, fun i => by simp [SiteResults.fresh]⟩

end Sys2Proof.Machine
end


section
set_option Elab.async false
/-! # Requests that name a site (O16) -/

namespace Sys2Proof.Machine

variable {s : State} {c : Instr} {kind tag site : Byte}

/-- A STEP command is its request, and a command that can be sent fits its frame. -/
theorem exec_stepCommand {r : StepReq} (hc : stepCommand c = some (tag, site, r)) (s : State) :
    exec c s = request (.step r) tag site s := by
  cases c <;> cases hc <;> rfl

theorem requestFits_of_stepCommand {r : StepReq} (hc : stepCommand c = some (tag, site, r)) (hw : c.wellFormed = true) :
    requestFits (.step r) := by
  cases c with
  | stepConnect _ _ _ _ _ _ pins => cases hc; exact of_decide_eq_true (p := pins.length < 256) hw
  | stepScan _ _ _ _ points => cases hc; exact of_decide_eq_true (p := points.length < 256) (Bool.and_eq_true_iff.mp hw).1
  | stepArm | stepDisarm | stepRelease | stepMeasure | stepTrigger | stepWait | stepFlush => cases hc; trivial
  | _ => cases hc

/-- The requests other than STEP that name a site (R14 to R24). -/
def namesSite : Request → Bool
  | .hold | .resume | .abort | .clear _ | .reachGet | .reachSet .. => true
  | _ => false

/-- A request that names a site looks for its site first. -/
theorem State.takeRequest_badSite {r : Request} (hr : namesSite r = true) (hsite : siteOf site = none) (s : State) :
    s.takeRequest r ⟨tag, site⟩ = s.reply (requestKind r) tag site .badSite [] := by
  cases r with
  | hold => simp only [State.takeRequest, State.takeHold, hsite]; rfl
  | resume => simp only [State.takeRequest, State.takeResume, hsite]; rfl
  | abort => simp only [State.takeRequest, State.takeAbort, hsite]; rfl
  | clear => simp only [State.takeRequest, State.takeClear, hsite]; rfl
  | reachGet => simp only [State.takeRequest, State.takeReachGet, hsite]; rfl
  | reachSet => simp only [State.takeRequest, State.takeReachSet, hsite]; rfl
  | _ => cases hr

theorem exec_siteRequest (hc : siteRequest c = some (kind, tag, site)) :
    ∃ r : Request, namesSite r = true ∧ requestKind r = kind ∧ requestFits r ∧
      ∀ s : State, exec c s = request r tag site s := by
  cases c with
  | hold => cases hc; exact ⟨.hold, rfl, rfl, trivial, fun _ => rfl⟩
  | resume => cases hc; exact ⟨.resume, rfl, rfl, trivial, fun _ => rfl⟩
  | abort => cases hc; exact ⟨.abort, rfl, rfl, trivial, fun _ => rfl⟩
  | clear => cases hc; exact ⟨.clear false, rfl, rfl, trivial, fun _ => rfl⟩
  | clearForce => cases hc; exact ⟨.clear true, rfl, rfl, trivial, fun _ => rfl⟩
  | reachGet => cases hc; exact ⟨.reachGet, rfl, rfl, trivial, fun _ => rfl⟩
  | reachSet _ _ first last empty hv retain =>
    cases hc; exact ⟨.reachSet first last empty hv retain, rfl, rfl, trivial, fun _ => rfl⟩
  | _ => cases hc

theorem State.takeStep_badSite (r : StepReq) (hf : s.fullReset = false) (hsite : siteOf site = none) :
    s.takeStep r ⟨tag, site⟩ = s.reply 0x02 tag site .badSite [] := by
  unfold State.takeStep
  simp only [hf, Bool.false_eq_true, if_false, hsite]
  rfl

theorem State.takeRouteGet_badSite (hpart : site ≠ partByte) (hsite : siteOf site = none) :
    s.takeRouteGet ⟨tag, site⟩ = s.reply 0x0C tag site .badSite [] := by
  unfold State.takeRouteGet
  simp only [hpart, if_false, hsite]
  rfl

@[simp] theorem State.arrive_fullReset (s : State) : s.arrive.fullReset = s.fullReset := by
  unfold State.fullReset; rw [State.arrive_resetReq]

/-- Settles O16: each of these requests looks at its SITE before anything else. -/
theorem siteRequestsNeedSite : Obligations.SiteRequestsNeedSite := by
  refine ⟨fun c kind tag site s hc hsite hr => ?_, fun c tag site r s hc hw hsite hr hf => ?_,
    fun tag site s hsite hpart hr => ?_⟩
  · obtain ⟨r, hnames, rfl, hfit, hexec⟩ := exec_siteRequest hc
    rw [hexec]
    exact request_refused hr hfit (State.takeRequest_badSite hnames (siteOf_of_gt hsite) _)
  · rw [exec_stepCommand hc]
    exact request_refused hr (requestFits_of_stepCommand hc hw)
      (State.takeStep_badSite r (by simpa using hf) (siteOf_of_gt hsite))
  · exact request_refused (r := .routeGet) hr trivial (State.takeRouteGet_badSite hpart (siteOf_of_gt hsite))

end Sys2Proof.Machine
end


section
set_option Elab.async false
/-! # Queries of reach, ports and routes (O18) -/

namespace Sys2Proof.Machine

variable (s : State)

/-! ### What a handle names -/

/-- The lane that a handle names holds the site's route of that handle (R55). -/
theorem State.routeLane_some {i : SiteId} {h : Handle} {l : LaneId} (hl : s.routeLane i h = some l) :
    ∃ r : Route, s.lanes[l].route = some r ∧ r.site = i ∧ r.handle = h := by
  have hfound := List.find?_some hl
  split at hfound
  · next r hr => exact ⟨r, hr, of_decide_eq_true hfound⟩
  · cases hfound

/-- A handle that names no lane is that of no route of the site (R55). -/
theorem State.routeLane_none {i : SiteId} {h : Handle} (hn : s.routeLane i h = none) (l : LaneId) (r : Route)
    (hr : s.lanes[l].route = some r) : ¬(r.site = i ∧ r.handle = h) := by
  have hl : l ∈ allLanes := (by decide : ∀ l : LaneId, l ∈ allLanes) l
  have := List.find?_eq_none.mp hn l hl
  rw [hr] at this
  exact fun e => this (decide_eq_true e)

theorem State.claimPort_some {i : SiteId} {h : Handle} {p : PortId} (hp : s.claimPort i h = some p) :
    s.ports[p].claim = some ⟨i, h⟩ := by
  unfold State.claimPort at hp
  have hfound := List.find?_some hp
  exact of_decide_eq_true hfound

theorem State.claimPort_none {i : SiteId} {h : Handle} (hn : s.claimPort i h = none) (p : PortId) :
    s.ports[p].claim ≠ some ⟨i, h⟩ := by
  have hp : p ∈ allPorts := (by decide : ∀ p : PortId, p ∈ allPorts) p
  exact fun e => List.find?_eq_none.mp hn p hp (decide_eq_true e)

/-! ### The bytes of the replies -/

theorem flags_three (a b c : Bool) : flags a b c false false false = byte (a.toNat + 2 * b.toNat + 4 * c.toNat) := by
  simp [flags]

@[simp] theorem State.arrive_routeLane (i : SiteId) (h : Handle) : s.arrive.routeLane i h = s.routeLane i h := by
  unfold State.routeLane; rw [State.arrive_lanes]

@[simp] theorem State.arrive_claimPort (i : SiteId) (h : Handle) : s.arrive.claimPort i h = s.claimPort i h := by
  unfold State.claimPort; rw [State.arrive_ports]

@[simp] theorem State.arrive_freeByte (n : Nat) : s.arrive.freeByte n = Config.freeByte (s.freeReads + n) := by
  unfold State.freeByte; rw [State.arrive_freeReads]

/-- The claims of a site without a route, as bytes (R53). -/
theorem State.routelessByHandle_bytes (i : SiteId) :
    (s.routelessByHandle i).map (fun c => [byte c.1.val, byte c.2.val]) = allHandles.filterMap fun h =>
      if s.routeLane i h = none then (s.claimPort i h).map fun p => [byte h.val, byte p.val] else none := by
  unfold State.routelessByHandle
  rw [List.map_filterMap]
  congr 1
  funext h
  cases s.routeLane i h <;> simp [Function.comp_def]

/-- A lane without a route gives no route bytes, so the lanes with one may be asked alone. -/
theorem flatten_map_filter {α β : Type} (f : α → List β) (p : α → Bool) (h : ∀ a, p a = false → f a = []) (l : List α) :
    ((l.filter p).map f).flatten = (l.map f).flatten := by
  induction l with
  | nil => rfl
  | cons a l ih =>
    cases hp : p a with
    | true => simp [hp, ih]
    | false => simp [hp, ih, h a hp]

/-- Settles O18: each query answers with its bytes, which are those of R199 field by field. -/
theorem reachRouteAndPortAnswers : Obligations.ReachRouteAndPortAnswers := by
  refine ⟨fun s i h => ⟨fun l => s.routeLane_some, s.routeLane_none, fun p => s.claimPort_some, s.claimPort_none⟩, ?_⟩
  intro tag s hr free reach route loadKind
  have hag : s.agenda = [] := hr.2.2.1
  have hreach (r : Reach) (kept : Bool) (n : Nat) : s.arrive.reachBytes r kept n = reach r kept n := by
    simp only [State.reachBytes, reach, free, State.arrive_freeByte, flags_three, Nat.add_assoc]
    cases r.range <;> simp
  have hdeadline (l : LaneId) : s.arrive.deadlineBytes s.lanes[l] (6 * l.val) = (match s.lanes[l].wait with
      | some ⟨.operate, t⟩ => 1 :: nat48 t.due
      | some ⟨.settle, t⟩ => 2 :: nat48 t.due
      | _ => 0 :: (List.range 6).map fun k => free (6 * l.val + k)) := by
    simp only [State.deadlineBytes, State.arrive_freeByte, free]
    rcases s.lanes[l].wait with _ | ⟨k, t⟩
    · rfl
    · cases k <;> rfl
  have hroute (l : LaneId) : s.arrive.routeBytes l = route l := by
    simp only [State.routeBytes, route, State.arrive_lanes, hdeadline]
    cases s.lanes[l].route <;> rfl
  have hload (x : Option Load) : loadCode x = loadKind x := by
    rcases x with _ | ⟨k, _, _⟩
    · rfl
    · cases k <;> rfl
  refine ⟨fun i => ?_, fun i => ?_, ?_, fun p => ?_, fun b hb => ?_⟩
  · refine request_answered (r := .reachGet) hr trivial (u := s.arrive.drew 4) ?_ (by simpa using hag) (by simp)
    simp only [State.takeRequest, State.takeReachGet, siteOf_siteByte, State.workingBytes, hreach, State.arrive_sites]
    rfl
  · intro routes claims
    refine request_answered (r := .routeGet) hr trivial (u := s.arrive.drew 96) ?_ (by simpa using hag) (by simp)
    have hdata : s.arrive.siteRouteData i
        = byte routes.length :: (routes.map route).flatten ++ byte claims.length :: claims.flatten := by
      have hlen : (s.arrive.routelessByHandle i).length = claims.length := by
        have := congrArg List.length (s.arrive.routelessByHandle_bytes i)
        simpa [claims] using this
      simp only [State.siteRouteData, State.routesByHandle, State.routelessByHandle_bytes, hlen, State.arrive_routeLane,
        State.arrive_claimPort, hroute]
      rfl
    simp only [State.takeRequest, State.takeRouteGet, siteByte_ne_partByte, if_false, siteOf_siteByte, hdata]
    rfl
  · refine request_answered (r := .routeGet) hr trivial (u := s.arrive.drew 96) ?_ (by simpa using hag) (by simp)
    have hnone (l : LaneId) (hl : (s.lanes[l].route).isSome = false) : route l = [] := by
      simp only [route]
      rw [Option.isSome_eq_false_iff, Option.isNone_iff_eq_none] at hl
      rw [hl]
    have hstatus (l : LaneId) : s.lanes[l].statusBytes = [byte s.lanes[l].state.code,
        byte (s.lanes[l].route.isSome.toNat + 2 * loadKind s.lanes[l].load + 8 * s.lanes[l].quiet.isSome.toNat)] := by
      rw [Lane.statusBytes, hload]
    simp only [State.takeRequest, State.takeRouteGet, partByte, if_true, State.partRouteData, hroute, State.arrive_lanes,
      State.arrive_laneWaiters, hstatus, flatten_map_filter route _ hnone]
    rfl
  · refine request_answered (r := .portGet (byte p.val)) hr trivial (u := s.arrive.drew 2) ?_ (by simpa using hag) (by simp)
    simp only [State.takeRequest, State.takePortGet, partByte, ne_eq, not_true_eq_false, if_false,
      fin?_byte (show 12 ≤ 256 by decide), State.portData, PortDesc.bytes, waiterBytes, State.arrive_ports,
      State.arrive_freeByte, flags_three]
    rfl
  · refine request_refused (r := .portGet b) hr trivial ?_
    simp only [State.takeRequest, State.takePortGet, partByte, ne_eq, not_true_eq_false, if_false,
      fin?_eq_none_iff.mpr (show 12 ≤ b.toNat from hb)]
    rfl

end Sys2Proof.Machine
end


section
set_option Elab.async false
/-! # The checks of REACH_SET and of a STEP (O20)

Each check of the model is a Boolean; here is what each says, and the checks in their order follow. -/

namespace Sys2Proof.Machine

variable {s : State} {i : SiteId}

theorem mem_allLanes (l : LaneId) : l ∈ allLanes := by
  revert l; decide

theorem mem_allSites (j : SiteId) : j ∈ allSites := by
  revert j; decide

/-! ### REACH_SET (R24) -/

theorem rangesMeet_iff {a b : Option (Pin × Pin)} :
    rangesMeet a b = true ↔ ∃ p q c d : Pin, a = some (p, q) ∧ b = some (c, d) ∧ c ≤ q ∧ p ≤ d := by
  rcases a with _ | ⟨p, q⟩
  · simp [rangesMeet]
  · rcases b with _ | ⟨c, d⟩
    · simp [rangesMeet]
    · simp [rangesMeet, and_comm]

theorem State.reachOverlaps_iff {new : Reach} {retain : Bool} : s.reachOverlaps i new retain = true ↔
    ∃ j : SiteId, j ≠ i ∧ (rangesMeet new.range s.sites[j].reach.range = true ∨
      (retain = true ∧ rangesMeet new.range s.sites[j].retained.range = true)) := by
  unfold State.reachOverlaps
  rw [List.any_eq_true]
  simp only [Bool.and_eq_true, Bool.or_eq_true, decide_eq_true_eq]
  exact ⟨fun ⟨j, _, h⟩ => ⟨j, h⟩, fun ⟨j, h⟩ => ⟨j, mem_allSites j, h⟩⟩

theorem Reach.contains_iff {r : Reach} {p : Pin} :
    r.contains p = true ↔ ∃ a b : Pin, r.range = some (a, b) ∧ a ≤ p ∧ p ≤ b := by
  unfold Reach.contains
  rcases r.range with _ | ⟨a, b⟩ <;> simp

theorem Reach.not_contains_iff {r : Reach} {p : Pin} :
    r.contains p = false ↔ ∀ a b : Pin, r.range = some (a, b) → ¬(a ≤ p ∧ p ≤ b) := by
  rw [← Bool.not_eq_true, Reach.contains_iff]
  exact ⟨fun h a b e hab => h ⟨a, b, e, hab⟩, fun h ⟨a, b, e, hab⟩ => h a b e hab⟩

/-- A site owns a lane when the lane holds a route of it. -/
theorem State.mem_routeLanes {l : LaneId} :
    l ∈ s.routeLanes i ↔ ∃ r : Route, s.lanes[l].route = some r ∧ r.site = i := by
  unfold State.routeLanes Lane.ownedBy
  rw [List.mem_filter]
  cases s.lanes[l].route <;> simp [mem_allLanes]

/-- A pin relay commanded closed is a board pin. -/
theorem Lane.pinSet_any {x : Lane} {r : Reach} : (x.pinSet.all r.contains) = false ↔
    ∃ q ∈ x.closed, q.val < 256 ∧ ∀ a b : Pin, r.range = some (a, b) → ¬(a.toNat ≤ q.val ∧ q.val ≤ b.toNat) := by
  unfold Lane.pinSet
  simp only [List.all_eq_false, List.mem_map, List.mem_filter, decide_eq_true_eq, Bool.not_eq_true]
  constructor
  · rintro ⟨_, ⟨q, ⟨hq, hlt⟩, rfl⟩, hc⟩
    refine ⟨q, hq, hlt, fun a b e hab => Reach.not_contains_iff.mp hc a b e ?_⟩
    simpa [BitVec.le_def, Nat.mod_eq_of_lt hlt] using hab
  · rintro ⟨q, hq, hlt, hc⟩
    refine ⟨_, ⟨q, ⟨hq, hlt⟩, rfl⟩, Reach.not_contains_iff.mpr fun a b e hab => hc a b e ?_⟩
    simpa [BitVec.le_def, Nat.mod_eq_of_lt hlt] using hab

theorem State.routesOutside_iff {new : Reach} : s.routesOutside i new = true ↔
    ∃ (l : LaneId) (r : Route), s.lanes[l].route = some r ∧ r.site = i ∧
      ((∃ q ∈ s.lanes[l].closed, q.val < 256 ∧
          ∀ a b : Pin, new.range = some (a, b) → ¬(a.toNat ≤ q.val ∧ q.val ≤ b.toNat)) ∨
        (new.hv = false ∧ s.ports[r.port].desc.hv = true)) := by
  unfold State.routesOutside
  simp only [List.any_eq_true, State.mem_routeLanes, Bool.or_eq_true, Bool.not_eq_true', Lane.pinSet_any, Bool.and_eq_true]
  constructor
  · rintro ⟨l, ⟨r, hr, hi⟩, h⟩
    rw [hr] at h
    exact ⟨l, r, hr, hi, h⟩
  · rintro ⟨l, r, hr, hi, h⟩
    refine ⟨l, ⟨r, hr, hi⟩, ?_⟩
    rw [hr]
    exact h

/-- The range's first pin is above its last (R24). -/
def Reach.reversed (r : Reach) : Bool :=
  match r.range with
  | some (a, b) => decide (b < a)
  | .none => false

theorem Reach.reversed_iff {r : Reach} : r.reversed = true ↔ ∃ a b : Pin, r.range = some (a, b) ∧ b < a := by
  unfold Reach.reversed
  rcases r.range with _ | ⟨a, b⟩ <;> simp

/-- The site is in a state, or has steps, in which its reach stays (R24). -/
def Site.keepsReach (x : Site) : Bool :=
  decide (x.state = .running) || decide (x.state = .aborting) || decide (x.state = .safing) || !x.queue.isEmpty

theorem Site.keepsReach_iff {x : Site} :
    x.keepsReach = true ↔ x.state = .running ∨ x.state = .aborting ∨ x.state = .safing ∨ x.queue ≠ [] := by
  simp [Site.keepsReach, or_assoc]

theorem State.checkReachSet_eq {new : Reach} {retain : Bool} : s.checkReachSet i new retain =
    if s.freeze then some .frozen else if new.reversed then some .badField
    else if s.sites[i].keepsReach then some .siteState else if s.hasReq (.reachSet i) then some .busy
    else if s.reachOverlaps i new retain then some .overlap
    else if s.routesOutside i new then some .routesOutside else none := rfl

/-! ### A STEP (R5 to R7, R38) -/

theorem SiteState.accepts_iff {st : SiteState} : st.accepts = true ↔ st = .idle ∨ st = .running ∨ st = .held := by
  cases st <;> simp [SiteState.accepts]

/-- The checks 6 to 9 of R5, of a step whose own fields are in range. -/
def State.acceptBody (i : SiteId) (b : StepBody) (s : State) : Except ReplyCode StepBody :=
  if s.badPort i b then .error .badField
  else if !(b.pins.all s.sites[i].reach.contains) then .error .outOfReach
  else if s.needsHv b && !s.sites[i].reach.hv then .error .hvDenied
  else if b.limits.any fun l => decide (l.hi.toInt < l.lo.toInt) then .error .badLimits
  else .ok b

theorem State.acceptStep_eq {tag : Byte} {r : StepReq} : s.acceptStep i tag r =
    if s.sites[i].reach.range.isNone then .error .noReach
    else if !s.sites[i].state.accepts then .error .siteState
    else if 32 ≤ s.sites[i].queue.length then .error .queueFull
    else if s.sites[i].queue.any fun st => decide (st.tag = tag) then .error .tagInUse
    else match stepBody r with
      | none => .error .badField
      | some b => s.acceptBody i b := rfl

/-- A step that reaches the checks of its fields. -/
theorem State.acceptStep_fields {tag : Byte} {r : StepReq} (hreach : s.sites[i].reach.range.isNone = false)
    (hopen : s.sites[i].state.accepts = true) (hroom : s.sites[i].queue.length < 32)
    (htag : (s.sites[i].queue.any fun st => decide (st.tag = tag)) = false) : s.acceptStep i tag r =
      match stepBody r with
      | none => .error .badField
      | some b => s.acceptBody i b := by
  rw [State.acceptStep_eq, hreach, hopen, htag, if_neg (by decide), if_neg (by decide), if_neg (Nat.not_le.mpr hroom),
    if_neg (by decide)]

theorem State.badPort_trigger {h : Handle} {d : Duration} : s.badPort i (.trigger h d) = true ↔
    ∃ (l : LaneId) (u : Route), s.routeLane i h = some l ∧ s.lanes[l].route = some u ∧ u.port = 0 := by
  unfold State.badPort State.findRoute
  simp only
  rcases s.routeLane i h with _ | l
  · simp
  · simp only [Option.some.injEq, exists_eq_left', exists_and_left]
    rcases s.lanes[l].route with _ | u <;> simp

theorem StepBody.not_all_pins {b : StepBody} {r : Reach} : (!(b.pins.all r.contains)) = true ↔
    ∃ p ∈ b.pins, ∀ a z : Pin, r.range = some (a, z) → ¬(a ≤ p ∧ p ≤ z) := by
  simp only [Bool.not_eq_true', List.all_eq_false, Bool.not_eq_true, Reach.not_contains_iff]

theorem limits_crossed {ls : List Limits} : (ls.any fun l => decide (l.hi.toInt < l.lo.toInt)) = true ↔
    ∃ u ∈ ls, u.hi.toInt < u.lo.toInt := by
  simp only [List.any_eq_true, decide_eq_true_eq]

theorem flatten_map_toList {α β : Type} (f : α → Option β) (l : List α) :
    (l.map fun a => (f a).toList).flatten = l.filterMap f := by
  induction l with
  | nil => rfl
  | cons a l ih => cases h : f a <;> simp [h, ih]

/-! ### The fields of a STEP in range (R6) -/

theorem meterSpec_eq_none_iff {m : MeterReq} :
    meterSpec m = none ↔ 7 < m.handle.toNat ∨ 5 < m.range.toNat ∨ 8 < m.aperture.toNat := by
  have hfields : meterSpec m = none ↔
      fin? 8 m.handle = none ∨ fin? 6 m.range = none ∨ fin? 9 m.aperture = none := by
    unfold meterSpec
    split
    · next h r a eh er ea => simp [eh, er, ea]
    · next hnone =>
      refine iff_of_true rfl (by_contra fun hc => ?_)
      obtain ⟨hh, hr, ha⟩ := not_or.mp hc |>.imp_right not_or.mp
      obtain ⟨h, eh⟩ := Option.ne_none_iff_exists'.mp hh
      obtain ⟨r, er⟩ := Option.ne_none_iff_exists'.mp hr
      obtain ⟨a, ea⟩ := Option.ne_none_iff_exists'.mp ha
      exact hnone h r a eh er ea
  rw [hfields, fin?_eq_none_iff, fin?_eq_none_iff, fin?_eq_none_iff]
  exact Iff.rfl

theorem stepBody_connect_eq_none_iff {h p : Byte} {d e : Duration} {pins : List Pin} :
    stepBody (.connect h p d e pins) = none ↔
      7 < h.toNat ∨ 11 < p.toNat ∨ pins = [] ∨ 16 < pins.length ∨ ¬pins.Nodup := by
  unfold stepBody
  simp only
  split
  · next a b eh ep =>
    have hh : ¬7 < h.toNat := fun hlt => by rw [fin?_eq_none_iff.mpr hlt] at eh; cases eh
    have hp : ¬11 < p.toNat := fun hlt => by rw [fin?_eq_none_iff.mpr hlt] at ep; cases ep
    simp only [hh, hp, false_or, ite_eq_right_iff, reduceCtorEq, imp_false, not_and_or, not_not, ne_eq, not_le]
  · next hno =>
    refine iff_of_true rfl ?_
    cases eh : fin? 8 h with
    | none => exact .inl (fin?_eq_none_iff.mp eh)
    | some a =>
      cases ep : fin? 12 p with
      | none => exact .inr (.inl (fin?_eq_none_iff.mp ep))
      | some b => exact absurd ep (hno a b eh)

theorem meterSpec_bytes (m : MeterSpec) : meterSpec
    ⟨byte m.handle.val, byte m.range.val, byte m.aperture.val, m.autorange, m.raw, m.stop, m.limits⟩ = some m := by
  simp [meterSpec, fin?_byte]

/-! ### The checks in their orders -/

/-- REACH_FREEZE (R26). -/
theorem reachFreeze_answered (tag : Byte) (h : s.ready) : exec (.reachFreeze tag 0xFF) s =
    .next (({ s.arrive with freeze := true } : State).answered 0x09 tag 0xFF .ok []) :=
  request_answered (r := .reachFreeze) (u := { s.arrive with freeze := true }) h trivial rfl (by simpa using h.2.2.1)
    (by simp)

/-- What each Boolean check of a step's fields says, whatever words the statement of the check uses. -/
theorem State.acceptBody_order {b : StepBody} {badPort outside denied crossed : Prop}
    (hport : s.badPort i b = true ↔ badPort) (houtside : (!(b.pins.all s.sites[i].reach.contains)) = true ↔ outside)
    (hdenied : (s.needsHv b && !s.sites[i].reach.hv) = true ↔ denied)
    (hcrossed : (b.limits.any fun l => decide (l.hi.toInt < l.lo.toInt)) = true ↔ crossed) :
    (badPort → s.acceptBody i b = .error .badField) ∧
    (¬badPort → outside → s.acceptBody i b = .error .outOfReach) ∧
    (¬badPort → ¬outside → denied → s.acceptBody i b = .error .hvDenied) ∧
    (¬badPort → ¬outside → ¬denied → crossed → s.acceptBody i b = .error .badLimits) ∧
    (¬badPort → ¬outside → ¬denied → ¬crossed → s.acceptBody i b = .ok b) := by
  unfold State.acceptBody
  refine ⟨fun hp => ?_, fun hp ho => ?_, fun hp ho hd => ?_, fun hp ho hd hc => ?_, fun hp ho hd hc => ?_⟩
  · rw [if_pos (hport.mpr hp)]
  · rw [if_neg (mt hport.mp hp), if_pos (houtside.mpr ho)]
  · rw [if_neg (mt hport.mp hp), if_neg (mt houtside.mp ho), if_pos (hdenied.mpr hd)]
  · rw [if_neg (mt hport.mp hp), if_neg (mt houtside.mp ho), if_neg (mt hdenied.mp hd), if_pos (hcrossed.mpr hc)]
  · rw [if_neg (mt hport.mp hp), if_neg (mt houtside.mp ho), if_neg (mt hdenied.mp hd), if_neg (mt hcrossed.mp hc)]

/-- Settles O20: each check says what the statement says, and the checks come in the statement's order. -/
theorem requestCheckOrders : Obligations.RequestCheckOrders := by
  refine ⟨fun tag s h => reachFreeze_answered tag h, fun s i range hv retain => ?_, fun s i tag r => ?_,
    fun h p d e pins => stepBody_connect_eq_none_iff, fun h d => ?_, fun m d pts => ?_, fun h p d e pins m pts => ?_⟩
  · intro new reversed busySite waiting meets overlaps outside
    have hreversed : new.reversed = true ↔ reversed := Reach.reversed_iff
    have hbusy : s.sites[i].keepsReach = true ↔ busySite := Site.keepsReach_iff
    have hoverlaps : s.reachOverlaps i new retain = true ↔ overlaps := by
      simp only [State.reachOverlaps_iff, rangesMeet_iff]
      rfl
    have houtside : s.routesOutside i new = true ↔ outside := State.routesOutside_iff
    rw [State.checkReachSet_eq]
    refine ⟨fun hf => ?_, fun hf hr => ?_, fun hf hr hb => ?_, fun hf hr hb hw => ?_, fun hf hr hb hw ho => ?_,
      fun hf hr hb hw ho hout => ?_, fun hf hr hb hw ho hout => ?_⟩
    · rw [if_pos hf]
    all_goals rw [if_neg (by simp [hf])]
    · rw [if_pos (hreversed.mpr hr)]
    all_goals rw [if_neg (mt hreversed.mp hr)]
    · rw [if_pos (hbusy.mpr hb)]
    all_goals rw [if_neg (mt hbusy.mp hb)]
    · rw [if_pos hw]
    all_goals rw [if_neg hw]
    · rw [if_pos (hoverlaps.mpr ho)]
    all_goals rw [if_neg (mt hoverlaps.mp ho)]
    · rw [if_pos (houtside.mpr hout)]
    · rw [if_neg (mt houtside.mp hout)]
  · intro x taken open' goesOn
    have hreach : x.reach.range.isNone = true ↔ x.reach.range = none := Option.isNone_iff_eq_none
    have hopen : x.state.accepts = true ↔ open' := SiteState.accepts_iff
    have hclosed : (!x.state.accepts) = true ↔ ¬open' := by rw [Bool.not_eq_true', ← Bool.not_eq_true, hopen]
    have htaken : (x.queue.any fun st => decide (st.tag = tag)) = true ↔ taken := by
      simp only [List.any_eq_true, decide_eq_true_eq]
      rfl
    have hfields (hgo : goesOn) : s.acceptStep i tag r = match stepBody r with
        | none => .error .badField
        | some b => s.acceptBody i b := by
      obtain ⟨hr, ho, hroom, ht⟩ := hgo
      exact State.acceptStep_fields (Bool.eq_false_iff.mpr (mt hreach.mp hr)) (hopen.mpr ho) hroom
        (Bool.eq_false_iff.mpr (mt htaken.mp ht))
    refine ⟨fun hr => ?_, fun hr ho => ?_, fun hr ho hfull => ?_, fun hr ho hroom ht => ?_, fun hgo hnone => ?_,
      fun b hgo hsome => ?_⟩
    · rw [State.acceptStep_eq, if_pos (hreach.mpr hr)]
    · rw [State.acceptStep_eq, if_neg (mt hreach.mp hr), if_pos (hclosed.mpr ho)]
    · rw [State.acceptStep_eq, if_neg (mt hreach.mp hr), if_neg (fun hc => hclosed.mp hc ho), if_pos hfull]
    · rw [State.acceptStep_eq, if_neg (mt hreach.mp hr), if_neg (fun hc => hclosed.mp hc ho),
        if_neg (Nat.not_le.mpr hroom), if_pos (htaken.mpr ht)]
    · rw [hfields hgo, hnone]
    · intro badPort pins outside denied limits crossed
      have hbody : s.acceptStep i tag r = s.acceptBody i b := by rw [hfields hgo, hsome]
      rw [hbody]
      refine State.acceptBody_order ?_ ?_ ?_ ?_
      · cases b with
        | connect => exact decide_eq_true_iff
        | trigger => exact State.badPort_trigger
        | _ => exact Bool.false_eq_true.to_iff
      · rw [StepBody.not_all_pins]
        cases b <;> exact Iff.rfl
      · rw [Bool.and_eq_true, Bool.not_eq_true', and_comm]
        refine and_congr_right fun _ => ?_
        cases b with
        | connect => exact Iff.rfl
        | measure | scan => exact decide_eq_true_iff
        | _ => exact Bool.false_eq_true.to_iff
      · rw [limits_crossed]
        cases b with
        | scan m d pts => rw [StepBody.limits, flatten_map_toList]
        | _ => exact Iff.rfl
  · simp only [stepBody, Option.map_eq_none_iff, fin?_eq_none_iff]
    exact ⟨Iff.rfl, Iff.rfl, Iff.rfl, Iff.rfl, trivial, trivial⟩
  · intro bad
    refine ⟨?_, ?_⟩
    · simp only [stepBody, Option.map_eq_none_iff]; exact meterSpec_eq_none_iff
    · rw [← show meterSpec m = none ↔ bad from meterSpec_eq_none_iff]
      unfold stepBody
      simp only
      split
      · next h => simp [h.1, Nat.not_lt.mpr h.2]
      · next h =>
        refine iff_of_true rfl (.inr ?_)
        rwa [not_and_or, not_not, not_le] at h
  · intro q
    have hmeter : meterSpec q = some m := meterSpec_bytes m
    have hh : fin? 8 (byte h.val) = some h := fin?_byte (by decide) h
    have hp : fin? 12 (byte p.val) = some p := fin?_byte (by decide) p
    refine ⟨fun hne hlen hnd => ?_, ?_, ?_, ?_, ?_, ?_, fun hne hlen => ?_⟩
    · simp only [stepBody, hh, hp]; rw [if_pos ⟨hne, hlen, hnd⟩]
    · simp only [stepBody, hh, Option.map_some]
    · simp only [stepBody, hh, Option.map_some]
    · simp only [stepBody, hh, Option.map_some]
    · simp only [stepBody, hh, Option.map_some]
    · simp only [stepBody, hmeter, Option.map_some]
    · simp only [stepBody, hmeter, Option.map_some]; rw [if_pos ⟨hne, hlen⟩]

end Sys2Proof.Machine
end


section
set_option Elab.async false
/-! # REACH_SET (O24) -/

namespace Sys2Proof.Machine

variable {s : State}

/-! ### STORE: an item becomes due (R177) -/

theorem State.modStore_congr (f g : Store → Store) (h : f s.store = g s.store) : s.modStore f = s.modStore g := by
  simp [State.modStore, h]

/-- While a write is in flight, an item that becomes due stands in the pending-write set, and nothing else changes. -/
theorem State.due_busy {it : ItemId} (h : s.store.inFlight ≠ none) :
    ∃ w : List ItemId, it ∈ w ∧ s.due it = s.modStore fun t => { t with pendingWrites := w } := by
  have hbegin (t : State) (ht : t.store.inFlight ≠ none) : t.beginWrite = t := by
    unfold State.beginWrite
    split
    · next hn _ => exact absurd hn ht
    · rfl
  unfold State.due
  split
  · next hc => exact ⟨s.store.pendingWrites, by simpa using hc, hbegin _ h⟩
  · exact ⟨s.store.pendingWrites ++ [it], by simp, hbegin _ h⟩

/-- On an idle store, an item of no lane that becomes due begins to be written. -/
theorem State.due_idle {it : ItemId} (hit : ¬it.val < 16) (hf : s.store.inFlight = none) (hp : s.store.pendingWrites = [])
    (hphase : s.inPhase .startup = false) : s.due it = s.modStore fun t =>
      { t with inFlight := some ⟨s.itemContent it, false⟩,
               awaits := t.awaits.map fun a => if a.item = it then { a with begun := true } else a } := by
  have hphase' (f : Store → Store) : (s.modStore f).inPhase .startup = false := hphase
  unfold State.due State.beginWrite
  simp only [hp, List.contains_nil, Bool.false_eq_true, if_false, State.modStore_store, hf, List.nil_append, hphase', hit,
    dite_false]
  rw [State.modStore_modStore]
  refine State.modStore_congr _ _ ?_
  simp only [← hp]
  rfl

/-- No FULL reset is past its reply while the link is up (R184). -/
theorem State.inPhase_startup_of_linkUp (h : s.linkUp = true) : s.inPhase .startup = false := by
  unfold State.linkUp at h
  unfold State.inPhase
  cases hr : s.resetReq with
  | none => rfl
  | some r =>
    simp only [hr, Bool.and_eq_true, decide_eq_true_eq, ne_eq] at h
    simp [h.2]

/-! ### The effect of a REACH_SET -/

@[simp] theorem State.arrive_checkReachSet (i : SiteId) (new : Reach) (retain : Bool) :
    s.arrive.checkReachSet i new retain = s.checkReachSet i new retain :=
  s.arrive_frame (fun t => t.checkReachSet i new retain) (fun _ _ => rfl) fun _ _ => rfl

theorem map_upd_congr {α β : Type} {n : Nat} (v : Vector α n) (i : Fin n) (f f' : α → α) (g : α → β)
    (h : g (f v[i]) = g (f' v[i])) : (upd v i f).map g = (upd v i f').map g := by
  apply Vector.ext
  intro k hk
  simp only [Vector.getElem_map, upd_getElem]
  split
  · next e => simp only [Fin.getElem_fin, e] at h; exact h
  · rfl

/-- A retained change: the site's reach and its copy, the request that waits (R25). -/
def State.reachRetained (i : SiteId) (new : Reach) (tag : Byte) (s : State) : State :=
  let changed := decide (s.sites[i].retained ≠ new)
  let s := s.modSite i fun x => { x with reach := new, retainedFlag := true, retained := new }
  (s.await { owner := .reachSet i, tag := tag, failed := [] } [reachItem]).touchIf changed reachItem

theorem State.setReach_retained (tag site : Byte) (i : SiteId) (new : Reach) :
    s.setReach ⟨tag, site⟩ i new true = (s.reachRetained i new tag).due reachItem := rfl

/-- The store after a retained change: the request waits for the item, whose differs flag is set if its copy changed. -/
theorem State.reachRetained_eq (i : SiteId) (new : Reach) (tag : Byte) : s.reachRetained i new tag =
    (s.modSite i fun x => { x with reach := new, retainedFlag := true, retained := new }).modStore fun t => { t with
      differs := if s.sites[i].retained = new then t.differs else upd t.differs reachItem fun _ => true,
      inFlight := if s.sites[i].retained = new then t.inFlight
        else t.inFlight.map fun w => if w.content.item = reachItem then { w with changed := true } else w,
      reqs := t.reqs ++ [⟨.reachSet i, tag, []⟩],
      awaits := t.awaits ++ [⟨.reachSet i, reachItem, false⟩] } := by
  unfold State.reachRetained State.touchIf State.await State.touch
  by_cases h : s.sites[i].retained = new
  · simp only [h, ne_eq, not_true_eq_false, decide_false, Bool.false_eq_true, if_false, if_true]; rfl
  · simp only [h, ne_eq, not_false_eq_true, decide_true, if_true, if_false]; rfl

theorem State.takeReachSet_passed {tag : Byte} {i : SiteId} {new : Reach} {retain : Bool}
    (hm : s.link.marker = some (0x07, siteByte i)) (hc : s.checkReachSet i new retain = none) :
    s.takeReachSet new retain ⟨tag, siteByte i⟩ = s.setReach ⟨tag, siteByte i⟩ i new retain := by
  simp only [State.takeReachSet, siteOf_siteByte, hm, ne_eq, not_true_eq_false, if_false, hc]

/-- Settles O24: the marker, then the checks of R24, then the volatile or the retained effect. -/
theorem reachSetOutcomes : Obligations.ReachSetOutcomes := by
  intro tag s i a b empty hv retain hr new c
  have hag : s.agenda = [] := hr.2.2.1
  have hexec : exec c s = request (.reachSet a b empty hv retain) tag (siteByte i) s := rfl
  have htake : s.arrive.takeRequest (.reachSet a b empty hv retain) ⟨tag, siteByte i⟩
      = s.arrive.takeReachSet new retain ⟨tag, siteByte i⟩ := rfl
  have hmarker : s.arrive.link.marker = s.link.marker := by rw [State.arrive_link]
  rw [hexec]
  refine ⟨fun hm => ?_, fun code hm hc => ?_, fun hm hc hret => ?_, fun hm hc hret hb hflight => ?_,
    fun hm hc hret hb hflight hpend => ?_⟩
  · refine request_refused hr trivial (htake.trans ?_)
    simp only [State.takeReachSet, siteOf_siteByte, hmarker, ne_eq, hm, not_false_eq_true, if_true]
    rfl
  · refine request_refused hr trivial (htake.trans ?_)
    simp only [State.takeReachSet, siteOf_siteByte, hmarker, hm, ne_eq, not_true_eq_false, if_false,
      State.arrive_checkReachSet, hc]
    rfl
  · subst hret
    refine request_answered hr trivial (htake.trans ((State.takeReachSet_passed (hmarker.trans hm) (by simpa using hc)).trans ?_))
      (by simpa using hag) (by simp)
    have hbytes : (s.arrive.modSite i fun x => { x with reach := new, retainedFlag := false }).workingBytes i 0
        = s.reachBytes new false 0 := by
      unfold State.workingBytes
      rw [State.modSite_sites, upd_get, if_pos rfl]
      simp only [State.reachBytes, State.freeByte, State.modSite_freeReads, State.arrive_freeReads]
    unfold State.setReach
    simp only [Bool.false_eq_true, if_false, hbytes]
    rfl
  all_goals subst hret
  all_goals obtain ⟨-, -, hwaiting, hclosed⟩ := hb
  · have hpassed := htake.trans (State.takeReachSet_passed (hmarker.trans hm) (by simpa using hc))
    have hbusy : (s.arrive.reachRetained i new tag).store.inFlight ≠ none := by
      rw [State.reachRetained_eq]
      simp only [State.modStore_store, State.modSite_store, State.arrive_store]
      split
      · exact hflight
      · simpa using hflight
    obtain ⟨w, hw, hdue⟩ := State.due_busy (it := reachItem) hbusy
    rw [State.setReach_retained, hdue, State.reachRetained_eq] at hpassed
    refine ⟨_, request_marked hr trivial hpassed ⟨?_, ?_, ?_, ?_⟩, ?_⟩
    · simpa using hag
    · simp
    · simpa using hwaiting
    · simpa using hclosed
    · simp [hw, State.hasReq]
  · have hpassed := htake.trans (State.takeReachSet_passed (hmarker.trans hm) (by simpa using hc))
    have hphase : (s.arrive.reachRetained i new tag).inPhase .startup = false := by
      rw [State.reachRetained_eq]
      exact (s.arrive_frame (fun t => t.inPhase .startup) (fun _ _ => rfl) fun _ _ => rfl).trans
        (State.inPhase_startup_of_linkUp hr.2.1)
    have hidle : (s.arrive.reachRetained i new tag).store.inFlight = none := by
      rw [State.reachRetained_eq]; simp [hflight]
    have hempty : (s.arrive.reachRetained i new tag).store.pendingWrites = [] := by
      rw [State.reachRetained_eq]; simp [hpend]
    have hcontent : (s.arrive.reachRetained i new tag).itemContent reachItem
        = .reach ((upd s.sites i fun x => { x with retained := new }).map Site.retained) := by
      rw [State.reachRetained_eq]
      refine congrArg ItemContent.reach ?_
      simp only [State.modStore_sites, State.modSite_sites, State.arrive_sites]
      exact map_upd_congr _ _ _ _ _ rfl
    rw [State.setReach_retained, State.due_idle (by decide) hidle hempty hphase, hcontent, State.reachRetained_eq] at hpassed
    rw [State.modStore_modStore] at hpassed
    refine request_marked hr trivial (hpassed.trans (State.modStore_congr _ _ ?_)) ⟨?_, ?_, ?_, ?_⟩
    · simp
    · simpa using hag
    · simp
    · simpa using hwaiting
    · simpa using hclosed

end Sys2Proof.Machine
end


section
set_option Elab.async false
/-! # STEP, HOLD and CLEAR (O25, O28, O33) -/

namespace Sys2Proof.Machine

variable {s : State} {i : SiteId}

/-! ### A site record after an update -/

theorem State.modSite_get (s : State) (i : SiteId) (f : Site → Site) : (s.modSite i f).sites[i] = f s.sites[i] := by
  rw [State.modSite_sites, upd_get, if_pos rfl]

/-- An update of a record is what it makes of the record as it stands. -/
theorem upd_congr {α : Type} {n : Nat} (v : Vector α n) (k : Fin n) (f g : α → α) (h : f v[k] = g v[k]) :
    upd v k f = upd v k g := by
  simp only [upd, h]

theorem State.modSite_congr {f g : Site → Site} (h : f s.sites[i] = g s.sites[i]) : s.modSite i f = s.modSite i g := by
  simp only [State.modSite, upd_congr s.sites i f g h]

theorem State.modLane_congr {l : LaneId} {f g : Lane → Lane} (h : f s.lanes[l] = g s.lanes[l]) :
    s.modLane l f = s.modLane l g := by
  simp only [State.modLane, upd_congr s.lanes l f g h]

theorem State.modPort_congr {p : PortId} {f g : Port → Port} (h : f s.ports[p] = g s.ports[p]) :
    s.modPort p f = s.modPort p g := by
  simp only [State.modPort, upd_congr s.ports p f g h]

theorem State.modSite_modSite (s : State) (i : SiteId) (f g : Site → Site) :
    (s.modSite i f).modSite i g = s.modSite i fun x => g (f x) := by
  simp only [State.modSite, upd_upd]

theorem State.modSite_id {f : Site → Site} (h : f s.sites[i] = s.sites[i]) : s.modSite i f = s := by
  simp only [State.modSite, upd_id s.sites i f h]

/-! ### HOLD (R14) -/

/-- HOLD and RESUME answer with the site as it then stands. -/
theorem State.answerHold_eq {u : State} {kind tag : Byte} {n : Nat} {b : Bool} (hst : u.sites[i].state.code = n)
    (hh : u.sites[i].held = b) :
    u.answerHold kind ⟨tag, siteByte i⟩ i = u.reply kind tag (siteByte i) .ok [byte n, flag b] := by
  unfold State.answerHold State.holdData
  rw [hst, hh]
  rfl

/-- Settles O25: HOLD by the site's state. -/
theorem holdByState : Obligations.HoldByState := by
  intro tag s i hr c
  have hag : s.agenda = [] := hr.2.2.1
  have hexec : exec c s = request .hold tag (siteByte i) s := rfl
  have htake : s.arrive.takeRequest .hold ⟨tag, siteByte i⟩ = s.arrive.takeHold ⟨tag, siteByte i⟩ := rfl
  rw [hexec]
  refine ⟨fun hst => ?_, fun hst => ?_, fun hst => ?_, fun hst => ?_⟩
  · refine request_answered hr trivial (htake.trans ?_) (by simpa using hag) (by simp)
    simp only [State.takeHold, siteOf_siteByte, State.arrive_sites, hst]
    refine State.answerHold_eq (n := 2) (b := true) ?_ ?_
    · rw [State.modSite_get]; rfl
    · rw [State.modSite_get]
  · refine request_answered hr trivial (htake.trans ?_) (by simpa using hag) (by simp)
    simp only [State.takeHold, siteOf_siteByte, State.arrive_sites, hst]
    refine State.answerHold_eq (n := 1) (b := true) ?_ ?_
    · rw [State.modSite_get, State.arrive_sites, hst]; rfl
    · rw [State.modSite_get]
  · refine request_refused hr trivial (htake.trans ?_)
    simp only [State.takeHold, siteOf_siteByte, State.arrive_sites, hst]
    exact State.answerHold_eq (by rw [State.arrive_sites, hst]; rfl) (by rw [State.arrive_sites])
  · refine request_refused hr trivial (htake.trans ?_)
    rcases hst with hst | hst | hst | hst <;> simp only [State.takeHold, siteOf_siteByte, State.arrive_sites, hst] <;> rfl

/-! ### CLEAR without a STUCK route (R19) -/

/-- A site that is held, or has a running step, or has no step, starts none (R9). -/
theorem State.mayStart_eq_false (h : s.sites[i].held = true ∨ s.sites[i].running ≠ none ∨ s.sites[i].queue = []) :
    s.mayStart i = false := by
  unfold State.mayStart
  rcases h with h | h | h
  · simp only [h, Bool.not_true, Bool.and_false, Bool.false_and]
  · have : s.sites[i].running.isNone = false := by simpa [Option.ne_none_iff_isSome] using h
    simp only [this, Bool.and_false, Bool.false_and]
  · simp only [h, List.isEmpty_nil, Bool.not_true, Bool.and_false]

theorem State.takeRequest_clear (force : Bool) (h : Head) : s.takeRequest (.clear force) h = s.takeClear force h := rfl

/-- CLEAR and CLEAR force are the request with its flag (R19). -/
theorem exec_clear (tag site : Byte) (force : Bool) (s : State) :
    exec (if force then .clearForce tag site else .clear tag site) s = request (.clear force) tag site s := by
  cases force <;> rfl

theorem State.holdsRoute_eq_false (h : s.routeLanes i = []) : s.holdsRoute i = false := by
  simp [State.holdsRoute, h]

@[simp] theorem State.arrive_routeLanes : s.arrive.routeLanes i = s.routeLanes i :=
  s.arrive_frame (fun t => t.routeLanes i) (fun _ _ => rfl) fun _ _ => rfl

/-- CLEAR of a STOPPED site, or of a SAFE one without routes, takes effect at once. -/
theorem State.takeClear_atOnce {force : Bool} {h : Head} (hi : siteOf h.site = some i)
    (hst : s.sites[i].state = .stopped ∨ (s.sites[i].state = .safe ∧ s.sites[i].clear = none ∧ s.routeLanes i = [])) :
    s.takeClear force h = s.clearAtOnce h i := by
  unfold State.takeClear
  rcases hst with hst | ⟨hst, hclear, hroutes⟩
  · simp only [hi, hst]
  · simp only [hi, hst, State.clearBusy, hclear, State.holdsRoute_eq_false hroutes, Option.isSome_none, Bool.and_false,
      Bool.or_false, Bool.false_eq_true, if_false]

/-- Settles O28: CLEAR by the site's state. -/
theorem clearReturnsToIdle : Obligations.ClearReturnsToIdle := by
  intro tag s i force hr c
  rw [show exec c s = _ from exec_clear tag (siteByte i) force s]
  refine ⟨fun hst hq => ?_, fun hst hclear => ?_, fun hst => ?_⟩
  · refine request_answered_next (i := i) hr trivial ?_ (by simpa using hr.2.2.1) (by simp) (State.mayStart_eq_false ?_)
    · rw [State.takeRequest_clear, State.takeClear_atOnce (siteOf_siteByte i) (by simpa using hst)]
      rfl
    · rw [State.modSite_get, State.arrive_sites]
      exact .inr hq.symm
  · refine request_refused hr trivial ?_
    simp only [State.takeRequest_clear, State.takeClear, siteOf_siteByte, State.arrive_sites, hst, State.clearBusy,
      Option.isSome_iff_ne_none.mpr hclear, Bool.true_or, if_true]
    rfl
  · refine request_refused hr trivial ?_
    rcases hst with hst | hst | hst | hst | hst <;>
      simp only [State.takeRequest_clear, State.takeClear, siteOf_siteByte, State.arrive_sites, hst] <;> rfl

/-! ### STEP (R5) -/

@[simp] theorem State.arrive_acceptStep (tag : Byte) (r : StepReq) : s.arrive.acceptStep i tag r = s.acceptStep i tag r :=
  s.arrive_frame (fun t => t.acceptStep i tag r) (fun _ _ => rfl) fun _ _ => rfl

theorem State.takeStep_busy {tag : Byte} {r : StepReq} (hf : s.fullReset = true) :
    s.takeStep r ⟨tag, siteByte i⟩ = s.reply 0x02 tag (siteByte i) .busy [] := by
  simp only [State.takeStep, hf, if_true]
  rfl

theorem State.takeStep_refused {tag : Byte} {r : StepReq} {code : ReplyCode} (hf : s.fullReset = false)
    (hc : s.acceptStep i tag r = .error code) :
    s.takeStep r ⟨tag, siteByte i⟩ = s.reply 0x02 tag (siteByte i) code [] := by
  simp only [State.takeStep, hf, Bool.false_eq_true, if_false, siteOf_siteByte, hc]
  rfl

theorem State.takeStep_accepted {tag : Byte} {r : StepReq} {b : StepBody} (hf : s.fullReset = false)
    (hc : s.acceptStep i tag r = .ok b) : s.takeStep r ⟨tag, siteByte i⟩ =
      ((s.modSite i fun x => { x with queue := x.queue ++ [⟨tag, b⟩] }).reply 0x02 tag (siteByte i) .ok []).push
        (.next i) := by
  simp only [State.takeStep, hf, Bool.false_eq_true, if_false, siteOf_siteByte, hc]
  rfl

/-- Settles O33: the frame fits, so the STEP is taken, and is accepted or refused by its checks. -/
theorem stepAcceptedOrRefused : Obligations.StepAcceptedOrRefused := by
  refine ⟨fun c tag i r b s hc hw hr hf hok hwait => ?_, fun c tag i r s hc hw hr => ⟨fun code hf herr => ?_, fun hf => ?_⟩⟩
  · rw [exec_stepCommand hc]
    refine request_answered_next (i := i) hr (requestFits_of_stepCommand hc hw)
      (State.takeStep_accepted (by simpa using hf) (by simpa using hok)) (by simpa using hr.2.2.1) (by simp)
      (State.mayStart_eq_false ?_)
    rw [State.modSite_get, State.arrive_sites]
    exact hwait.imp_right .inl
  · rw [exec_stepCommand hc]
    exact request_refused hr (requestFits_of_stepCommand hc hw)
      (State.takeStep_refused (by simpa using hf) (by simpa using herr))
  · rw [exec_stepCommand hc]
    exact request_refused hr (requestFits_of_stepCommand hc hw) (State.takeStep_busy (by simpa using hf))

end Sys2Proof.Machine
end


section
set_option Elab.async false
/-! # CLEAR of a STUCK route (O29) -/

namespace Sys2Proof.Machine

variable {s : State} {i : SiteId} {l : LaneId} {r : Route}

/-! ### Routes and loads -/

/-- A lane record after an update. -/
theorem State.modLane_get (s : State) (l : LaneId) (f : Lane → Lane) : (s.modLane l f).lanes[l] = f s.lanes[l] := by
  rw [State.modLane_lanes, upd_get, if_pos rfl]

theorem State.modLane_modLane (s : State) (l : LaneId) (f g : Lane → Lane) :
    (s.modLane l f).modLane l g = s.modLane l fun x => g (f x) := by
  simp only [State.modLane, upd_upd]

/-- A route that is not LIVE has no arm line to deassert (R37). -/
theorem State.disarmRoute_of_not_live (hr : s.lanes[l].route = some r) (h : r.state ≠ .live) : s.disarmRoute l = s := by
  unfold State.disarmRoute
  simp only [hr, h, if_false]

/-- The arm line of a LIVE route is deasserted (R37). -/
theorem State.disarmRoute_of_live (hr : s.lanes[l].route = some r) (h : r.state = .live) :
    s.disarmRoute l = s.modPort r.port fun x => { x with arm := false } := by
  unfold State.disarmRoute
  simp only [hr, h, if_true]

/-- A route leaves its state for another than LIVE (R36, R37). -/
theorem State.setRoute_of_route {st : RouteState} (hst : st ≠ .live) (hr : s.lanes[l].route = some r) :
    s.setRoute l st = (s.disarmRoute l).modLane l fun x => { x with route := some { r with state := st } } := by
  have hroute : (s.disarmRoute l).lanes[l].route = some r := by
    unfold State.disarmRoute
    rw [hr]; simp only; split
    · exact hr
    · exact hr
  unfold State.setRoute
  rw [if_neg hst]
  exact State.modLane_congr (by simp only [hroute, Option.map_some])

@[simp] theorem addRelays_nil (c : List Relay) : addRelays [] c = c := by
  simp [addRelays]

/-- While pin relays are closed, the next opening load is theirs (R66). -/
theorem Lane.openLoad_pins {x : Lane} (k : LoadKind) (h : x.pinRelays ≠ []) : x.openLoad k = ⟨k, [], x.pinRelays⟩ := by
  unfold Lane.openLoad
  simp [h]

/-- The pin relays of a lane open: its load, its commanded pattern, and no quiet wait (R48, R66). -/
def Lane.pinsOpening (k : LoadKind) (x : Lane) : Lane :=
  { x with closed := dropRelays x.pinRelays x.closed, load := some { kind := k, closes := [], opens := x.pinRelays },
           quiet := none }

theorem State.beginLoad_pins (k : LoadKind) (h : s.lanes[l].pinRelays ≠ []) :
    s.beginLoad l (s.lanes[l].openLoad k) = s.modLane l (Lane.pinsOpening k) := by
  rw [Lane.openLoad_pins k h]
  unfold State.beginLoad
  exact State.modLane_congr (by simp only [addRelays_nil]; rfl)

/-- On a quiet lane with closed pins, a route that is not LIVE enters OPENING with the load of its pins (R65, R66, R86). -/
theorem State.enterOpening_quiet (hr : s.lanes[l].route = some r) (h : r.state ≠ .live) (hq : s.isLive l = false)
    (hp : s.lanes[l].pinRelays ≠ []) : s.enterOpening l =
      s.modLane l fun x => { Lane.pinsOpening .opening x with route := some { r with state := .opening } } := by
  unfold State.enterOpening State.openingStep State.loadWhenQuiet
  rw [State.setRoute_of_route (by decide) hr, State.disarmRoute_of_not_live hr h]
  have hlive (f : Lane → Lane) : (s.modLane l f).isLive l = false := hq
  rw [hlive, if_neg (by decide), State.beginLoad_pins, State.modLane_modLane]
  · rfl
  · rw [State.modLane_get]; exact hp

/-! ### The clear -/

@[simp] theorem State.arrive_isLive : s.arrive.isLive l = s.isLive l :=
  s.arrive_frame (fun t => t.isLive l) (fun _ _ => rfl) fun _ _ => rfl

@[simp] theorem State.arrive_inPhase (p : ResetPhase) : s.arrive.inPhase p = s.inPhase p :=
  s.arrive_frame (fun t => t.inPhase p) (fun _ _ => rfl) fun _ _ => rfl

theorem State.inPhase_of_not_full {p : ResetPhase} (h : s.fullReset = false) : s.inPhase p = false := by
  unfold State.fullReset at h
  unfold State.inPhase
  cases hq : s.resetReq with
  | none => rfl
  | some q => simp only [hq] at h ⊢; simp [h]

/-- A CLEAR of a SAFE site with a route is taken unless one is in flight (R20, R21). -/
theorem State.takeClear_stuck {force : Bool} {tag : Byte} (hst : s.sites[i].state = .safe) (hc : s.sites[i].clear = none)
    (hl : s.routeLanes i ≠ []) (hf : s.fullReset = false) :
    s.takeClear force ⟨tag, siteByte i⟩ = s.clearStuck force ⟨tag, siteByte i⟩ i := by
  have hroute : s.holdsRoute i = true := by simpa [State.holdsRoute] using hl
  simp only [State.takeClear, siteOf_siteByte, hst, State.clearBusy, hc, Option.isSome_none, State.inPhase_of_not_full hf,
    Bool.false_and, Bool.or_false, Bool.false_eq_true, if_false, hroute, if_true]

theorem State.noBacklog_arrive (h : s.noBacklog) : s.arrive.noBacklog := by
  obtain ⟨ha, _, hd, hw⟩ := h
  exact ⟨by simpa using ha, by simp, by simpa using hd, by simpa using hw⟩

/-- Settles O29: the lane is live and the CLEAR refused, or quiet and its route opens, or the CLEAR is forced. -/
theorem clearOfStuckRoute : Obligations.ClearOfStuckRoute := by
  intro tag s i l r hr hb hst hc hl hroute hp hf
  have htake (force : Bool) : s.arrive.takeRequest (.clear force) ⟨tag, siteByte i⟩
      = s.arrive.clearStuck force ⟨tag, siteByte i⟩ i := by
    refine State.takeClear_stuck ?_ ?_ ?_ ?_
    · rw [State.arrive_sites, hst]
    · rw [State.arrive_sites, hc]
    · rw [State.arrive_routeLanes, hl]; simp
    · rw [State.arrive_fullReset, hf]
  have hlanes : s.arrive.routeLanes i = [l] := by rw [State.arrive_routeLanes, hl]
  have hcleared (force : Bool) : (s.arrive.modSite i fun x =>
      { x with clear := some { tag := tag, forced := force } }).noBacklog := State.noBacklog_arrive hb
  refine ⟨fun hlive => ?_, fun hquiet hstuck => ?_, ?_⟩
  · refine request_refused (r := .clear false) hr trivial ((htake false).trans ?_)
    simp only [State.clearStuck, hlanes, Bool.false_eq_true, if_false, List.any_cons, List.any_nil, Bool.or_false,
      State.arrive_isLive, hlive, if_true, State.arrive_sites, hst]
    rfl
  · refine request_marked (r := .clear false) hr trivial ((htake false).trans ?_) (hcleared false)
    simp only [State.clearStuck, hlanes, Bool.false_eq_true, if_false, List.any_cons, List.any_nil, Bool.or_false,
      State.arrive_isLive, hquiet, forEach]
    refine State.enterOpening_quiet ?_ ?_ ?_ ?_
    · rw [State.modSite_lanes, State.arrive_lanes, hroute]
    · rw [hstuck]; decide
    · exact State.arrive_isLive.trans hquiet
    · rw [State.modSite_lanes, State.arrive_lanes]; exact hp
  · refine request_marked (r := .clear true) hr trivial ((htake true).trans ?_) (hcleared true)
    simp only [State.clearStuck, hlanes, if_true, forEach]
    refine State.beginLoad_pins .hot ?_
    rw [State.modSite_lanes, State.arrive_lanes]; exact hp

end Sys2Proof.Machine
end


section
set_option Elab.async false
/-! # The follow-ups of an event come to an end

An event's follow-ups are drained under a bound (log entry 6). `State.work` weighs what they can still bring about: the noted
ones, the free entries of the completion queue, the steps that wait for their block, the free lanes. Each follow-up takes at
least one off it, unless it is a frame's dispatch or a release wait's end, which weigh more than the bound. `Grows n s t` says
that a function adds at most `n`, and asserts no arm line; a calm change adds nothing. -/

namespace Sys2Proof.Machine

variable {s t u : State}

/-! ### Weights -/

/-- What a follow-up can bring about, itself included. -/
def Task.weight : Task → Nat
  | .done _ | .closure .. | .admitDone | .dispatch => 1
  | .waitExpired _ | .settleExpired _ => 2
  | .claimExpired _ | .operateExpired _ | .doneExpired _ => 3
  | .next _ => 10
  | .ocExpired _ => 27
  | .releaseExpired _ => 5000

theorem Task.weight_pos (k : Task) : 0 < k.weight := by
  cases k <;> simp [Task.weight]

/-- The sites whose step waits for its block. -/
def State.waiters (s : State) : Nat := ∑ i : SiteId, s.sites[i].waits.toNat

/-- The free lanes. -/
def State.freeLanes (s : State) : Nat := ∑ l : LaneId, (decide (s.lanes[l].state = .free)).toNat

/-- What the follow-ups can still bring about. -/
def State.work (s : State) : Nat :=
  (s.agenda.map Task.weight).sum + 10 * (16 - s.link.completion.length) + 6 * s.waiters + 27 * s.freeLanes
    + 5000 * s.link.slots.length

theorem State.work_congr (ha : t.agenda = s.agenda) (hc : t.link.completion = s.link.completion)
    (hk : t.link.slots = s.link.slots) (hi : t.sites = s.sites) (hl : t.lanes = s.lanes) : t.work = s.work := by
  simp only [State.work, State.waiters, State.freeLanes, ha, hc, hk, hi, hl]

theorem sum_insertTask (k : Task) (l : List Task) :
    ((insertTask k l).map Task.weight).sum = k.weight + (l.map Task.weight).sum := by
  induction l with
  | nil => rfl
  | cons u us ih =>
    rw [insertTask_cons]; split
    · rfl
    · simp only [List.map_cons, List.sum_cons, ih]; omega

theorem State.work_push (k : Task) : (s.push k).work = s.work + k.weight := by
  have hw : (s.push k).waiters = s.waiters := rfl
  have hl : (s.push k).freeLanes = s.freeLanes := rfl
  simp only [State.work, State.push_agenda, sum_insertTask, State.push_link, hw, hl]
  omega

/-- Two sums that differ in one term. -/
theorem sum_of_eq_off {n : Nat} (f g : Fin n → Nat) (i : Fin n) (h : ∀ j, j ≠ i → f j = g j) :
    ∑ j, f j + g i = ∑ j, g j + f i := by
  have hf := Finset.add_sum_erase Finset.univ f (Finset.mem_univ i)
  have hg := Finset.add_sum_erase Finset.univ g (Finset.mem_univ i)
  have hoff : ∑ j ∈ Finset.univ.erase i, f j = ∑ j ∈ Finset.univ.erase i, g j :=
    Finset.sum_congr rfl fun j hj => h j (Finset.ne_of_mem_erase hj)
  omega

theorem State.work_modSite (i : SiteId) (f : Site → Site) :
    (s.modSite i f).work + 6 * s.sites[i].waits.toNat = s.work + 6 * (f s.sites[i]).waits.toNat := by
  have hoff := sum_of_eq_off (fun j => ((s.modSite i f).sites[j]).waits.toNat) (fun j => s.sites[j].waits.toNat) i
    fun j hj => by rw [State.modSite_sites, upd_get, if_neg (Ne.symm hj)]
  simp only [State.modSite_get] at hoff
  have hw : (s.modSite i f).waiters + s.sites[i].waits.toNat = s.waiters + (f s.sites[i]).waits.toNat := hoff
  have hl : (s.modSite i f).freeLanes = s.freeLanes := rfl
  simp only [State.work, State.modSite_agenda, State.modSite_link, hl]
  omega

theorem State.work_modLane (l : LaneId) (f : Lane → Lane) :
    (s.modLane l f).work + 27 * (decide (s.lanes[l].state = .free)).toNat
      = s.work + 27 * (decide ((f s.lanes[l]).state = .free)).toNat := by
  have hoff := sum_of_eq_off (fun k => (decide (((s.modLane l f).lanes[k]).state = .free)).toNat)
    (fun k => (decide (s.lanes[k].state = .free)).toNat) l
    fun k hk => by rw [State.modLane_lanes, upd_get, if_neg (Ne.symm hk)]
  simp only [State.modLane_get] at hoff
  have hl : (s.modLane l f).freeLanes + (decide (s.lanes[l].state = .free)).toNat
      = s.freeLanes + (decide ((f s.lanes[l]).state = .free)).toNat := hoff
  have hw : (s.modLane l f).waiters = s.waiters := rfl
  simp only [State.work, State.modLane_agenda, State.modLane_link, hw]
  omega

/-- A part without follow-ups and without a waiting frame has little work before it. -/
theorem State.work_le (ha : s.agenda = []) (hs : s.link.slots = []) : s.work ≤ 616 := by
  have hw : s.waiters ≤ 4 := by
    have := Finset.sum_le_card_nsmul Finset.univ (fun i : SiteId => s.sites[i].waits.toNat) 1 fun i _ => Bool.toNat_le _
    unfold State.waiters; simpa using this
  have hl : s.freeLanes ≤ 16 := by
    have := Finset.sum_le_card_nsmul Finset.univ (fun l : LaneId => (decide (s.lanes[l].state = .free)).toNat) 1
      fun l _ => Bool.toNat_le _
    unfold State.freeLanes; simpa using this
  simp only [State.work, ha, hs, List.map_nil, List.sum_nil, List.length_nil]
  omega

/-! ### What a function adds -/

/-- The work grows by at most `n`, and no arm line is asserted. -/
structure Grows (n : Int) (s t : State) : Prop where
  work : (t.work : Int) ≤ s.work + n
  arms : ∀ p : PortId, t.ports[p].arm = true → s.ports[p].arm = true

theorem Grows.refl (s : State) : Grows 0 s s := ⟨by omega, fun _ h => h⟩

/-- What is added after what was added before. -/
theorem Grows.comp {a b : Int} (h' : Grows b t u) (h : Grows a s t) : Grows (a + b) s u :=
  ⟨by have := h.work; have := h'.work; omega, fun p hp => h.arms p (h'.arms p hp)⟩

/-- The same, under a number that suffices. -/
theorem Grows.after {a b n : Int} (h' : Grows b t u) (h : Grows a s t) (hn : a + b ≤ n := by decide) : Grows n s u :=
  ⟨by have := h.work; have := h'.work; omega, fun p hp => h.arms p (h'.arms p hp)⟩

theorem Grows.mono {a b : Int} (h : Grows a s t) (hab : a ≤ b) : Grows b s t :=
  ⟨by have := h.work; omega, h.arms⟩

theorem ite_grows {n : Int} (c : Prop) [Decidable c] (ht : Grows n s t) (hu : Grows n s u) :
    Grows n s (if c then t else u) := by
  split
  · exact ht
  · exact hu

theorem Calm.work_le (h : Calm s t) : t.work ≤ s.work := by
  cases h with
  | aside hlink hsites _ hlanes _ _ _ _ hagenda =>
    exact Nat.le_of_eq (State.work_congr hagenda (by rw [hlink]) (by rw [hlink]) hsites hlanes)
  | link f _ hslots _ hcompletion => exact Nat.le_of_eq (State.work_congr rfl hcompletion hslots rfl rfl)
  | enter d hfree =>
    have hw : (s.modLink fun k => { k with completion := k.completion ++ [d] }).waiters = s.waiters := rfl
    have hl : (s.modLink fun k => { k with completion := k.completion ++ [d] }).freeLanes = s.freeLanes := rfl
    simp only [State.work, hw, hl, State.modLink_agenda, State.modLink_link, List.length_append]
    omega
  | notice n =>
    unfold State.notice; split
    · exact Nat.le_of_eq (State.work_congr rfl rfl rfl rfl rfl)
    · exact le_rfl
  | site i f _ hwaits =>
    have hsite := State.work_modSite (s := s) i f
    cases hf : (f s.sites[i]).waits with
    | true => rw [hf, hwaits hf] at hsite; omega
    | false => rw [hf] at hsite; simp only [Bool.toNat_false] at hsite; omega
  | accept i st => exact (Nat.add_right_cancel (State.work_modSite (s := s) i _)).le
  | lane l f _ hstate =>
    have hlane := State.work_modLane (s := s) l f
    rw [hstate] at hlane; omega
  | load l ld => exact (Nat.add_right_cancel (State.work_modLane (s := s) l _)).le
  | route l st => exact (Nat.add_right_cancel (State.work_modLane (s := s) l _)).le
  | grant l r =>
    have hlane := State.work_modLane (s := s) l fun x => { x with state := .inUse, route := some r }
    simp only [reduceCtorEq, decide_false, Bool.toNat_false] at hlane; omega
  | condemned l st hst =>
    have hlane := State.work_modLane (s := s) l fun x => { x with state := st }
    simp only [hst, decide_false, Bool.toNat_false] at hlane; omega
  | forget | port | ports | health | wear | store | results => exact Nat.le_of_eq (State.work_congr rfl rfl rfl rfl rfl)

theorem Calm.arms (h : Calm s t) (p : PortId) (hp : t.ports[p].arm = true) : s.ports[p].arm = true := by
  cases h with
  | aside _ _ hports => rw [hports] at hp; exact hp
  | notice n => rw [State.notice_ports] at hp; exact hp
  | port q f harm =>
    rw [State.modPort_ports, upd_get] at hp; split at hp
    · next e => subst e; exact harm hp
    · exact hp
  | ports f harm => simpa [harm] using hp
  | link | enter | forget | site | accept | lane | load | route | grant | condemned | health | wear | store | results =>
    exact hp

theorem Calm.grows (h : Calm s t) : Grows 0 s t := ⟨by have := h.work_le; omega, h.arms⟩

theorem Calms.grows (h : Calms s t) : Grows 0 s t := by
  induction h with
  | refl => exact Grows.refl s
  | tail _ h ih => exact h.grows.comp ih

/-- What one change adds at most, the changes of a list add at most so often. -/
theorem forEach_grows {α : Type} {n : Nat} (f : α → State → State) (h : ∀ a t, Grows n t (f a t)) (l : List α) (s : State) :
    Grows (n * l.length : Nat) s (forEach l f s) := by
  induction l generalizing s with
  | nil => exact (Grows.refl s).mono (by simp)
  | cons a l ih =>
    refine ((ih (f a s)).comp (h a s)).mono ?_
    rw [List.length_cons, Nat.mul_succ]; push_cast; omega

/-- A site record changes and no step of it waits for its block afterwards; if one did, that is work less. -/
theorem State.modSite_grows (i : SiteId) (f : Site → Site) {a b : Bool} (ha : s.sites[i].waits = a)
    (hb : (f s.sites[i]).waits = b) : Grows (6 * b.toNat - 6 * a.toNat) s (s.modSite i f) := by
  refine ⟨?_, fun _ hp => hp⟩
  have hsite := State.work_modSite (s := s) i f
  rw [ha, hb] at hsite; omega

theorem State.modSite_grows_still (i : SiteId) (f : Site → Site) (h : (f s.sites[i]).waits = false) :
    Grows 0 s (s.modSite i f) := (State.modSite_grows i f rfl h).mono (by simp only [Bool.toNat_false]; omega)

theorem State.push_grows (k : Task) {n : Int} (h : (k.weight : Int) = n := by rfl) : Grows n s (s.push k) :=
  ⟨by rw [State.work_push]; omega, fun _ hp => hp⟩

theorem State.pushIfZero_grows (d : Duration) (k : Task) {n : Int} (h : (k.weight : Int) = n := by rfl) :
    Grows n s (s.pushIfZero d k) := by
  unfold State.pushIfZero
  exact ite_grows _ (State.push_grows k h) ((Grows.refl s).mono (by omega))

theorem State.noteClosure_grows (i : SiteId) (c : Cause) : Grows 1 s (s.noteClosure i c) := by
  unfold State.noteClosure
  exact ite_grows _ ((Grows.refl s).mono (by decide)) (State.push_grows _)

/-! ### Steps -/

/-- The phase of the running step is the site's waiting. -/
theorem Site.waits_of_running {x : Site} {ph : Phase} {n : Nat} (h : x.running = some ⟨.active ph, n⟩) :
    x.waits = ph.waits := by
  unfold Site.waits; rw [h]

theorem State.active_waits {i : SiteId} {st : Step} {ph : Phase} {n : Nat} (h : s.active i = some (st, ph, n)) :
    s.sites[i].waits = ph.waits := by
  unfold State.active at h
  split at h
  · next hrun => cases h; exact Site.waits_of_running hrun
  · cases h

/-- A step in another phase that waits for nothing of its block. -/
theorem Site.waits_setPhase {x : Site} {ph : Phase} (h : ph.waits = false) :
    Site.waits { x with running := x.running.map fun r => { r with progress := .active ph } } = false := by
  unfold Site.waits
  cases x.running with
  | none => rfl
  | some r => exact h

theorem State.setPhase_grows (i : SiteId) (ph : Phase) : Grows 6 s (s.setPhase i ph) := by
  refine (State.modSite_grows i _ rfl rfl).mono ?_
  have hle := Bool.toNat_le (Site.waits { s.sites[i] with
    running := s.sites[i].running.map fun r => { r with progress := .active ph } })
  simp only at hle ⊢
  omega

/-- A step that waited for its block goes on. -/
theorem State.setPhase_waited {i : SiteId} {ph : Phase} (hw : s.sites[i].waits = true) (h : ph.waits = false) :
    Grows (-6) s (s.setPhase i ph) :=
  (State.modSite_grows i _ hw (Site.waits_setPhase h)).mono (by decide)

/-- A step that has ended waits for nothing. -/
theorem Site.waits_ended {x : Site} (n : Nat) : Site.waits { x with running := some ⟨.ended, n⟩ } = false := rfl

theorem State.finishStep_grows (i : SiteId) (o : StepOutcome) (f : Option Failure) (seq : Option (BitVec 16))
    (disc : List Byte) : Grows 1 s (s.finishStep i o f seq disc) := by
  unfold State.finishStep; split
  · exact .after (State.push_grows (n := 1) _) (Calm.grows (.site i _ (List.Sublist.refl _) (by exact nofun)))
  · exact (Grows.refl s).mono (by decide)

theorem State.endOk_grows (i : SiteId) : Grows 1 s (s.endOk i) := State.finishStep_grows _ _ _ _ _

/-- A flush waiter that completes no longer waits. -/
theorem State.endOk_waited {i : SiteId} {st : Step} {n : Nat} (h : s.active i = some (st, .flushWait, n)) :
    Grows (-5) s (s.endOk i) := by
  have hw : s.sites[i].waits = true := State.active_waits h
  unfold State.endOk State.finishStep; split
  · next r _ _ =>
    exact .after (State.push_grows (n := 1) _) (State.modSite_grows i _ hw (Site.waits_ended r.point))
  · next hno =>
    unfold State.active at h
    split at h
    · next hq hrun => exact (hno _ _ _ hq hrun).elim
    · cases h

theorem State.failLogic_grows (i : SiteId) (f : Failure) : Grows 2 s (s.failLogic i f) := by
  unfold State.failLogic
  exact .after (State.noteClosure_grows _ _) (.comp (State.finishStep_grows _ _ _ _ _)
    (Calm.grows (.site i _ (List.take_sublist _ _))))

theorem State.siteMovesOn_grows (i : SiteId) : Grows 10 s (s.siteMovesOn i) := by
  have hset (st : SiteState) : Grows 10 s (s.setSite i st) := (s.setSite_calms i st).grows.mono (by decide)
  unfold State.siteMovesOn; split
  · exact ite_grows _ (hset _) (ite_grows _ (hset _) (State.push_grows _))
  · exact State.push_grows _
  · exact (Grows.refl s).mono (by decide)

/-- A DONE that takes a free entry of the completion queue leaves ten less of work. -/
theorem State.enter_grows (d : DoneFrame) (h : s.completionFree = true) :
    Grows (-10) s (s.modLink fun k => { k with completion := k.completion ++ [d] }) := by
  refine ⟨?_, fun _ hp => hp⟩
  have hfree : s.link.completion.length < 16 := of_decide_eq_true h
  have hw : (s.modLink fun k => { k with completion := k.completion ++ [d] }).waiters = s.waiters := rfl
  have hl : (s.modLink fun k => { k with completion := k.completion ++ [d] }).freeLanes = s.freeLanes := rfl
  simp only [State.work, hw, hl, State.modLink_agenda, State.modLink_link, List.length_append, List.length_cons,
    List.length_nil]
  omega

theorem State.enterDone_grows (d : DoneFrame) (h : s.completionFree = true) : Grows 0 s (s.enterDone d) := by
  have henter := State.enter_grows d h
  unfold State.enterDone; simp only; split
  · refine .after (State.push_grows (n := 1) _) (.comp (Calm.grows (.link _)) (.comp (Calm.grows (.site d.site _ ?_ ?_)) henter))
    · exact List.tail_sublist _
    · exact nofun
  · refine .after (State.siteMovesOn_grows _) (.comp (Calm.grows (.site d.site _ ?_ ?_)) henter)
    · exact List.tail_sublist _
    · exact nofun

theorem State.handleDone_grows (d : DoneFrame) : Grows 0 s (s.handleDone d) := by
  unfold State.handleDone; split
  · next h => exact State.enterDone_grows d (Bool.and_eq_true_iff.mp h).1
  · exact Calm.grows (.link _)

theorem State.admitDone_grows : Grows 0 s s.admitDone := by
  unfold State.admitDone; split
  · split
    · next h => exact .after (State.enterDone_grows _ h) (Calm.grows (.link _))
    · exact Grows.refl s
  · exact Grows.refl s

/-! ### Lanes and claims -/

theorem State.startSettle_grows (l : LaneId) (d : Duration) : Grows 2 s (s.startWait l .settle d) := by
  unfold State.startWait
  exact .after (State.pushIfZero_grows (n := 2) _ _) (Calm.grows (.lane l _))

theorem State.startEpisode_grows (l : LaneId) : Grows 27 s (s.startEpisode l) := by
  unfold State.startEpisode; simp only; split
  · exact .after (State.pushIfZero_grows (n := 27) _ _) (Calm.grows (.lane l _))
  · exact (Grows.refl s).mono (by decide)

/-- A lane that is given to a route is free no more. -/
theorem State.grant_grows (l : LaneId) (r : Route) (h : s.lanes[l].state = .free) :
    Grows (-27) s (s.modLane l fun x => { x with state := .inUse, route := some r }) := by
  refine ⟨?_, fun _ hp => hp⟩
  have hlane := State.work_modLane (s := s) l fun x => { x with state := .inUse, route := some r }
  rw [h] at hlane
  simp only [reduceCtorEq, decide_true, decide_false, Bool.toNat_true, Bool.toNat_false] at hlane
  omega

theorem State.obtainLane_grows (w : LaneWaiter) (l : LaneId) (h : s.qualifies l = true) : Grows 0 s (s.obtainLane w l) := by
  obtain ⟨hfree, hlive⟩ := Bool.and_eq_true_iff.mp h
  have hquiet : s.isLive l = false := by simpa using hlive
  unfold State.obtainLane; simp only
  refine .after (State.startEpisode_grows l) (.comp (Calms.grows (State.beginLoad_calms _ l _ (.inr ?_)))
    (.comp (State.grant_grows l _ ?_) (Calms.grows (.head (.site w.site _) (State.setPhase_calms _ _ _ rfl)))))
  · exact hquiet
  · exact of_decide_eq_true hfree

theorem State.lanePhase_grows (i : SiteId) : Grows 2 s (s.lanePhase i) := by
  unfold State.lanePhase; split
  · have hphase : Grows 0 s (s.setPhase i .laneWait) := Calms.grows (State.setPhase_calms _ _ _ rfl)
    simp only; split
    · exact .after (State.failLogic_grows _ _) hphase
    · split
      · next l hl =>
        refine .after (State.obtainLane_grows _ l (State.chooseLane_qualifies (l := l) ?_)) hphase
        split at hl
        · exact hl
        · cases hl
      · exact .after (Calm.grows .aside) hphase
  · exact (Grows.refl s).mono (by decide)

theorem State.freeClaim_grows (p : PortId) : Grows 2 s (s.freeClaim p) := by
  unfold State.freeClaim; split
  · exact (Calm.grows (.port p _)).mono (by decide)
  · exact .after (State.lanePhase_grows _) (Calm.grows (.port p _))

/-! ### The steps as they run -/

theorem State.switchClose_grows (l : LaneId) (p : Pin) (settle : Duration) : Grows 2 s (s.switchClose l p settle) := by
  unfold State.switchClose
  exact ite_grows _ (State.startSettle_grows _ _) ((Calms.grows (State.loadWhenQuiet_calms _ _ _)).mono (by decide))

theorem State.scanSwitch_grows (i : SiteId) (h : Handle) (p : Pin) (settle : Duration) :
    Grows 2 s (s.scanSwitch i h p settle) := by
  unfold State.scanSwitch; split
  · exact (Grows.refl s).mono (by decide)
  · next l _ =>
    have hroute : Grows 0 s (s.setRoute l .switching) := Calms.grows (State.setRoute_calms _ _ _ (by decide))
    refine ite_grows _ (.after (State.failLogic_grows _ _) (Calms.grows (State.giveBack_calms _ _))) (ite_grows _ ?_ ?_)
    · exact .after (State.switchClose_grows _ _ _) hroute
    · exact .after (Calms.grows (State.loadWhenQuiet_calms _ _ _)) hroute

/-- A TRIGGER that had waited for its block, or not, drives its line. -/
theorem State.assertTrigger_grows (i : SiteId) (tag : Byte) (p : PortId) (d : Duration) :
    Grows (3 - 6 * s.sites[i].waits.toNat) s (s.assertTrigger i tag p d) := by
  have hline (f : Port → Port) (harm : (f s.ports[p]).arm = true → s.ports[p].arm = true)
      (hdesc : (f s.ports[p]).desc = s.ports[p].desc ∨ p ≠ 0) : Grows 0 s (s.modPort p f) := Calm.grows (.port p f harm hdesc)
  unfold State.assertTrigger; simp only
  refine Grows.after (State.pushIfZero_grows (n := 3) _ _) (Grows.comp (State.modSite_grows i _ rfl
    (Site.waits_setPhase rfl)) (hline _ (fun h => h) (.inl rfl))) ?_
  simp only [State.modPort_sites, Bool.toNat_false]
  omega

theorem State.triggerPort_grows (i : SiteId) (tag : Byte) (h : Handle) (d : Duration) :
    Grows 3 s (s.triggerPort i tag h d) := by
  unfold State.triggerPort; split
  · exact (Grows.refl s).mono (by decide)
  · split
    · exact (Grows.refl s).mono (by decide)
    · refine ite_grows _ ((Calms.grows (State.setPhase_calms _ _ _ rfl)).mono (by decide))
        ((State.assertTrigger_grows _ _ _ _).mono (by omega))

theorem State.triggerPort_waited {i : SiteId} (hw : s.sites[i].waits = true) (tag : Byte) (h : Handle) (d : Duration) :
    Grows 0 s (s.triggerPort i tag h d) := by
  unfold State.triggerPort; split
  · exact Grows.refl s
  · split
    · exact Grows.refl s
    · refine ite_grows _ ((State.setPhase_waited hw rfl).mono (by decide)) ((State.assertTrigger_grows _ _ _ _).mono ?_)
      rw [hw]; decide

theorem State.goOnWithRoom_grows (i : SiteId) : Grows 3 s (s.goOnWithRoom i) := by
  unfold State.goOnWithRoom; split
  · exact (Calms.grows (State.startAcquisition_calms _ _ _ _ _ _)).mono (by decide)
  · split
    · exact .after (State.scanSwitch_grows _ _ _ _) (Calms.grows (State.setPhase_calms _ _ _ rfl))
    · exact (Grows.refl s).mono (by decide)
  · exact State.triggerPort_grows _ _ _ _
  · exact (Grows.refl s).mono (by decide)

/-- What goes on no longer waits for its block. -/
theorem State.goOnWithRoom_waited {i : SiteId} (hw : s.sites[i].waits = true) : Grows 0 s (s.goOnWithRoom i) := by
  unfold State.goOnWithRoom; split
  · exact Calms.grows (State.startAcquisition_calms _ _ _ _ _ _)
  · split
    · exact .after (State.scanSwitch_grows _ _ _ _) (State.setPhase_waited hw rfl)
    · exact Grows.refl s
  · exact State.triggerPort_waited hw _ _ _
  · exact Grows.refl s

theorem State.giveRoom_grows (i : SiteId) : Grows 3 s (s.giveRoom i) := by
  unfold State.giveRoom
  exact .after (State.goOnWithRoom_grows _) (Calms.grows (State.modRes_calms _ _ _))

theorem State.giveRoom_waited {i : SiteId} (hw : s.sites[i].waits = true) : Grows 0 s (s.giveRoom i) := by
  unfold State.giveRoom
  exact .after (State.goOnWithRoom_waited hw) (Calms.grows (State.modRes_calms _ _ _))

theorem State.askRoom_grows (i : SiteId) : Grows 9 s (s.askRoom i) := by
  have hphase : Grows 6 s (s.setPhase i .blockWait) := State.setPhase_grows _ _
  unfold State.askRoom
  exact ite_grows _ (hphase.mono (by decide)) (.after (State.giveRoom_grows _) hphase)

theorem State.serveWaiting_grows (i : SiteId) : Grows 0 s (s.serveWaiting i) := by
  unfold State.serveWaiting; split
  · next h => exact State.giveRoom_waited (State.active_waits h)
  · next h => exact (State.endOk_waited h).mono (by decide)
  · exact Grows.refl s

theorem State.closeNow_grows (i : SiteId) (c : Cause) : Grows 0 s (s.closeNow i c) := by
  have hclose : Grows 0 s (s.closeBlock i c) := Calms.grows (State.closeBlock_calms _ _ _)
  unfold State.closeNow
  exact ite_grows _ hclose (.after (State.serveWaiting_grows _) hclose)

/-! ### The start of each step kind -/

theorem State.startConnect_grows (i : SiteId) (h : Handle) (p : PortId) (claim : Duration) :
    Grows 5 s (s.startConnect i h p claim) := by
  have htimer (t : Option Timer) : Grows 0 s (s.modSite i fun y => { y with claimTimer := t }) := Calm.grows (.site i _)
  have hfail (f : Failure) : Grows 5 s (s.failLogic i f) := (State.failLogic_grows _ _).mono (by decide)
  unfold State.startConnect; simp only
  refine ite_grows _ (hfail _) (ite_grows _ (hfail _) ?_)
  split
  · exact .after (State.pushIfZero_grows (n := 3) _ _) (.comp (State.lanePhase_grows _) (.comp (Calm.grows (.port p _))
      (htimer _)))
  · exact ite_grows _ (hfail _) (.after (State.pushIfZero_grows (n := 3) _ _)
      (.comp (Calms.grows (State.setPhase_calms _ _ _ rfl)) (.comp (Calm.grows (.port p _)) (htimer _))))

theorem State.arm_work (l : LaneId) (p : PortId) : ((s.modPort p fun y => { y with arm := true }).modLane l fun x =>
    { x with route := x.route.map fun r => { r with state := .live } }).work = s.work :=
  (Nat.add_right_cancel (State.work_modLane (s := s.modPort p fun y => { y with arm := true }) l _)).trans
    (State.work_congr rfl rfl rfl rfl rfl)

/-- An ARM asserts an arm line, so its work is told alone. -/
theorem State.startArm_work (i : SiteId) (h : Handle) : ((s.startArm i h).work : Int) ≤ s.work + 2 := by
  unfold State.startArm; split
  · exact (State.failLogic_grows _ _).work
  · next l r _ =>
    split
    · exact (State.failLogic_grows _ _).work
    · split
      · rw [State.setRoute_live]
        exact (State.endOk_grows i).work.trans (by rw [State.arm_work]; omega)
      · exact (State.endOk_grows i).work.trans (by omega)

theorem State.startDisarm_grows (i : SiteId) (h : Handle) : Grows 2 s (s.startDisarm i h) := by
  unfold State.startDisarm; split
  · exact State.failLogic_grows _ _
  · next l r _ =>
    have hdisarm : Grows 0 s (s.disarm l) := Calms.grows (State.disarm_calms _ _)
    refine ite_grows _ (ite_grows _ ?_ ?_) ((State.endOk_grows _).mono (by decide))
    · exact .after (Calms.grows (State.startQuiet_calms _ _ _)) (.comp (Calms.grows (State.setPhase_calms _ _ _ rfl)) hdisarm)
    · exact .after (State.endOk_grows _) (.comp (Calms.grows (State.setRoute_calms _ _ _ (by decide))) hdisarm)

theorem State.startRelease_grows (i : SiteId) (h : Handle) : Grows 3 s (s.startRelease i h) := by
  unfold State.startRelease; split
  · next l r _ =>
    have hphase : Grows 0 s (s.setPhase i .releasing) := Calms.grows (State.setPhase_calms _ _ _ rfl)
    refine ite_grows _ ?_ (.after (Calms.grows (State.enterOpening_calms _ _)) hphase)
    have hdisarm := Grows.comp (Calms.grows (State.disarm_calms (s.setPhase i .releasing) l)) hphase
    exact ite_grows _ (.after (Calms.grows (State.startQuiet_calms _ _ _)) hdisarm)
      (.after (Calms.grows (State.enterOpening_calms _ _)) hdisarm)
  · split
    · exact .after (State.endOk_grows _) (State.freeClaim_grows _)
    · exact (State.failLogic_grows _ _).mono (by decide)

theorem State.startMeter_grows (i : SiteId) (h : Handle) : Grows 9 s (s.startMeter i h) := by
  unfold State.startMeter; split
  · exact (State.failLogic_grows _ _).mono (by decide)
  · exact ite_grows _ ((State.failLogic_grows _ _).mono (by decide)) (State.askRoom_grows _)

theorem State.startTrigger_grows (i : SiteId) (h : Handle) : Grows 9 s (s.startTrigger i h) := by
  unfold State.startTrigger; split
  · exact (State.failLogic_grows _ _).mono (by decide)
  · exact ite_grows _ ((State.failLogic_grows _ _).mono (by decide)) (State.askRoom_grows _)

theorem State.startWaitStep_grows (i : SiteId) (d : Duration) : Grows 2 s (s.startWaitStep i d) := by
  unfold State.startWaitStep
  exact .after (State.pushIfZero_grows (n := 2) _ _) (.comp (Calms.grows (State.setPhase_calms _ _ _ rfl))
    (Calm.grows (.site i _)))

theorem State.startFlush_grows (i : SiteId) : Grows 7 s (s.startFlush i) := by
  unfold State.startFlush; split
  · exact .after (State.setPhase_grows _ _) (State.noteClosure_grows _ _)
  · exact (State.setPhase_grows _ _).mono (by decide)
  · exact (State.endOk_grows _).mono (by decide)

theorem State.startHead_work (i : SiteId) : ((s.startHead i).work : Int) ≤ s.work + 9 := by
  unfold State.startHead; split
  · omega
  · next st _ _ =>
    have hstart : Grows 0 s (s.modSite i fun x => { x with state := .running, running := some ⟨.active .starting, 0⟩ }) :=
      Calm.grows (.site i _ (List.Sublist.refl _) (by exact nofun))
    simp only
    cases st.body with
    | connect => exact (Grows.after (n := 9) (State.startConnect_grows _ _ _ _) hstart).work
    | arm =>
      have := hstart.work
      have := State.startArm_work (s := s.modSite i fun x =>
        { x with state := .running, running := some ⟨.active .starting, 0⟩ }) i ‹Handle›
      simp only
      omega
    | disarm => exact (Grows.after (n := 9) (State.startDisarm_grows _ _) hstart).work
    | release => exact (Grows.after (n := 9) (State.startRelease_grows _ _) hstart).work
    | measure => exact (Grows.after (n := 9) (State.startMeter_grows _ _) hstart).work
    | scan => exact (Grows.after (n := 9) (State.startMeter_grows _ _) hstart).work
    | trigger => exact (Grows.after (n := 9) (State.startTrigger_grows _ _) hstart).work
    | wait => exact (Grows.after (n := 9) (State.startWaitStep_grows _ _) hstart).work
    | flush => exact (Grows.after (n := 9) (State.startFlush_grows _) hstart).work

theorem State.tryStart_work (i : SiteId) : ((s.tryStart i).work : Int) ≤ s.work + 9 := by
  unfold State.tryStart; split
  · exact State.startHead_work i
  · omega

/-! ### Teardown and faults -/

theorem State.checkTeardown_grows (i : SiteId) : Grows 1 s (s.checkTeardown i) := by
  unfold State.checkTeardown; split
  · split
    · exact .after (Calms.grows (State.siteEnded_calms _ _)) (.comp (State.noteClosure_grows _ _)
        (Calms.grows (State.enterSafe_calms _ _ _)))
    · simp only
      refine .after (Calms.grows (State.siteEnded_calms _ i)) (.comp (Calms.grows (State.answerAbort_calms _ i))
        (.comp (ite_grows (n := 1) _ (State.noteClosure_grows _ _) ((Grows.refl _).mono (by decide)))
          (Calms.grows (ite_calms _ (State.enterSafe_calms _ i _) (.single (.site i _))))))
  · exact (Grows.refl s).mono (by decide)

theorem State.handOverAll_grows (i : SiteId) : Grows 24 s (s.handOverAll i) := by
  unfold State.handOverAll; simp only
  have hroutes : Grows 0 s (forEach ((s.disarmAll i).routeLanes i) State.handOver (s.disarmAll i)) :=
    Calms.grows ((State.disarmAll_calms _ i).trans (forEach_calms _ (fun l t => State.handOver_calms t l) _ _))
  generalize forEach ((s.disarmAll i).routeLanes i) State.handOver (s.disarmAll i) = v at hroutes ⊢
  have hlen : (v.routelessPorts i).length ≤ 12 := List.length_filter_le _ _
  refine Grows.after (forEach_grows (n := 2) _ (fun p t => State.freeClaim_grows p) _ _) hroutes ?_
  omega

theorem State.stopRunning_grows (i : SiteId) : Grows 0 s (s.stopRunning i) := Calms.grows (State.stopRunning_calms _ _)

theorem State.carryFault_grows (i : SiteId) (f : Failure) : Grows 1 s (s.carryFault i f) := by
  have hkeep (t : State) (g : Site → Site) (hg : (g t.sites[i]).waits = t.sites[i].waits) : Grows 0 t (t.modSite i g) :=
    (State.modSite_grows i g rfl hg).mono (by omega)
  unfold State.carryFault; simp only
  have hsafing := Grows.comp (hkeep (s.stopRunning i) (fun x =>
    { x with held := false, stopCause := none, state := .safing, teardown := some (.fault f) }) rfl)
    (State.stopRunning_grows (s := s) i)
  split
  · split
    · exact .after (hkeep _ _ rfl) hsafing
    · exact hsafing.mono (by decide)
  · exact .after (State.finishStep_grows _ _ _ _ _) (.comp (hkeep _ _ rfl) hsafing)
  · exact .after (State.finishStep_grows _ _ _ _ _) (.comp (State.modSite_grows_still i _ rfl) hsafing)
  · exact hsafing.mono (by decide)

theorem State.takeFault_grows (i : SiteId) (f : Failure) : Grows 26 s (s.takeFault i f) := by
  have htake : Grows 26 s ((s.carryFault i f).beginTeardown i) := by
    unfold State.beginTeardown
    exact .after (State.checkTeardown_grows i) (.comp (State.handOverAll_grows i) (State.carryFault_grows i f))
  unfold State.takeFault
  cases s.sites[i].state with
  | idle | running | held | stopped => exact htake
  | aborting | safing | safe => exact (Grows.refl s).mono (by decide)

/-! ### The drain -/

theorem State.claimExpired_grows (i : SiteId) : Grows 2 s (s.claimExpired i) := by
  unfold State.claimExpired; split
  · exact (Grows.refl s).mono (by decide)
  · have hstop : Grows 0 s (s.modSite i fun x => { x with claimTimer := none }) := Calm.grows (.site i _)
    simp only; split
    · exact .after (State.failLogic_grows _ _) (.comp (Calms.grows (State.leaveLists_calms _ _)) hstop)
    · exact .after (State.failLogic_grows _ _) (.comp (Calms.grows (State.leaveLists_calms _ _)) hstop)
    · exact hstop.mono (by decide)

theorem State.waitExpired_grows (i : SiteId) : Grows 1 s (s.waitExpired i) := by
  unfold State.waitExpired; split
  · exact (Grows.refl s).mono (by decide)
  · have hstop : Grows 0 s (s.modSite i fun x => { x with waitTimer := none }) := Calm.grows (.site i _)
    simp only; split
    · exact .after (State.endOk_grows _) hstop
    · exact hstop.mono (by decide)

theorem State.operateExpired_grows (l : LaneId) : Grows 2 s (s.operateExpired l) := by
  unfold State.operateExpired; split
  · exact .after (State.startSettle_grows _ _) (Calms.grows (State.endWait_calms _ _))
  · exact (Grows.refl s).mono (by decide)

theorem State.settleExpired_grows (l : LaneId) : Grows 1 s (s.settleExpired l) := by
  unfold State.settleExpired; split
  · have hready : Grows 0 s ((s.endWait l).setRoute l .ready) :=
      Calms.grows ((State.endWait_calms _ _).trans (State.setRoute_calms _ _ _ (by decide)))
    simp only; split
    · exact .after (State.endOk_grows _) hready
    · exact .after (Calms.grows (State.switchComplete_calms _ _)) hready
  · exact (Grows.refl s).mono (by decide)

theorem State.ocExpired_grows (l : LaneId) : Grows 26 s (s.ocExpired l) := by
  unfold State.ocExpired; split
  · exact (Grows.refl s).mono (by decide)
  · have hcount : Grows 0 s (s.modLane l fun x => { x with episode := none, latch := true }).countOvercurrent :=
      Calms.grows (.head (.lane l _) (State.countOvercurrent_calms _))
    simp only; split
    · exact hcount.mono (by decide)
    · exact .after (State.takeFault_grows _ _) (.comp (Calms.grows (State.notice_calms _ _)) hcount)

theorem State.doneExpired_grows (p : PortId) : Grows 2 s (s.doneExpired p) := by
  unfold State.doneExpired; split
  · exact .after (State.failLogic_grows _ _) (Calms.grows (.trans (State.endTriggerWait_calms _ p) (State.giveBack_calms _ _)))
  · exact (Grows.refl s).mono (by decide)

/-- Every follow-up but a release wait's end takes at least one off the work, itself included, where no frame waits. -/
theorem State.runTask_work (k : Task) (hk : k.weight < 5000) (hs : s.link.slots = []) :
    (s.runTask k).work < s.work + k.weight := by
  cases k with
  | next i => have := State.tryStart_work (s := s) i; simp only [State.runTask, Task.weight]; omega
  | done d => have := (State.handleDone_grows (s := s) d).work; simp only [State.runTask, Task.weight]; omega
  | closure i c => have := (State.closeNow_grows (s := s) i c).work; simp only [State.runTask, Task.weight]; omega
  | claimExpired i => have := (State.claimExpired_grows (s := s) i).work; simp only [State.runTask, Task.weight]; omega
  | waitExpired i => have := (State.waitExpired_grows (s := s) i).work; simp only [State.runTask, Task.weight]; omega
  | operateExpired l => have := (State.operateExpired_grows (s := s) l).work; simp only [State.runTask, Task.weight]; omega
  | settleExpired l => have := (State.settleExpired_grows (s := s) l).work; simp only [State.runTask, Task.weight]; omega
  | releaseExpired l => exact absurd hk (by simp [Task.weight])
  | ocExpired l => have := (State.ocExpired_grows (s := s) l).work; simp only [State.runTask, Task.weight]; omega
  | doneExpired p => have := (State.doneExpired_grows (s := s) p).work; simp only [State.runTask, Task.weight]; omega
  | dispatch => simp only [State.runTask, State.dispatchOne_nil _ hs, Task.weight]; omega
  | admitDone => have := (State.admitDone_grows (s := s)).work; simp only [State.runTask, Task.weight]; omega

/-- A drain that may run as many follow-ups as the work weighs runs them all. -/
theorem drain_agenda (n : Nat) (s : State) (h : s.work ≤ n) (hn : n < 5000) : (drain n s).agenda = [] := by
  induction n generalizing s with
  | zero =>
    cases hs : s.agenda with
    | nil => rw [drain_nil _ s hs]; exact hs
    | cons k ks =>
      have hpos := k.weight_pos
      simp only [State.work, hs, List.map_cons, List.sum_cons] at h
      omega
  | succ n ih =>
    cases hs : s.agenda with
    | nil => rw [drain_nil _ s hs]; exact hs
    | cons k ks =>
      have hw : ({ s with agenda := ks } : State).waiters = s.waiters := rfl
      have hl : ({ s with agenda := ks } : State).freeLanes = s.freeLanes := rfl
      have hpop : ({ s with agenda := ks } : State).work + k.weight = s.work := by
        simp only [State.work, hw, hl, hs, List.map_cons, List.sum_cons]; omega
      have hslots : s.link.slots = [] := by
        rw [State.work] at h; exact List.length_eq_zero_iff.mp (by omega)
      have hrun := State.runTask_work (s := { s with agenda := ks }) k (by omega) hslots
      rw [drain_cons n s k ks hs]
      exact ih _ (by omega) (by omega)

/-- A longer drain goes on from where a shorter one ended. -/
theorem drain_add (m n : Nat) (s : State) : drain (m + n) s = drain n (drain m s) := by
  induction m generalizing s with
  | zero => rw [Nat.zero_add]; rfl
  | succ m ih =>
    cases hs : s.agenda with
    | nil => rw [drain_nil _ s hs, drain_nil _ s hs, drain_nil _ s hs]
    | cons k ks => rw [Nat.succ_add, drain_cons _ s k ks hs, drain_cons m s k ks hs, ih]

/-- A bound above the work does not matter. -/
theorem drain_eq_of_work {m n : Nat} (h : s.work ≤ m) (hmn : m ≤ n) (hm : m < 5000) : drain n s = drain m s := by
  obtain ⟨k, rfl⟩ := Nat.exists_eq_add_of_le hmn
  rw [drain_add, drain_nil _ _ (drain_agenda m s h hm)]

end Sys2Proof.Machine
end


section
set_option Elab.async false
/-! # Faults and the teardown of a site (O37) -/

namespace Sys2Proof.Machine

variable {s t : State} {i : SiteId}

/-! ### What stands apart from what -/

/-- The notices after a notice, as an update of the link (R193). -/
theorem State.notice_eq (n : Notice) : s.notice n = s.modLink fun k =>
    if s.noticeMask.getLsbD n.kind.val then
      { k with notices := upd k.notices n.kind fun e => some { notice := n, repeated := e.isSome } }
    else k := by
  unfold State.notice
  split <;> rfl

theorem State.notice_modSite (n : Notice) (f : Site → Site) : (s.notice n).modSite i f = (s.modSite i f).notice n := by
  rw [State.notice_eq, State.notice_eq]; rfl

/-- A DONE that enters the completion queue stands apart from the notices. -/
theorem State.modLink_completion_notice (n : Notice) (ds : List DoneFrame) :
    (s.notice n).modLink (fun k => { k with completion := k.completion ++ ds }) =
      (s.modLink fun k => { k with completion := k.completion ++ ds }).notice n := by
  unfold State.notice
  split
  · next h => rw [if_pos (by exact h)]; rfl
  · next h => rw [if_neg (by exact h)]

/-- RESULTS after a site's open block closes (R138). -/
def closedResults (i : SiteId) (c : Cause) (r : Results) : Results :=
  match r.sites[i].pos with
  | .opened _ (x :: xs) =>
    let seq := r.sites[i].nextSeq
    let b : Block := { site := i, seq := seq, cause := c, records := x :: xs }
    let direct := decide (r.outbound.length < Config.outboundDepth) && r.waiting.isEmpty
    let v := upd r.sites i fun y =>
      { y with nextSeq := seq + 1, lastSeq := some seq, pos := if direct then .empty else .closedWaiting }
    if direct then { r with sites := v, outbound := r.outbound ++ [b] } else { r with sites := v, waiting := r.waiting ++ [b] }
  | _ => r

/-- The closing of a block changes RESULTS alone. -/
theorem State.closeBlock_eq (i : SiteId) (c : Cause) : s.closeBlock i c = { s with results := closedResults i c s.results } := by
  unfold State.closeBlock closedResults
  rcases s.results.sites[i].pos with _ | ⟨_, _ | ⟨x, xs⟩⟩ | _
  · rfl
  · rfl
  · simp only; split <;> rfl
  · rfl

/-- A block that closes while the outbound queue has room waits for none (R139). -/
theorem closedResults_waiting {c : Cause} {r : Results} (hw : r.waiting = []) (ho : r.outbound.length < 16) :
    (closedResults i c r).waiting = [] := by
  unfold closedResults
  split
  · simp only [hw, List.isEmpty_nil, Bool.and_true, Config.outboundDepth, ho, decide_true, if_true]
  · exact hw

/-- At a site without a running step a block closes and serves nobody. -/
theorem State.closeNow_idle (c : Cause) (h : s.sites[i].running = none) : s.closeNow i c = s.closeBlock i c := by
  have hrun : ((s.closeBlock i c).sites[i]).running = none := by rw [State.closeBlock_eq]; exact h
  unfold State.closeNow
  simp only; split
  · rfl
  · exact State.serveWaiting_idle _ _ hrun

/-- The first closing of a site's block at an event. -/
theorem State.noteClosure_push (c : Cause) (h : s.closing i = false) : s.noteClosure i c = s.push (.closure i c) := by
  unfold State.noteClosure
  rw [h]; rfl

/-- A closing that is noted is noted once. -/
theorem State.noteClosure_noted (c : Cause) (h : s.closing i = true) : s.noteClosure i c = s := by
  unfold State.noteClosure
  rw [if_pos h]

/-! ### DONE frames -/

theorem State.finishStep_eq {st : Step} {rest : List Step} {r : Running} (o : StepOutcome) (f : Option Failure)
    (seq : Option (BitVec 16)) (disc : List Byte) (hq : s.sites[i].queue = st :: rest) (hr : s.sites[i].running = some r) :
    s.finishStep i o f seq disc = (s.modSite i fun x => { x with running := some { r with progress := .ended } }).push
      (.done (makeDone i st r.point o f seq disc)) := by
  unfold State.finishStep
  simp only [hq, hr]

/-- A DONE that finds room enters the completion queue, and its site goes on (R8, R192). -/
theorem State.handleDone_room {d : DoneFrame} (hfree : s.link.completion.length < 16) (hd : s.link.doneWaiting = [])
    (hc : (s.sites[d.site]).carried = []) : s.handleDone d = ((s.modLink fun k =>
      { k with completion := k.completion ++ [d] }).modSite d.site fun x =>
      { x with queue := x.queue.tail, running := none }).siteMovesOn d.site := by
  unfold State.handleDone
  simp only [State.completionFree, Config.completionDepth, hfree, hd, decide_true, List.isEmpty_nil, Bool.and_self, if_true]
  unfold State.enterDone
  simp only [State.modLink_sites, hc]

/-! ### The routes of a site -/

/-- The owner of a route: its site and handle (R55). -/
def Route.owner (r : Route) : SiteId × Handle := (r.site, r.handle)

/-- Lanes hold routes of the same owners. -/
def State.sameOwners (s t : State) : Prop :=
  ∀ l : LaneId, (t.lanes[l].route).map Route.owner = (s.lanes[l].route).map Route.owner

theorem State.sameOwners.routeLanes (h : s.sameOwners t) : t.routeLanes i = s.routeLanes i := by
  unfold State.routeLanes
  congr 1
  funext l
  have hl := h l
  unfold Lane.ownedBy
  rcases hs : s.lanes[l].route with _ | r <;> rcases ht : t.lanes[l].route with _ | r' <;> rw [hs, ht] at hl
  · cases hl
  · cases hl
  · have hsite : r'.site = r.site := congrArg Prod.fst (Option.some.inj hl)
    simp only [hsite]

theorem State.sameOwners.routeLane (h : s.sameOwners t) (k : Handle) : t.routeLane i k = s.routeLane i k := by
  unfold State.routeLane
  congr 1
  funext l
  have hl := h l
  rcases hs : s.lanes[l].route with _ | r <;> rcases ht : t.lanes[l].route with _ | r' <;> rw [hs, ht] at hl
  · cases hl
  · cases hl
  · have howner : r'.site = r.site ∧ r'.handle = r.handle := Prod.mk.inj (Option.some.inj hl)
    simp only [howner.1, howner.2]

theorem State.sameOwners.routelessPorts (h : s.sameOwners t) (hclaim : ∀ p : PortId, t.ports[p].claim = s.ports[p].claim) :
    t.routelessPorts i = s.routelessPorts i := by
  unfold State.routelessPorts
  congr 1
  funext p
  rw [hclaim p]
  rcases s.ports[p].claim with _ | c
  · rfl
  · simp only [h.routeLane]

/-- A route's state changes, and no owner. -/
theorem State.modLane_sameOwners {l : LaneId} {f : Lane → Lane}
    (h : (f s.lanes[l]).route.map Route.owner = (s.lanes[l].route).map Route.owner) : s.sameOwners (s.modLane l f) := by
  intro k
  rw [State.modLane_lanes, upd_get]; split
  · next e => subst e; exact h
  · rfl

/-! ### Hand-over and the end of a teardown -/

theorem forEach_nil {α : Type} (f : α → State → State) (s : State) : forEach [] f s = s := rfl

theorem forEach_cons {α : Type} (f : α → State → State) (a : α) (l : List α) (s : State) :
    forEach (a :: l) f s = forEach l f (f a s) := rfl

/-- A site that holds no route and no claim hands nothing over (R85). -/
theorem State.handOverAll_none (hl : s.routeLanes i = []) (hp : s.routelessPorts i = []) : s.handOverAll i = s := by
  unfold State.handOverAll State.disarmAll
  simp only [hl, forEach_nil, hp]

/-- A site that holds one route and no claim hands over that route (R85). -/
theorem State.handOverAll_one {l : LaneId} (hl : s.routeLanes i = [l]) (ht : (s.disarmRoute l).handOver l = t)
    (howners : s.sameOwners t) (hclaim : ∀ p : PortId, t.ports[p].claim = s.ports[p].claim)
    (hp : s.routelessPorts i = []) : s.handOverAll i = t := by
  have hdisarm : (s.disarmRoute l).routeLanes i = [l] := by
    unfold State.disarmRoute; split
    · split <;> exact hl
    · exact hl
  have hports : t.routelessPorts i = [] := (howners.routelessPorts hclaim).trans hp
  unfold State.handOverAll State.disarmAll
  simp only [hl, forEach_nil, forEach_cons, hdisarm, ht, hports]

theorem State.allStuck_none (hl : s.routeLanes i = []) : s.allStuck i = true := by
  unfold State.allStuck; rw [hl]; rfl

theorem State.siteEnded_none (h : s.resetReq = none) : s.siteEnded i = s := by
  unfold State.siteEnded; rw [h]

/-- The teardown of a fault at a site without routes: SAFE with its cause (R88). -/
theorem State.checkTeardown_fault {f : Failure} (hst : s.sites[i].state = .safing)
    (ht : s.sites[i].teardown = some (.fault f)) (hl : s.routeLanes i = []) (hr : s.resetReq = none) :
    s.checkTeardown i = (s.enterSafe i f).noteClosure i .ended := by
  unfold State.checkTeardown
  simp only [State.tearing, hst, decide_true, Bool.or_true, State.allStuck_none hl, Bool.and_self, if_true, ht]
  refine State.siteEnded_none ?_
  rw [State.noteClosure_resetReq]
  unfold State.enterSafe
  rw [State.notice_resetReq, State.modSite_resetReq, hr]

/-- A route that is not STUCK keeps its site's teardown going (R88). -/
theorem State.checkTeardown_going {l : LaneId} {r : Route} (hl : l ∈ s.routeLanes i) (hr : s.lanes[l].route = some r)
    (hst : r.state ≠ .stuck) : s.checkTeardown i = s := by
  have hgoing : s.allStuck i = false := by
    unfold State.allStuck
    rw [List.all_eq_false]
    refine ⟨l, hl, ?_⟩
    rw [Lane.routeIs, hr]
    simpa using hst
  unfold State.checkTeardown
  rw [hgoing, Bool.and_false, if_neg (by decide)]

/-! ### The arm lines of a site that is handed over (R85 step 2) -/

theorem State.stopRunning_lanes (i : SiteId) : (s.stopRunning i).lanes = s.lanes := by
  unfold State.stopRunning; split
  · rfl
  · rfl
  · rfl
  · rfl
  · rfl
  · rfl
  · split <;> rfl
  · rfl

theorem State.finishStep_lanes (o : StepOutcome) (f : Option Failure) (seq : Option (BitVec 16)) (disc : List Byte) :
    (s.finishStep i o f seq disc).lanes = s.lanes := by
  unfold State.finishStep; split <;> rfl

theorem State.carryFault_lanes (i : SiteId) (f : Failure) : (s.carryFault i f).lanes = s.lanes := by
  unfold State.carryFault; simp only; split
  · split <;> exact State.stopRunning_lanes i
  · rw [State.finishStep_lanes]; exact State.stopRunning_lanes i
  · rw [State.finishStep_lanes]; exact State.stopRunning_lanes i
  · exact State.stopRunning_lanes i

theorem State.disarmRoute_lanes (l : LaneId) : (s.disarmRoute l).lanes = s.lanes := by
  unfold State.disarmRoute; split
  · split <;> rfl
  · rfl

/-- Once every route of a list is disarmed, the arm line of a LIVE one is deasserted. -/
theorem forEach_disarmRoute_arm {l : LaneId} {r : Route} (ls : List LaneId) (s : State) (hl : l ∈ ls)
    (hr : s.lanes[l].route = some r) (hst : r.state = .live) : ((forEach ls State.disarmRoute s).ports[r.port]).arm = false := by
  induction ls generalizing s with
  | nil => cases hl
  | cons k ks ih =>
    have hlanes : (s.disarmRoute k).lanes[l].route = some r := by rw [State.disarmRoute_lanes]; exact hr
    rcases List.mem_cons.mp hl with rfl | hks
    · have hdone : ((s.disarmRoute l).ports[r.port]).arm = false := State.disarmRoute_arm s l r hlanes hst
      have hrest := (Calms.grows (forEach_calms _ (fun k t => t.disarmRoute_calms k) ks (s.disarmRoute l))).arms r.port
      exact Bool.eq_false_iff.mpr fun harm => by rw [hrest harm] at hdone; cases hdone
    · exact ih _ hks hlanes

/-- After the hand-over of a site no port of a route that was LIVE is armed (R37, R85 step 2). -/
theorem State.handOverAll_arm {l : LaneId} {r : Route} (hr : s.lanes[l].route = some r) (hi : r.site = i)
    (hst : r.state = .live) : ((s.handOverAll i).ports[r.port]).arm = false := by
  have hdisarmed : ((s.disarmAll i).ports[r.port]).arm = false :=
    forEach_disarmRoute_arm _ s (State.mem_routeLanes.mpr ⟨r, hr, hi⟩) hr hst
  have hroutes := (Calms.grows (forEach_calms _ (fun l t => State.handOver_calms t l) ((s.disarmAll i).routeLanes i)
    (s.disarmAll i))).arms r.port
  unfold State.handOverAll
  simp only
  generalize forEach ((s.disarmAll i).routeLanes i) State.handOver (s.disarmAll i) = v at hroutes ⊢
  have hclaims := (forEach_grows (n := 2) _ (fun p t => State.freeClaim_grows p) (v.routelessPorts i) v).arms r.port
  exact Bool.eq_false_iff.mpr fun harm => by rw [hroutes (hclaims harm)] at hdisarmed; cases hdisarmed

/-! ### A fault at a site -/

theorem State.push_routeLanes (k : Task) : (s.push k).routeLanes i = s.routeLanes i := rfl

theorem State.push_routelessPorts (k : Task) : (s.push k).routelessPorts i = s.routelessPorts i := rfl

theorem State.modSite_routeLanes (f : Site → Site) : (s.modSite i f).routeLanes i = s.routeLanes i := rfl

theorem State.modSite_routelessPorts (f : Site → Site) : (s.modSite i f).routelessPorts i = s.routelessPorts i := rfl

theorem State.modSite_modLink (f : Site → Site) (g : Link → Link) :
    (s.modSite i f).modLink g = (s.modLink g).modSite i f := rfl

theorem State.push_modSite (k : Task) (f : Site → Site) : (s.push k).modSite i f = (s.modSite i f).push k := rfl

/-- The follow-ups of an event without others: a DONE, then the closing of its site's block. -/
theorem insertTask_done_closure (d : DoneFrame) (c : Cause) (hd : d.site = i) :
    insertTask (.closure i c) [.done d] = [.done d, .closure i c] := by
  rw [insertTask_cons, if_neg (by simp only [Task.rank, hd]; omega)]
  rfl

/-- A running WAIT is stopped with its timer (R17). -/
theorem State.stopRunning_wait {st : Step} {rest : List Step} {n : Nat} (hq : s.sites[i].queue = st :: rest)
    (hr : s.sites[i].running = some ⟨.active .waiting, n⟩) :
    s.stopRunning i = s.modSite i fun x => { x with waitTimer := none } := by
  have hactive : s.active i = some (st, .waiting, n) := by unfold State.active; simp only [hq, hr]
  unfold State.stopRunning
  rw [hactive]

/-- A site without a running step has nothing to stop. -/
theorem State.stopRunning_none (hr : s.sites[i].running = none) : s.stopRunning i = s := by
  have hactive : s.active i = none := by
    unfold State.active; split
    · next h => rw [hr] at h; cases h
    · rfl
  unfold State.stopRunning
  rw [hactive]

/-- A running WAIT carries the fault: its DONE is FAILED and lists the steps behind it (R12). -/
theorem State.carryFault_wait {tag : Byte} {d : Duration} {rest : List Step} {n : Nat} (f : Failure)
    (hq : s.sites[i].queue = ⟨tag, .wait d⟩ :: rest) (hr : s.sites[i].running = some ⟨.active .waiting, n⟩) :
    s.carryFault i f = (s.modSite i fun x => { x with
        queue := [⟨tag, .wait d⟩], running := some ⟨.ended, n⟩, held := false, waitTimer := none, stopCause := none,
        state := .safing, teardown := some (.fault f) }).push
      (.done ⟨i, tag, .failed, some f, 0, 0, none, rest.map Step.tag⟩) := by
  unfold State.carryFault
  rw [State.stopRunning_wait hq hr]
  simp only [hq, hr, State.modSite_modSite]
  rw [State.finishStep_eq (st := ⟨tag, .wait d⟩) (rest := []) (r := ⟨.active .waiting, n⟩) _ _ _ _
    (by rw [State.modSite_get]) (by rw [State.modSite_get]; exact hr), State.modSite_modSite]
  rfl

/-- A site at rest with an empty queue takes the fault without a DONE (R12). -/
theorem State.carryFault_none (f : Failure) (hq : s.sites[i].queue = []) (hr : s.sites[i].running = none) :
    s.carryFault i f = s.modSite i fun x =>
      { x with held := false, stopCause := none, state := .safing, teardown := some (.fault f) } := by
  unfold State.carryFault
  rw [State.stopRunning_none hr]
  simp only [hq, hr]

theorem State.takeFault_open (f : Failure) (h : s.sites[i].state = .idle ∨ s.sites[i].state = .running ∨
    s.sites[i].state = .held ∨ s.sites[i].state = .stopped) : s.takeFault i f = (s.carryFault i f).beginTeardown i := by
  unfold State.takeFault
  rcases h with h | h | h | h <;> rw [h]

/-- A fault's teardown at a site that holds nothing ends at once in SAFE (R85, R88). -/
theorem State.beginTeardown_fault_none {f : Failure} (hst : s.sites[i].state = .safing)
    (ht : s.sites[i].teardown = some (.fault f)) (hl : s.routeLanes i = []) (hp : s.routelessPorts i = [])
    (hr : s.resetReq = none) : s.beginTeardown i = (s.enterSafe i f).noteClosure i .ended := by
  unfold State.beginTeardown
  rw [State.handOverAll_none hl hp, State.checkTeardown_fault hst ht hl hr]

/-- A fault at a site that runs a WAIT and holds no route: SAFE at once, with a DONE and a closing to come. -/
theorem State.takeFault_wait {tag : Byte} {d : Duration} {rest : List Step} {n : Nat} (f : Failure)
    (hst : s.sites[i].state = .running) (hq : s.sites[i].queue = ⟨tag, .wait d⟩ :: rest)
    (hr : s.sites[i].running = some ⟨.active .waiting, n⟩) (ha : s.agenda = []) (hl : s.routeLanes i = [])
    (hp : s.routelessPorts i = []) (hreset : s.resetReq = none) :
    s.takeFault i f = (((s.modSite i fun x => { x with
        queue := [⟨tag, .wait d⟩], running := some ⟨.ended, n⟩, held := false, waitTimer := none, state := .safe,
        stopCause := some f, teardown := none }).notice (.siteState i .safe (some f))).push
      (.done ⟨i, tag, .failed, some f, 0, 0, none, rest.map Step.tag⟩)).push (.closure i .ended) := by
  rw [State.takeFault_open f (.inr (.inl hst)), State.carryFault_wait f hq hr]
  rw [State.beginTeardown_fault_none (f := f) (by rw [State.push_sites, State.modSite_get])
    (by rw [State.push_sites, State.modSite_get]) (by rw [State.push_routeLanes, State.modSite_routeLanes, hl])
    (by rw [State.push_routelessPorts, State.modSite_routelessPorts, hp])
    (by rw [State.push_resetReq, State.modSite_resetReq, hreset])]
  rw [State.noteClosure_push]
  · unfold State.enterSafe
    rw [State.push_modSite, State.modSite_modSite, State.notice_eq, State.notice_eq]
    rfl
  · unfold State.enterSafe State.closing
    simp [ha, Task.closes]

/-! ### A DONE and a closing at the end of an event -/

theorem State.agenda_eta (h : s.agenda = []) : ({ s with agenda := [] } : State) = s := by
  cases s; simp only at h; subst h; rfl

theorem State.siteMovesOn_stays (h : s.sites[i].state ≠ .running) (h' : s.sites[i].state ≠ .idle) :
    s.siteMovesOn i = s := by
  unfold State.siteMovesOn
  split
  · next hs => exact absurd hs h
  · next hs => exact absurd hs h'
  · rfl

/-- A DONE with room at a site that does not go on, then the closing of its block. -/
theorem drain_done_closure {d : DoneFrame} (c : Cause) (n : Nat) (hd : d.site = i) (ha : s.agenda = [])
    (hfree : s.link.completion.length < 16) (hw : s.link.doneWaiting = []) (hc : s.sites[i].carried = [])
    (hst : s.sites[i].state ≠ .running) (hst' : s.sites[i].state ≠ .idle) :
    drain (n + 2) ((s.push (.done d)).push (.closure i c)) = ((s.modLink fun k =>
      { k with completion := k.completion ++ [d] }).modSite i fun x =>
      { x with queue := x.queue.tail, running := none }).closeBlock i c := by
  subst hd
  generalize hu : (s.modLink fun k => { k with completion := k.completion ++ [d] }).modSite d.site (fun x =>
    { x with queue := x.queue.tail, running := none }) = u
  have hua : u.agenda = [] := by rw [← hu]; exact ha
  have hdone : ({ s with agenda := [.closure d.site c] } : State).handleDone d = u.push (.closure d.site c) := by
    refine (State.handleDone_room (s := { s with agenda := [.closure d.site c] }) hfree hw hc).trans ?_
    rw [State.siteMovesOn_stays]
    · rw [← hu]; simp only [State.push, State.modSite_agenda, State.modLink_agenda, ha]; rfl
    · rw [State.modSite_get]; exact hst
    · rw [State.modSite_get]; exact hst'
  rw [drain_cons (n + 1) _ (.done d) [.closure d.site c] (by
    rw [State.push_agenda, State.push_agenda, ha, insertTask_nil, insertTask_done_closure d c rfl])]
  change drain (n + 1) (({ s with agenda := [.closure d.site c] } : State).handleDone d) = _
  rw [hdone, drain_cons n _ (.closure d.site c) [] (by rw [State.push_agenda, hua, insertTask_nil]), State.push_clear u _ hua]
  change drain n (u.closeNow d.site c) = _
  rw [State.closeNow_idle _ (by rw [← hu, State.modSite_get]), drain_nil _ _ (by rw [State.closeBlock_eq]; exact hua)]

theorem State.notice_link_frame {β : Type} (g : Link → β) (h : ∀ (k : Link) (v : Vector (Option NoticeEntry) 9),
    g { k with notices := v } = g k) (n : Notice) : g (s.notice n).link = g s.link := by
  rw [State.notice_eq, State.modLink_link]
  split
  · exact h _ _
  · rfl

/-! ### A route that is handed over -/

/-- A READY route on a quiet lane is handed over into OPENING, with the load of its pins (R86). -/
theorem State.handOverAll_ready {l : LaneId} {r : Route} (hl : s.routeLanes i = [l]) (hp : s.routelessPorts i = [])
    (hr : s.lanes[l].route = some r) (hst : r.state = .ready) (hq : s.isLive l = false) (hpins : s.lanes[l].pinRelays ≠ []) :
    s.handOverAll i =
      s.modLane l fun x => { Lane.pinsOpening .opening x with route := some { r with state := .opening } } := by
  have hlive : r.state ≠ .live := by rw [hst]; decide
  refine State.handOverAll_one hl ?_ (State.modLane_sameOwners (by rw [hr]; rfl)) (fun _ => rfl) hp
  rw [State.disarmRoute_of_not_live hr hlive, State.handOver, hr]
  simp only [hst]
  exact State.enterOpening_quiet hr hlive hq hpins

/-- Settles O37: each shape of a site that takes a fault, and the arm lines by the hand-over. -/
theorem faultTakesSite : Obligations.FaultTakesSite := by
  intro s i f
  refine ⟨fun tag d rest n hb hout hst hq hr hc hfree hl hp hreset => ?_,
    fun l r hst hq hr hl hroute hready hquiet hpins hp => ?_, fun hst => ?_, fun hst l r hr hi hlive => ?_⟩
  · obtain ⟨ha, hslots, hd, hw⟩ := hb
    generalize hD : (⟨i, tag, .failed, some f, 0, 0, none, rest.map Step.tag⟩ : DoneFrame) = D
    have hsite : D.site = i := by rw [← hD]
    rw [State.takeFault_wait f hst hq hr ha hl hp hreset, hD]
    refine State.finish_of_drain_noBacklog (drain_done_closure .ended 4094 hsite ?_ ?_ ?_ ?_ ?_ ?_ |>.trans ?_) ?_
    · rw [State.notice_agenda]; exact ha
    · rw [State.notice_link_frame Link.completion (fun _ _ => rfl)]; exact hfree
    · rw [State.notice_link_frame Link.doneWaiting (fun _ _ => rfl)]; exact hd
    · rw [State.notice_sites, State.modSite_get]; exact hc
    · rw [State.notice_sites, State.modSite_get]; exact nofun
    · rw [State.notice_sites, State.modSite_get]; exact nofun
    · congr 1
      rw [State.modLink_completion_notice, State.notice_modSite]
      congr 1
      rw [State.modSite_modLink, State.modSite_modSite]
      rfl
    · rw [State.closeBlock_eq]
      refine ⟨by rw [State.notice_agenda]; exact ha, ?_, ?_, ?_⟩
      · rw [State.notice_link_frame Link.slots (fun _ _ => rfl)]; exact hslots
      · rw [State.notice_link_frame Link.doneWaiting (fun _ _ => rfl)]; exact hd
      · exact closedResults_waiting (by rw [State.notice_results]; exact hw) (by rw [State.notice_results]; exact hout)
  · have hcarry := State.carryFault_none (s := s) f hq hr
    rw [State.takeFault_open f (by tauto), hcarry]
    unfold State.beginTeardown
    rw [show State.handOverAll i (s.modSite i _) = _ from State.handOverAll_ready hl hp hroute hready hquiet hpins]
    refine State.checkTeardown_going (l := l) ?_ (by rw [State.modLane_get]) (fun h => by cases h)
    rw [State.mem_routeLanes]
    have howned : l ∈ s.routeLanes i := by rw [hl]; exact List.mem_singleton_self l
    obtain ⟨r', hr', hi⟩ := State.mem_routeLanes.mp howned
    rw [hroute] at hr'; cases hr'
    exact ⟨{ r with state := .opening }, by rw [State.modLane_get], hi⟩
  · unfold State.takeFault
    rcases hst with h | h | h <;> rw [h]
  · rw [State.takeFault_open f hst]
    have hdone := State.handOverAll_arm (s := s.carryFault i f) (by rw [State.carryFault_lanes]; exact hr) hi hlive
    have hend := (State.checkTeardown_grows (s := (s.carryFault i f).handOverAll i) i).arms r.port
    exact Bool.eq_false_iff.mpr fun harm => by rw [hend harm] at hdone; cases hdone

end Sys2Proof.Machine
end


section
set_option Elab.async false
/-! # ABORT (O27) -/

namespace Sys2Proof.Machine

variable {s t u : State} {i : SiteId} {tag : Byte}

/-! ### Follow-ups in their order -/

theorem State.closing_push (c : Cause) : (s.push (.closure i c)).closing i = true := by
  unfold State.closing
  rw [List.any_eq_true]
  refine ⟨.closure i c, ?_, by simp [Task.closes]⟩
  rw [State.push_agenda, mem_insertTask]
  exact .inl rfl

/-- A closing at a site without a running step (R138). -/
theorem drain_closure {ts : List Task} {c : Cause} (n : Nat) (ha : s.agenda = .closure i c :: ts)
    (hr : s.sites[i].running = none) : drain (n + 1) s = drain n (({ s with agenda := ts } : State).closeBlock i c) := by
  rw [drain_cons n s _ ts ha]
  exact congrArg (drain n) (State.closeNow_idle (s := { s with agenda := ts }) c hr)

/-- A look at the next frame where none waits (R190). -/
theorem drain_dispatch (n : Nat) (ha : s.agenda = [.dispatch]) (hs : s.link.slots = []) :
    drain (n + 1) s = { s with agenda := [] } := by
  rw [drain_cons n s _ [] ha]
  exact (congrArg (drain n) (State.dispatchOne_nil { s with agenda := [] } hs)).trans (drain_nil n _ rfl)

theorem insertTask_dispatch_closure (c : Cause) : insertTask .dispatch [.closure i c] = [.closure i c, .dispatch] := by
  rw [insertTask_cons, if_neg (by simp only [Task.rank]; omega), insertTask_nil]

/-- A closing at a site without a running step, then a look at a frame that is not there. -/
theorem drain_closure_dispatch (c : Cause) (n : Nat) (ha : u.agenda = []) (hs : u.link.slots = [])
    (hr : u.sites[i].running = none) : drain (n + 2) ((u.push (.closure i c)).push .dispatch) = u.closeBlock i c := by
  refine (drain_closure (s := (u.push (.closure i c)).push .dispatch) (c := c) (ts := [.dispatch]) (n + 1) ?_ hr).trans ?_
  · rw [State.push_agenda, State.push_agenda, ha, insertTask_nil, insertTask_dispatch_closure]
  rw [drain_dispatch n (by rw [State.closeBlock_eq]) (by rw [State.closeBlock_eq]; exact hs), State.closeBlock_eq,
    State.closeBlock_eq]
  cases u; simp only at ha; subst ha; rfl

/-- A DONE with room at an IDLE site whose queue it empties: the site goes on to nothing (R8, R9). -/
theorem drain_done_idle {d : DoneFrame} {ts : List Task} (n : Nat) (hts : insertTask (.next d.site) ts = .next d.site :: ts)
    (ha : s.agenda = .done d :: ts) (hfree : s.link.completion.length < 16) (hw : s.link.doneWaiting = [])
    (hc : s.sites[d.site].carried = []) (hst : s.sites[d.site].state = .idle) (hq : s.sites[d.site].queue.tail = []) :
    drain (n + 2) s = drain n (({ s with agenda := ts }.modLink fun k =>
      { k with completion := k.completion ++ [d] }).modSite d.site fun x =>
      { x with queue := x.queue.tail, running := none }) := by
  generalize hu : ({ s with agenda := ts }.modLink fun k => { k with completion := k.completion ++ [d] }).modSite d.site
    (fun x => { x with queue := x.queue.tail, running := none }) = u
  have hua : u.agenda = ts := by rw [← hu]; rfl
  have hdone : ({ s with agenda := ts } : State).handleDone d = u.push (.next d.site) := by
    refine (State.handleDone_room (s := { s with agenda := ts }) hfree hw hc).trans ?_
    rw [hu]
    unfold State.siteMovesOn
    have hidle : u.sites[d.site].state = .idle := by rw [← hu, State.modSite_get]; exact hst
    rw [hidle]
  have hrests : u.mayStart d.site = false :=
    State.mayStart_eq_false (.inr (.inr (by rw [← hu, State.modSite_get]; exact hq)))
  rw [drain_cons (n + 1) s (.done d) ts ha]
  change drain (n + 1) (({ s with agenda := ts } : State).handleDone d) = _
  rw [hdone, drain_cons n _ (.next d.site) ts (by rw [State.push_agenda, hua, hts])]
  have hback : ({ u.push (.next d.site) with agenda := ts } : State) = u := by
    cases u; simp only at hua; subst hua; rfl
  rw [hback]
  change drain n (u.tryStart d.site) = _
  unfold State.tryStart
  rw [hrests, if_neg (by decide)]

/-! ### The end of an ABORT's teardown (R16, R18) -/

/-- The teardown of an ABORT at a site without routes: IDLE, and the ABORT is answered (R18, R88). -/
theorem State.checkTeardown_abort {a : AbortReq} (hst : s.sites[i].state = .aborting)
    (ht : s.sites[i].teardown = some .abort) (ha : s.sites[i].abort = some a) (hl : s.routeLanes i = [])
    (hc : s.closing i = true) (hr : s.resetReq = none) : s.checkTeardown i =
      (s.modSite i fun x => { x with state := .idle, stopCause := none, teardown := none, abort := none }).reply 0x05 a.tag
        (siteByte i) .ok ([0, byte a.discarded.length] ++ a.discarded) := by
  have hclosing : (s.modSite i fun x => { x with state := .idle, stopCause := none, teardown := none }).closing i = true := hc
  unfold State.checkTeardown
  simp only [State.tearing, hst, decide_true, Bool.true_or, State.allStuck_none hl, Bool.and_self, if_true, ht,
    State.holdsRoute_eq_false hl, Bool.false_eq_true, if_false]
  rw [State.noteClosure_noted _ hclosing]
  unfold State.answerAbort
  rw [State.modSite_get]
  simp only [ha, State.modSite_modSite]
  rw [State.siteEnded_none (by exact hr)]
  rfl

/-! ### The sites that ABORT takes (R16, R17) -/

/-- The site record of an ABORT in flight. -/
def Site.aborted (a : AbortReq) (x : Site) : Site :=
  { x with held := false, stopCause := none, state := .aborting, teardown := some .abort, abort := some a }

/-- A site without a running step gives its whole queue up (R16). -/
theorem State.abortSite_none (ha : s.agenda = []) (hr : s.sites[i].running = none) : s.abortSite i tag =
    ((s.modSite i fun x => { x.aborted ⟨tag, s.sites[i].queue.map Step.tag⟩ with queue := [] }).push
      (.closure i .ended)).beginTeardown i := by
  have hbegun : s.sites[i].begunSteps = 0 := by unfold Site.begunSteps; rw [hr]; rfl
  have htags : s.sites[i].abortTags = s.sites[i].queue.map Step.tag := by unfold Site.abortTags; rw [hbegun]; rfl
  unfold State.abortSite
  simp only [State.stopRunning_none hr, hr, htags]
  rw [State.noteClosure_push]
  · congr 2
    exact State.modSite_congr (by simp only [hbegun, List.take_zero]; rfl)
  · unfold State.closing
    rw [State.modSite_agenda, ha]; rfl

/-- A site that holds nothing and runs nothing ends its teardown at once (R18). -/
theorem State.abortSite_rest (ha : s.agenda = []) (hr : s.sites[i].running = none) (hl : s.routeLanes i = [])
    (hp : s.routelessPorts i = []) (hreset : s.resetReq = none) : s.abortSite i tag =
      ((s.modSite i fun x => { x with state := .idle, held := false, stopCause := none, queue := [], teardown := none,
                                      abort := none }).reply 0x05 tag (siteByte i) .ok
        ([0, byte (s.sites[i].queue.map Step.tag).length] ++ s.sites[i].queue.map Step.tag)).push (.closure i .ended) := by
  rw [State.abortSite_none ha hr]
  unfold State.beginTeardown
  rw [State.handOverAll_none (by rw [State.push_routeLanes, State.modSite_routeLanes, hl])
      (by rw [State.push_routelessPorts, State.modSite_routelessPorts, hp]),
    State.checkTeardown_abort (a := ⟨tag, s.sites[i].queue.map Step.tag⟩) (by rw [State.push_sites, State.modSite_get]; rfl)
      (by rw [State.push_sites, State.modSite_get]; rfl) (by rw [State.push_sites, State.modSite_get]; rfl)
      (by rw [State.push_routeLanes, State.modSite_routeLanes, hl]) (State.closing_push _)
      (by rw [State.push_resetReq, State.modSite_resetReq, hreset]),
    State.push_modSite, State.modSite_modSite]
  rfl

/-- A running WAIT is stopped, its DONE ABORTED lists no tag, and the teardown ends at once (R17, R18). -/
theorem State.abortSite_wait {w : Byte} {d : Duration} {rest : List Step} {n : Nat} (ha : s.agenda = [])
    (hq : s.sites[i].queue = ⟨w, .wait d⟩ :: rest) (hr : s.sites[i].running = some ⟨.active .waiting, n⟩)
    (hc : s.sites[i].carried = []) (hl : s.routeLanes i = [])
    (hp : s.routelessPorts i = []) (hreset : s.resetReq = none) : s.abortSite i tag =
      (((s.modSite i fun x => { x with state := .idle, held := false, stopCause := none, queue := [⟨w, .wait d⟩],
                                       running := some ⟨.ended, n⟩, waitTimer := none, teardown := none,
                                       abort := none }).reply 0x05 tag (siteByte i) .ok
        ([0, byte rest.length] ++ rest.map Step.tag)).push (.done ⟨i, w, .aborted, none, 0, 0, none, []⟩)).push
        (.closure i .ended) := by
  have htags : s.sites[i].abortTags = rest.map Step.tag := by
    unfold Site.abortTags Site.begunSteps; rw [hr, hc, hq]; rfl
  have htake (x : Site) (h : x.running = s.sites[i].running) (h' : x.carried = s.sites[i].carried) :
      s.sites[i].queue.take x.begunSteps = [⟨w, .wait d⟩] := by
    unfold Site.begunSteps; rw [h, h', hr, hc, hq]; rfl
  unfold State.abortSite
  simp only [State.stopRunning_wait hq hr, hr, htags]
  rw [State.modSite_modSite, State.finishStep_eq (st := ⟨w, .wait d⟩) (rest := []) (r := ⟨.active .waiting, n⟩) _ _ _ _
      (by rw [State.modSite_get]; exact htake _ rfl rfl) (by rw [State.modSite_get]; exact hr),
    State.modSite_modSite, State.noteClosure_push]
  · unfold State.beginTeardown
    rw [State.handOverAll_none (by rw [State.push_routeLanes, State.push_routeLanes, State.modSite_routeLanes, hl])
        (by rw [State.push_routelessPorts, State.push_routelessPorts, State.modSite_routelessPorts, hp]),
      State.checkTeardown_abort (a := ⟨tag, rest.map Step.tag⟩)
        (by rw [State.push_sites, State.push_sites, State.modSite_get])
        (by rw [State.push_sites, State.push_sites, State.modSite_get])
        (by rw [State.push_sites, State.push_sites, State.modSite_get])
        (by rw [State.push_routeLanes, State.push_routeLanes, State.modSite_routeLanes, hl]) (State.closing_push _)
        (by rw [State.push_resetReq, State.push_resetReq, State.modSite_resetReq, hreset]),
      State.push_modSite, State.push_modSite, State.modSite_modSite, List.length_map,
      State.modSite_congr (g := fun x => { x with
        state := .idle, held := false, stopCause := none, queue := [⟨w, .wait d⟩], running := some ⟨.ended, n⟩,
        waitTimer := none, teardown := none, abort := none })]
    · rfl
    · simp only
      congr 1
      exact htake _ rfl rfl
  · unfold State.closing
    rw [State.push_agenda, State.modSite_agenda, ha]; rfl

theorem State.modPort_modPort (p : PortId) (f g : Port → Port) :
    (s.modPort p f).modPort p g = s.modPort p fun x => g (f x) := by
  simp only [State.modPort, upd_upd]

/-! ### A LIVE route that is handed over -/

theorem State.unbounded_none {l : LaneId} (h : s.resetReq = none) : s.unbounded l = false := by
  unfold State.unbounded State.inPhase
  rw [h]; rfl

/-- A LIVE route on a live lane is handed over: it is disarmed, and its bounded quiet wait begins (R71, R85, R86). -/
theorem State.handOverAll_live {l : LaneId} {r : Route} (hl : s.routeLanes i = [l]) (hp : s.routelessPorts i = [])
    (hr : s.lanes[l].route = some r) (hst : r.state = .live) (hq : s.isLive l = true) (hreset : s.resetReq = none) :
    s.handOverAll i = (s.modPort r.port fun x => { x with arm := false }).modLane l fun x =>
      { x with route := some { r with state := .quieting },
               quiet := some ⟨.disarm, some (Timer.begin s.dischargeTimeout s.time.now)⟩ } := by
  refine State.handOverAll_one hl ?_ (State.modLane_sameOwners (by rw [State.modPort_lanes, hr]; rfl)) ?_ hp
  · rw [State.disarmRoute_of_live hr hst]
    unfold State.handOver State.disarm
    rw [State.modPort_lanes, hr]
    simp only [hst]
    rw [State.setRoute_of_route (r := r) (by decide) (by rw [State.modPort_lanes, hr]),
      State.disarmRoute_of_live (r := r) (by rw [State.modPort_lanes, hr]) hst,
      if_pos (by exact hq)]
    unfold State.startQuiet
    rw [State.unbounded_none (by exact hreset), State.modLane_modLane, State.modPort_modPort]
    rfl
  · intro p
    rw [State.modLane_ports, State.modPort_ports, upd_get]
    split
    · next e => subst e; rfl
    · rfl

/-! ### ABORT of a site with a route -/

/-- The site record of a site whose ABORT goes on in ABORTING, its queue given up (R16). -/
theorem State.abortSite_route {l : LaneId} {r : Route} (ha : s.agenda = []) (hrun : s.sites[i].running = none)
    (ht : ((s.modSite i fun x => { x.aborted ⟨tag, s.sites[i].queue.map Step.tag⟩ with queue := [] }).push
      (.closure i .ended)).handOverAll i = t) (hroute : t.lanes[l].route = some r) (hi : r.site = i)
    (hst : r.state ≠ .stuck) : s.abortSite i tag = t := by
  rw [State.abortSite_none ha hrun]
  unfold State.beginTeardown
  rw [ht]
  exact State.checkTeardown_going (State.mem_routeLanes.mpr ⟨r, hroute, hi⟩) hroute hst

/-- The owner of a site's only route (R55). -/
theorem State.site_of_routeLanes {l : LaneId} {r : Route} (hl : s.routeLanes i = [l]) (hr : s.lanes[l].route = some r) :
    r.site = i := by
  have howned : l ∈ s.routeLanes i := by rw [hl]; exact List.mem_singleton_self l
  obtain ⟨r', hr', hi⟩ := State.mem_routeLanes.mp howned
  rw [hr] at hr'; cases hr'
  exact hi

/-- A READY route on a quiet lane enters OPENING, and its site's ABORT goes on (R85, R86). -/
theorem State.abortSite_ready {l : LaneId} {r : Route} (ha : s.agenda = []) (hrun : s.sites[i].running = none)
    (hl : s.routeLanes i = [l]) (hp : s.routelessPorts i = []) (hr : s.lanes[l].route = some r) (hst : r.state = .ready)
    (hq : s.isLive l = false) (hpins : s.lanes[l].pinRelays ≠ []) : s.abortSite i tag =
      ((s.modSite i fun x => { x.aborted ⟨tag, s.sites[i].queue.map Step.tag⟩ with queue := [] }).modLane l fun x =>
        { Lane.pinsOpening .opening x with route := some { r with state := .opening } }).push (.closure i .ended) := by
  refine State.abortSite_route (l := l) (r := { r with state := .opening }) ha hrun ?_ ?_
    (show r.site = i from State.site_of_routeLanes hl hr) (fun h => by cases h)
  · exact State.handOverAll_ready (s := (s.modSite i _).push _) hl hp hr hst hq hpins
  · rw [State.push_lanes, State.modLane_get]

/-- A LIVE route on a live lane is disarmed, and its site's ABORT goes on (R71, R85). -/
theorem State.abortSite_live {l : LaneId} {r : Route} (ha : s.agenda = []) (hrun : s.sites[i].running = none)
    (hl : s.routeLanes i = [l]) (hp : s.routelessPorts i = []) (hr : s.lanes[l].route = some r) (hst : r.state = .live)
    (hq : s.isLive l = true) (hreset : s.resetReq = none) : s.abortSite i tag =
      (((s.modSite i fun x => { x.aborted ⟨tag, s.sites[i].queue.map Step.tag⟩ with queue := [] }).modPort r.port fun x =>
        { x with arm := false }).modLane l fun x =>
        { x with route := some { r with state := .quieting },
                 quiet := some ⟨.disarm, some (Timer.begin s.dischargeTimeout s.time.now)⟩ }).push (.closure i .ended) := by
  refine State.abortSite_route (l := l) (r := { r with state := .quieting }) ha hrun ?_ ?_
    (show r.site = i from State.site_of_routeLanes hl hr) (fun h => by cases h)
  · exact State.handOverAll_live (s := (s.modSite i _).push _) hl hp hr hst hq hreset
  · rw [State.push_lanes, State.modLane_get]

/-! ### The event -/

/-- The follow-ups of a request that closes the block of a site at rest (R138). -/
theorem request_drain_closure {k site : Byte} {c : Cause} (hu : t = u.push (.closure i c)) (ha : u.agenda = [])
    (hs : u.link.slots = []) (hr : u.sites[i].running = none) :
    drain 4095 ((t.modLink fun x => { x with marker := some (k, site) }).push .dispatch) =
      (u.closeBlock i c).modLink fun x => { x with marker := some (k, site) } := by
  subst hu
  refine (drain_closure_dispatch (u := u.modLink fun x => { x with marker := some (k, site) }) c 4093 ha hs hr).trans ?_
  rw [State.closeBlock_eq, State.closeBlock_eq]; rfl

/-- The follow-ups of a request that ends the running step and closes the block of a site without further steps. -/
theorem request_drain_done_closure {k site : Byte} {c : Cause} {d : DoneFrame} (hu : t = (u.push (.done d)).push (.closure i c))
    (hd : d.site = i) (ha : u.agenda = []) (hs : u.link.slots = []) (hfree : u.link.completion.length < 16)
    (hw : u.link.doneWaiting = []) (hc : u.sites[i].carried = []) (hst : u.sites[i].state = .idle)
    (hq : u.sites[i].queue.tail = []) :
    drain 4095 ((t.modLink fun x => { x with marker := some (k, site) }).push .dispatch) =
      (((u.modLink fun x => { x with completion := x.completion ++ [d] }).modSite i fun x =>
        { x with queue := x.queue.tail, running := none }).closeBlock i c).modLink fun x =>
        { x with marker := some (k, site) } := by
  subst hu hd
  have hagenda : (((u.push (.done d)).push (.closure d.site c)).modLink (fun x => { x with marker := some (k, site) })
      |>.push .dispatch).agenda = [.done d, .closure d.site c, .dispatch] := by
    rw [State.push_agenda, State.modLink_agenda, State.push_agenda, State.push_agenda, ha, insertTask_nil,
      insertTask_done_closure d c rfl, insertTask_cons, if_neg (by simp only [Task.rank]; omega),
      insertTask_dispatch_closure]
  have hnext : insertTask (.next d.site) [.closure d.site c, .dispatch] = [.next d.site, .closure d.site c, .dispatch] := by
    rw [insertTask_cons, if_pos (by simp only [Task.rank]; omega)]
  rw [drain_done_idle 4093 hnext hagenda hfree hw hc hst hq]
  generalize hv : ((u.modLink fun x => { x with marker := some (k, site) }).modLink fun x =>
    { x with completion := x.completion ++ [d] }).modSite d.site (fun x => { x with queue := x.queue.tail, running := none }) = v
  have hva : v.agenda = [] := by rw [← hv]; exact ha
  have hrun : v.sites[d.site].running = none := by rw [← hv, State.modSite_get]
  have hpush : (v.push (.closure d.site c)).push .dispatch = { v with agenda := [.closure d.site c, .dispatch] } := by
    change ({ v with agenda := insertTask .dispatch (insertTask (.closure d.site c) v.agenda) } : State) = _
    rw [hva, insertTask_nil, insertTask_dispatch_closure]
  refine Eq.trans ?_ ((drain_closure_dispatch c 4091 hva (by rw [← hv]; exact hs) hrun).trans ?_)
  · congr 1
    rw [hpush, ← hv]
    rfl
  · rw [← hv, State.closeBlock_eq, State.closeBlock_eq]; rfl

theorem State.takeAbort_refused {code : ReplyCode}
    (h : (s.sites[i].state = .safing ∨ s.sites[i].state = .safe) ∧ code = .siteState ∨
    s.sites[i].state = .aborting ∧ code = .busy) :
    s.takeAbort ⟨tag, siteByte i⟩ = s.reply 0x05 tag (siteByte i) code [] := by
  unfold State.takeAbort
  rcases h with ⟨h | h, rfl⟩ | ⟨h, rfl⟩ <;> simp only [siteOf_siteByte, h] <;> rfl

theorem State.takeAbort_taken (h : s.sites[i].state = .idle ∨ s.sites[i].state = .running ∨ s.sites[i].state = .held ∨
    s.sites[i].state = .stopped) : s.takeAbort ⟨tag, siteByte i⟩ = s.abortSite i tag := by
  unfold State.takeAbort
  rcases h with h | h | h | h <;> simp only [siteOf_siteByte, h]

@[simp] theorem State.arrive_routelessPorts : s.arrive.routelessPorts i = s.routelessPorts i :=
  s.arrive_frame (fun t => t.routelessPorts i) (fun _ _ => rfl) fun _ _ => rfl

@[simp] theorem State.arrive_dischargeTimeout : s.arrive.dischargeTimeout = s.dischargeTimeout :=
  s.arrive_frame (fun t => t.dischargeTimeout) (fun _ _ => rfl) fun _ _ => rfl

/-- Settles O27: ABORT of a site at rest, of a running WAIT, of a site with a route, and its refusals. -/
theorem abortOutcomes : Obligations.AbortOutcomes := by
  intro tag s i hr
  have hag : s.agenda = [] := hr.2.2.1
  have hexec : exec (.abort tag (siteByte i)) s = request .abort tag (siteByte i) s := rfl
  simp only [hexec]
  refine ⟨fun hst hrun hl hp hreset => ?_, fun t d rest n hb hst hq hrun hc hfree hl hp hreset => ?_,
    fun l r hb hout hst hrun hl hroute hp hreset => ⟨fun hready hquiet hpins => ?_, fun hlive hq => ?_⟩,
    fun hst => ?_, fun hst => ?_⟩
  · have htake : s.arrive.takeAbort ⟨tag, siteByte i⟩ = _ :=
      (State.takeAbort_taken (by rw [State.arrive_sites]; exact hst)).trans
        (State.abortSite_rest (by rw [State.arrive_agenda, hag]) (by rw [State.arrive_sites]; exact hrun)
          (by rw [State.arrive_routeLanes, hl]) (by rw [State.arrive_routelessPorts, hp])
          (by rw [State.arrive_resetReq, hreset]))
    rw [State.arrive_sites] at htake
    refine (request_of_drain (r := .abort) hr trivial (request_drain_closure htake ?_ ?_ ?_) ?_ ?_ ?_).trans ?_
    · simpa using hag
    · simp
    · rw [State.reply_sites, State.modSite_get, State.arrive_sites]; exact hrun
    · rw [State.closeBlock_eq]; simpa using hag
    · rw [State.closeBlock_eq]; simp
    · rw [State.closeBlock_eq]; simp
    · rw [State.closeBlock_eq, State.closeBlock_eq]; rfl
  · have htake : s.arrive.takeAbort ⟨tag, siteByte i⟩ = _ :=
      (State.takeAbort_taken (by rw [State.arrive_sites]; tauto)).trans
        (State.abortSite_wait (w := t) (d := d) (rest := rest) (n := n) (by rw [State.arrive_agenda, hag])
          (by rw [State.arrive_sites]; exact hq) (by rw [State.arrive_sites]; exact hrun)
          (by rw [State.arrive_sites]; exact hc) (by rw [State.arrive_routeLanes, hl])
          (by rw [State.arrive_routelessPorts, hp]) (by rw [State.arrive_resetReq, hreset]))
    refine (request_of_drain (r := .abort) hr trivial (request_drain_done_closure htake rfl ?_ ?_ ?_ ?_ ?_ ?_ ?_)
      ?_ ?_ ?_).trans ?_
    · simpa using hag
    · simp
    · simpa using hfree
    · simpa using hb.2.2.1
    · rw [State.reply_sites, State.modSite_get, State.arrive_sites]; exact hc
    · rw [State.reply_sites, State.modSite_get]
    · rw [State.reply_sites, State.modSite_get]; rfl
    · rw [State.closeBlock_eq]; simpa using hag
    · rw [State.closeBlock_eq]; simp
    · rw [State.closeBlock_eq]; simp
    · rw [State.closeBlock_eq, State.closeBlock_eq]
      simp only [State.answered, State.marked, State.reply, State.replyWith, State.modSite, State.modLink, upd_upd]
      rfl
  · have htake : s.arrive.takeAbort ⟨tag, siteByte i⟩ = _ :=
      (State.takeAbort_taken (by rw [State.arrive_sites]; tauto)).trans
        (State.abortSite_ready (l := l) (r := r) (by rw [State.arrive_agenda, hag])
          (by rw [State.arrive_sites]; exact hrun) (by rw [State.arrive_routeLanes, hl])
          (by rw [State.arrive_routelessPorts, hp]) (by rw [State.arrive_lanes, hroute]) hready
          (by rw [State.arrive_isLive, hquiet]) (by rw [State.arrive_lanes]; exact hpins))
    rw [State.arrive_sites] at htake
    refine (request_of_drain_noBacklog (r := .abort) hr trivial (request_drain_closure htake ?_ ?_ ?_) ?_).trans ?_
    · simpa using hag
    · simp
    · rw [State.modLane_sites, State.modSite_get, State.arrive_sites]; exact hrun
    · rw [State.closeBlock_eq]
      refine ⟨by simpa using hag, by simp, by simpa using hb.2.2.1, closedResults_waiting ?_ ?_⟩
      · simpa using hb.2.2.2
      · simpa using hout
    · rw [State.closeBlock_eq, State.closeBlock_eq]; rfl
  · have htake : s.arrive.takeAbort ⟨tag, siteByte i⟩ = _ :=
      (State.takeAbort_taken (by rw [State.arrive_sites]; tauto)).trans
        (State.abortSite_live (l := l) (r := r) (by rw [State.arrive_agenda, hag])
          (by rw [State.arrive_sites]; exact hrun) (by rw [State.arrive_routeLanes, hl])
          (by rw [State.arrive_routelessPorts, hp]) (by rw [State.arrive_lanes, hroute]) hlive
          (by rw [State.arrive_isLive, hq]) (by rw [State.arrive_resetReq, hreset]))
    rw [State.arrive_sites, State.arrive_now, State.arrive_dischargeTimeout] at htake
    refine (request_of_drain_noBacklog (r := .abort) hr trivial (request_drain_closure htake ?_ ?_ ?_) ?_).trans ?_
    · simpa using hag
    · simp
    · rw [State.modLane_sites, State.modPort_sites, State.modSite_get, State.arrive_sites]; exact hrun
    · rw [State.closeBlock_eq]
      refine ⟨by simpa using hag, by simp, by simpa using hb.2.2.1, closedResults_waiting ?_ ?_⟩
      · simpa using hb.2.2.2
      · simpa using hout
    · rw [State.closeBlock_eq, State.closeBlock_eq]; rfl
  · exact request_refused hr trivial (State.takeAbort_refused (.inl ⟨by rw [State.arrive_sites]; exact hst, rfl⟩))
  · exact request_refused hr trivial (State.takeAbort_refused (.inr ⟨by rw [State.arrive_sites]; exact hst, rfl⟩))

end Sys2Proof.Machine
end


section
set_option Elab.async false
/-! # The head step starts (O34) -/

namespace Sys2Proof.Machine

variable {s t u v w : State} {i : SiteId} {tag : Byte}

/-! ### The follow-ups of a site that goes on (R8, R9) -/

/-- Events whose first follow-ups come to the same end alike. -/
theorem State.finish_congr (h : drain Config.cascadeBound s = drain Config.cascadeBound t) : s.finish = t.finish := by
  unfold State.finish State.settle
  rw [h]

/-- An event whose first follow-ups come to a state with little work before it ends as that state does. -/
theorem State.finish_of_drain_work {n : Nat} (hd : drain Config.cascadeBound s = drain n u) (hw : u.work ≤ n)
    (hn : n ≤ Config.cascadeBound) : s.finish = u.finish :=
  State.finish_congr (hd.trans (drain_eq_of_work hw hn (Nat.lt_of_le_of_lt hn (by decide))).symm)

/-- R9: a site that may start its head step starts it. -/
theorem drain_next {ts : List Task} (n : Nat) (ha : s.agenda = .next i :: ts) (hm : s.mayStart i = true) :
    drain (n + 1) s = drain n (({ s with agenda := ts } : State).startHead i) := by
  rw [drain_cons n s _ ts ha]
  have hmay : ({ s with agenda := ts } : State).mayStart i = true := hm
  exact congrArg (drain n) (by rw [State.runTask, State.tryStart, if_pos hmay])

theorem State.mayStart_of (hst : s.sites[i].state = .idle ∨ s.sites[i].state = .running) (hh : s.sites[i].held = false)
    (hr : s.sites[i].running = none) (hq : s.sites[i].queue ≠ []) : s.mayStart i = true := by
  unfold State.mayStart
  have hopen : (decide (s.sites[i].state = .idle) || decide (s.sites[i].state = .running)) = true := by
    rcases hst with h | h <;> rw [h] <;> rfl
  have hqueue : s.sites[i].queue.isEmpty = false := by simpa using hq
  simp only [hopen, hh, hr, hqueue]
  rfl

/-- After its DONE a site that is not held starts its next step (R9, R10). -/
theorem drain_siteMovesOn (n : Nat) (ha : u.agenda = []) (hst : u.sites[i].state = .running ∨ u.sites[i].state = .idle)
    (hh : u.sites[i].held = false) (hr : u.sites[i].running = none) (hq : u.sites[i].queue ≠ []) :
    drain (n + 1) (u.siteMovesOn i) = drain n (u.startHead i) := by
  have hpush : u.siteMovesOn i = u.push (.next i) := by
    unfold State.siteMovesOn
    rcases hst with h | h <;> rw [h]
    simp only [hh, Bool.false_eq_true, if_false, List.isEmpty_iff, hq]
  rw [hpush, drain_next (s := u.push (.next i)) n (by rw [State.push_agenda, ha, insertTask_nil])
    (State.mayStart_of hst.symm hh hr hq), State.push_clear u _ ha]

/-- R10: the held flag takes a RUNNING site to HELD. -/
theorem State.siteMovesOn_held (hst : u.sites[i].state = .running) (hh : u.sites[i].held = true) :
    u.siteMovesOn i = u.modSite i fun x => { x with state := .held } := by
  unfold State.siteMovesOn
  simp only [hst, hh, if_true]
  rfl

/-- R10: an empty queue takes a RUNNING site to IDLE. -/
theorem State.siteMovesOn_empty (hst : u.sites[i].state = .running) (hh : u.sites[i].held = false)
    (hq : u.sites[i].queue = []) : u.siteMovesOn i = u.modSite i fun x => { x with state := .idle } := by
  unfold State.siteMovesOn
  simp only [hst, hh, hq, Bool.false_eq_true, if_false, List.isEmpty_nil, if_true]
  rfl

/-! ### A request after which the head step starts -/

theorem insertTask_dispatch_next : insertTask .dispatch [.next i] = [.next i, .dispatch] := by
  rw [insertTask_cons, if_neg (by simp only [Task.rank]; omega), insertTask_nil]

/-- The head step starts behind the request's reply, before the look at the next frame. -/
theorem request_drain_next {k site : Byte} (ht : t = v.push (.next i)) (ha : v.agenda = []) (hm : v.mayStart i = true) :
    drain 4095 ((t.modLink fun x => { x with marker := some (k, site) }).push .dispatch) =
      drain 4094 (((v.modLink fun x => { x with marker := some (k, site) }).push .dispatch).startHead i) := by
  subst ht
  have hagenda : (((v.push (.next i)).modLink fun x => { x with marker := some (k, site) }).push .dispatch).agenda =
      [.next i, .dispatch] := by
    rw [State.push_agenda, State.modLink_agenda, State.push_agenda, ha, insertTask_nil, insertTask_dispatch_next]
  rw [drain_next 4094 hagenda hm]
  congr 2
  cases v; simp only at ha; subst ha; rfl

/-- The start of a step has little work before it, also with a look at the next frame to come. -/
theorem State.startHead_dispatch_work (ha : v.agenda = []) (hs : v.link.slots = []) :
    ((v.push .dispatch).startHead i).work ≤ 4094 := by
  have hbase := State.work_le ha hs
  have hpush := State.work_push (s := v) .dispatch
  have hstart := State.startHead_work (s := v.push .dispatch) i
  simp only [Task.weight] at hpush
  omega

/-- The start of a step has little work before it. -/
theorem State.startHead_rest_work (ha : v.agenda = []) (hs : v.link.slots = []) : (v.startHead i).work ≤ 4094 := by
  have hbase := State.work_le ha hs
  have hstart := State.startHead_work (s := v) i
  omega

/-! ### The start of a WAIT (R173) -/

theorem State.startHead_wait {d : Duration} {rest : List Step} (hq : s.sites[i].queue = ⟨tag, .wait d⟩ :: rest)
    (hd : Duration.count d ≠ 0) : s.startHead i = s.modSite i fun x =>
      { x with state := .running, running := some ⟨.active .waiting, 0⟩, waitTimer := some (Timer.begin d s.time.now) } := by
  unfold State.startHead
  simp only [hq]
  unfold State.startWaitStep State.pushIfZero State.setPhase
  rw [if_neg hd, State.modSite_modSite, State.modSite_modSite]
  rfl

/-! ### A running WAIT ends (R173) -/

/-- The WAIT timer of a running WAIT ends it OK (R10, R173). -/
theorem State.waitExpired_wait {x : Timer} {d : Duration} {rest : List Step} {n : Nat}
    (hq : s.sites[i].queue = ⟨tag, .wait d⟩ :: rest) (hr : s.sites[i].running = some ⟨.active .waiting, n⟩)
    (ht : s.sites[i].waitTimer = some x) (hx : x.expiry ≤ s.time.now) : s.waitExpired i =
      (s.modSite i fun x => { x with running := some ⟨.ended, n⟩, waitTimer := none }).push
        (.done ⟨i, tag, .ok, none, 0, 0, none, []⟩) := by
  have hactive : (s.modSite i fun x => { x with waitTimer := none }).active i = some (⟨tag, .wait d⟩, .waiting, n) := by
    unfold State.active
    rw [State.modSite_get]
    simp only [hq, hr]
  unfold State.waitExpired State.expired
  simp only [ht, if_pos hx, hactive]
  unfold State.endOk
  rw [State.finishStep_eq (st := ⟨tag, .wait d⟩) (rest := rest) (r := ⟨.active .waiting, n⟩) _ _ _ _
      (by rw [State.modSite_get]; exact hq) (by rw [State.modSite_get]; exact hr), State.modSite_modSite]
  rfl

/-- A DONE with room is the only follow-up: its site goes on (R8, R192). -/
theorem drain_done {d : DoneFrame} (n : Nat) (ha : s.agenda = []) (hfree : s.link.completion.length < 16)
    (hw : s.link.doneWaiting = []) (hc : s.sites[d.site].carried = []) : drain (n + 1) (s.push (.done d)) = drain n
      (((s.modLink fun k => { k with completion := k.completion ++ [d] }).modSite d.site fun x =>
        { x with queue := x.queue.tail, running := none }).siteMovesOn d.site) := by
  rw [drain_cons n _ (.done d) [] (by rw [State.push_agenda, ha, insertTask_nil]), State.push_clear s _ ha]
  exact congrArg (drain n) (State.handleDone_room hfree hw hc)

/-! ### A waiting DONE enters (R192) -/

/-- The oldest waiting DONE takes a free entry, and its site goes on (R8, R192). -/
theorem drain_admitDone {d : DoneFrame} (n : Nat) (ha : s.agenda = []) (hw : s.link.doneWaiting = [d])
    (hfree : s.link.completion.length < 16) (hc : s.sites[d.site].carried = []) : drain (n + 1) (s.push .admitDone) =
      drain n (((s.modLink fun k => { k with doneWaiting := [], completion := k.completion ++ [d] }).modSite d.site fun x =>
        { x with queue := x.queue.tail, running := none }).siteMovesOn d.site) := by
  rw [drain_cons n _ .admitDone [] (by rw [State.push_agenda, ha, insertTask_nil]), State.push_clear s _ ha]
  refine congrArg (drain n) ?_
  unfold State.runTask State.admitDone
  simp only [hw, State.completionFree, Config.completionDepth, hfree, decide_true, if_true]
  unfold State.enterDone
  simp only [State.modLink_sites, hc]
  rfl

/-- A DONE frame begins at the end of the transmitter's frame, and the oldest waiting DONE takes its entry (R192, R194). -/
theorem frameSent_finish {x : TxFrame} {e : DoneFrame} {ds : List DoneFrame} (hl : s.linkUp = true)
    (ha : s.agenda = []) (hrts : s.pins.rts = true) (htx : s.link.tx = some x)
    (hx : ∀ r : Reply, x = .reply r → r.fullReset = false) (hr : s.link.replies = []) (hc : s.link.completion = e :: ds) :
    s.frameSent.settle = drain Config.cascadeBound
      ((s.modLink fun k => { k with tx := some (.done e), completion := ds }).push .admitDone) := by
  have hsent : s.frameSent = s.modLink fun k => { k with tx := none } := by
    unfold State.frameSent
    simp only [htx]
    cases x with
    | reply r => simp only [hx r rfl, Bool.false_eq_true, if_false]
    | _ => rfl
  have hbegin : (s.modLink fun k => { k with tx := none }).mayBegin = true := by
    unfold State.mayBegin
    rw [Bool.and_eq_true, Bool.and_eq_true]
    exact ⟨⟨hl, rfl⟩, hrts⟩
  have hnext : (s.modLink fun k => { k with tx := none }).nextFrame = some (.done e) := by
    unfold State.nextFrame
    simp only [State.modLink_link, hr, hc]
  unfold State.settle
  rw [hsent, drain_nil _ (s.modLink fun k => { k with tx := none }) ha]
  unfold State.pump
  rw [if_pos hbegin, hnext]
  refine congrArg (fun v : State => drain Config.cascadeBound (v.push .admitDone)) ?_
  refine (show _ = s.modLink fun k => { k with tx := some (.done e), completion := k.completion.tail } from rfl).trans ?_
  exact State.modLink_congr s _ _ (by simp only [hc, List.tail_cons])

theorem State.finish_of_settle (h : s.settle = t) (ha : t.agenda = []) : s.finish = .next t := by
  unfold State.finish
  rw [h, if_pos ha]

/-- A WAIT passes the checks of R5 at an IDLE site with a reach and an empty queue. -/
theorem State.acceptStep_wait {d : Duration} (hr : s.sites[i].reach.range ≠ none) (hst : s.sites[i].state = .idle)
    (hq : s.sites[i].queue = []) : s.acceptStep i tag (.wait d) = .ok (.wait d) := by
  rw [State.acceptStep_fields]
  · rfl
  · exact Option.isNone_eq_false_iff.mpr (Option.isSome_iff_ne_none.mpr hr)
  · rw [hst]; rfl
  · rw [hq]; decide
  · rw [hq]; rfl

/-- An accepted STEP at a site that may start it starts the head of the queue behind its reply (R9). -/
theorem exec_step_starts {c : Instr} {r : StepReq} {b : StepBody} (hc : stepCommand c = some (tag, siteByte i, r))
    (hw : c.wellFormed = true) (hr : s.ready) (hf : s.fullReset = false) (hok : s.acceptStep i tag r = .ok b)
    (hst : s.sites[i].state = .idle ∨ s.sites[i].state = .running) (hh : s.sites[i].held = false)
    (hrun : s.sites[i].running = none)
    (hv : (s.arrive.modSite i fun x => { x with queue := x.queue ++ [⟨tag, b⟩] }).reply 0x02 tag (siteByte i) .ok [] = v)
    (hu : ((v.modLink fun k => { k with marker := some (0x02, siteByte i) }).push .dispatch).startHead i = u) :
    (u.agenda = [.dispatch] → u.link.slots = [] → u.link.replies ≠ [] →
      exec c s = .next ({ u with agenda := [] } : State).transmit) ∧
    ∀ t : State, exec c s = .next t → u.finish = .next t := by
  subst hv hu
  generalize hv : (s.arrive.modSite i fun x => { x with queue := x.queue ++ [⟨tag, b⟩] }).reply 0x02 tag (siteByte i) .ok [] = v
  have htake : s.arrive.takeStep r ⟨tag, siteByte i⟩ = v.push (.next i) :=
    (State.takeStep_accepted (by simpa using hf) (by simpa using hok)).trans (by rw [hv])
  have hfit : requestFits (.step r) := requestFits_of_stepCommand hc hw
  have hva : v.agenda = [] := by simpa [← hv] using hr.2.2.1
  have hvs : v.link.slots = [] := by simp [← hv]
  have hmay : v.mayStart i = true := by
    rw [← hv]
    refine State.mayStart_of ?_ ?_ ?_ ?_
    all_goals rw [State.reply_sites, State.modSite_get, State.arrive_sites]
    · exact hst
    · exact hh
    · exact hrun
    · exact List.append_ne_nil_of_right_ne_nil _ (List.cons_ne_nil _ _)
  have hdrain := request_drain_next (k := 0x02) (site := siteByte i) htake hva hmay
  rw [exec_stepCommand hc]
  refine ⟨fun ha hs hrep => ?_, fun t ht => ?_⟩
  · exact request_of_drain hr hfit (hdrain.trans (drain_dispatch 4093 ha hs)) rfl hs hrep
  · rw [request_eq_finish hr] at ht
    refine (State.finish_of_drain_work ((request_drain hr hfit).trans hdrain) ?_ (by decide)).symm.trans ht
    exact State.startHead_dispatch_work hva hvs

/-- Settles O34: the start by kind; and the follow-ups of a STEP, of a WAIT's end and of an entering DONE come to it. -/
theorem headStepStarts : Obligations.HeadStepStarts := by
  refine ⟨fun s i t rest => ?_,
    fun c tag i r b s hc hw hr hf hok hst hh hrun => exec_step_starts hc hw hr hf hok hst hh hrun rfl rfl,
    fun tag i d s hr hf hreach hst hq hrun hh hd => ?_,
    fun s i t tag d n st rest hb hq hr hst hc hfree ht hx => ?_,
    fun s i x d e ds st rest n hp hl ha hrts htx hx hrep hcomp hwait hroom hd hq hr hc => ?_⟩
  · have hstart : ∀ b : StepBody, s.sites[i].queue = ⟨t, b⟩ :: rest → s.startHead i = _ := fun b hq => by
      unfold State.startHead; rw [hq]
    refine ⟨fun h p d e pins hq => hstart _ hq, fun h hq => hstart _ hq, fun h hq => hstart _ hq, fun h hq => hstart _ hq,
      fun m hq => hstart _ hq, fun m d pts hq => hstart _ hq, fun h d hq => hstart _ hq,
      fun d hq hd => State.startHead_wait hq hd, fun hq => hstart _ hq⟩
  · generalize hv : (s.arrive.modSite i fun x => { x with queue := x.queue ++ [⟨tag, .wait d⟩] }).reply 0x02 tag
      (siteByte i) .ok [] = v
    generalize hw : (v.modLink fun k => { k with marker := some (0x02, siteByte i) }).push .dispatch = w
    have hqueue : w.sites[i].queue = [⟨tag, .wait d⟩] := by
      rw [← hw, ← hv, State.push_sites, State.modLink_sites, State.reply_sites, State.modSite_get, State.arrive_sites, hq]
      rfl
    have hagenda : w.agenda = [.dispatch] := by
      rw [← hw, ← hv]; simp [hr.2.2.1]
    refine ((exec_step_starts (c := .stepWait tag (siteByte i) d) rfl rfl hr hf (State.acceptStep_wait hreach hst hq)
      (.inl hst) hh hrun hv (by rw [hw])).1 ?_ ?_ ?_).trans ?_
    all_goals rw [State.startHead_wait hqueue hd]
    · exact hagenda
    · rw [← hw, ← hv]; simp
    · rw [← hw, ← hv]; simp
    · have hnil : s.arrive.agenda = [] := by rw [State.arrive_agenda, hr.2.2.1]
      have hjoined : (s.arrive.modSite i fun x => { x with queue := x.queue ++ [⟨tag, .wait d⟩] }) =
          s.arrive.modSite i fun x => { x with queue := [⟨tag, .wait d⟩] } :=
        State.modSite_congr (by simp only [State.arrive_sites, hq, List.nil_append])
      have hnow : w.time.now = s.time.now := by rw [← hw, ← hv]; exact s.arrive_now
      rw [hnow, ← hw, ← hv, hjoined]
      simp only [State.answered, State.marked, State.reply, State.replyWith, State.modSite, State.modLink, State.push,
        upd_upd, ← hnil]
  · obtain ⟨hp, ha, hs, hw, hres⟩ := hb
    intro ended u
    have hended : (((s.modSite i fun x => { x with running := some ⟨.ended, n⟩, waitTimer := none }).modLink fun k =>
        { k with completion := k.completion ++ [⟨i, tag, .ok, none, 0, 0, none, []⟩] }).modSite i fun x =>
        { x with queue := x.queue.tail, running := none }) = ended := by
      rw [State.modSite_modLink, State.modSite_modSite]
      exact State.modSite_congr (by simp only [State.modLink_sites, hq, List.tail_cons])
    have hdrain : drain Config.cascadeBound (s.waitExpired i) = drain 4095 (ended.siteMovesOn i) := by
      rw [State.waitExpired_wait hq hr ht hx, ← hended]
      refine drain_done (d := ⟨i, tag, .ok, none, 0, 0, none, []⟩) 4095 ha hfree hw ?_
      rw [State.modSite_get]; exact hc
    have hexec : exec (.waitTimerExpiry i) s = (s.waitExpired i).finish := if_pos hp
    have hsite : ended.sites[i] = { s.sites[i] with queue := st :: rest, running := none, waitTimer := none } :=
      State.modSite_get _ i _
    have hstate : ended.sites[i].state = .running := by rw [hsite]; exact hst
    have hheld : ended.sites[i].held = s.sites[i].held := by rw [hsite]
    have hstart (hh : s.sites[i].held = false) : drain Config.cascadeBound (s.waitExpired i) = drain 4094 u := by
      refine hdrain.trans (drain_siteMovesOn 4094 ha (.inl hstate) (hheld.trans hh) ?_ ?_)
      · rw [hsite]
      · rw [hsite]; exact List.cons_ne_nil _ _
    rw [hexec]
    refine ⟨fun hh => ?_, fun hh hu => ?_, fun hh v hv => ?_⟩
    · refine State.finish_of_drain_noBacklog (hdrain.trans ?_) ⟨ha, hs, hw, hres⟩
      rw [State.siteMovesOn_held hstate (hheld.trans hh)]
      exact drain_nil _ _ ha
    · exact State.finish_of_drain_noBacklog ((hstart hh).trans (drain_nil _ _ hu.1)) hu
    · rw [← State.finish_of_drain_work (hstart hh) (State.startHead_rest_work ha hs) (by decide)]
      exact hv
  · subst hd
    intro moved
    have hmoved : drain Config.cascadeBound
        ((s.modLink fun k => { k with tx := some (.done e), completion := ds }).push .admitDone) =
          drain 4095 (moved.siteMovesOn d.site) := by
      refine (drain_admitDone (s := s.modLink fun k => { k with tx := some (.done e), completion := ds }) 4095 ha hwait
        hroom hc).trans ?_
      congr 2
      exact State.modSite_congr (by simp only [State.modLink_sites, hq, List.tail_cons])
    have hsettle := (frameSent_finish hl ha hrts htx hx hrep hcomp).trans hmoved
    have hexec : exec .txFrameEnd s = s.frameSent.finish := if_pos hp
    have hsite : moved.sites[d.site] = { s.sites[d.site] with queue := rest, running := none } := State.modSite_get _ d.site _
    have hstate : moved.sites[d.site].state = s.sites[d.site].state := by rw [hsite]
    have hheld : moved.sites[d.site].held = s.sites[d.site].held := by rw [hsite]
    have hqueue : moved.sites[d.site].queue = rest := by rw [hsite]
    have hrun : moved.sites[d.site].running = none := by rw [hsite]
    rw [hexec]
    refine ⟨fun hst hh hrest => ?_, fun hst hh => ?_, fun hst hh hrest hu => ?_⟩
    · rw [State.siteMovesOn_empty (hstate.trans hst) (hheld.trans hh) (hqueue.trans hrest), drain_nil _ _ (by exact ha)]
        at hsettle
      exact State.finish_of_settle hsettle ha
    · rw [State.siteMovesOn_held (hstate.trans hst) (hheld.trans hh), drain_nil _ _ (by exact ha)] at hsettle
      exact State.finish_of_settle hsettle ha
    · rw [drain_siteMovesOn 4094 (by exact ha) (by rw [hstate]; exact hst) (hheld.trans hh) hrun (by rw [hqueue]; exact hrest),
        drain_nil _ _ hu] at hsettle
      exact State.finish_of_settle hsettle hu

end Sys2Proof.Machine
end


section
set_option Elab.async false
/-! # RESUME (O26) -/

namespace Sys2Proof.Machine

variable {s t u v : State} {i : SiteId} {tag : Byte}

/-! ### What RESUME does in HELD (R15) -/

/-- The record of a HELD site that RESUME takes to IDLE, or to its next step. -/
theorem State.resumeHeld_of_not_suspended (h : ∀ n, s.sites[i].running ≠ some ⟨.suspended, n⟩) :
    s.resumeHeld i = (s.modSite i fun x => { x with held := false, state := .idle }).tryStart i := by
  unfold State.resumeHeld
  split
  · next n hr => exact absurd hr (h n)
  · rfl

/-- Without a step to start the site becomes IDLE. -/
theorem State.resumeHeld_idle (h : s.sites[i].running = none ∧ s.sites[i].queue = [] ∨
    ∃ n, s.sites[i].running = some ⟨.ended, n⟩) :
    s.resumeHeld i = s.modSite i fun x => { x with held := false, state := .idle } := by
  rw [State.resumeHeld_of_not_suspended]
  · unfold State.tryStart
    rw [State.mayStart_eq_false, if_neg (by decide)]
    rw [State.modSite_get]
    rcases h with ⟨-, hq⟩ | ⟨n, hr⟩
    · exact .inr (.inr hq)
    · exact .inr (.inl (by simp only [hr]; exact Option.some_ne_none _))
  · intro n hs
    rcases h with ⟨hr, -⟩ | ⟨m, hr⟩ <;> rw [hr] at hs <;> cases hs

/-- The head of the queue starts. -/
theorem State.resumeHeld_starts {st : Step} {rest : List Step} (hq : s.sites[i].queue = st :: rest)
    (hr : s.sites[i].running = none) :
    s.resumeHeld i = (s.modSite i fun x => { x with held := false, state := .idle }).startHead i := by
  rw [State.resumeHeld_of_not_suspended (fun n hs => by rw [hr] at hs; cases hs)]
  unfold State.tryStart
  rw [State.mayStart_of, if_pos rfl]
  all_goals rw [State.modSite_get]
  · exact .inl rfl
  · exact hr
  · simp only [hq]; exact List.cons_ne_nil _ _

/-- A SUSPENDED SCAN asks for room. -/
theorem State.resumeHeld_suspended {n : Nat} (hr : s.sites[i].running = some ⟨.suspended, n⟩) :
    s.resumeHeld i = (s.modSite i fun x =>
      { x with held := false, state := .running, running := some ⟨.active .blockWait, n⟩ }).askRoom i := by
  unfold State.resumeHeld
  rw [hr]

/-- A phase that is set again. -/
theorem State.setPhase_modSite {f : Site → Site} {ph : Phase} {n : Nat} (hr : (f s.sites[i]).running = some ⟨.active ph, n⟩)
    (ph' : Phase) : (s.modSite i f).setPhase i ph' =
      s.modSite i fun x => { f x with running := some ⟨.active ph', n⟩ } := by
  unfold State.setPhase
  rw [State.modSite_modSite]
  exact State.modSite_congr (by simp only [hr, Option.map_some])

theorem State.modRes_setPhase (f : SiteResults → SiteResults) (ph : Phase) :
    (s.modRes i f).setPhase i ph = (s.setPhase i ph).modRes i f := rfl

/-- While its closed block waits, the SCAN waits for room (R135). -/
theorem State.resumeHeld_waits {n : Nat} (hr : s.sites[i].running = some ⟨.suspended, n⟩)
    (hp : s.results.sites[i].pos = .closedWaiting) : s.resumeHeld i = s.modSite i fun x =>
      { x with held := false, state := .running, running := some ⟨.active .blockWait, n⟩ } := by
  rw [State.resumeHeld_suspended hr]
  unfold State.askRoom
  simp only [State.setPhase_modSite (f := fun x : Site => { x with
    held := false, state := .running, running := some ⟨.active .blockWait, n⟩ }) (n := n) rfl, State.modSite_results, hp,
    true_or, if_true]

/-! ### A SCAN whose pin is closed (R69, R122) -/

/-- The only closed pin of a lane. -/
theorem Lane.pinSet_of_pinRelays {x : Lane} {p : Pin} (h : x.pinRelays = [pinRelay p]) : x.pinSet = [p] := by
  unfold Lane.pinRelays at h
  unfold Lane.pinSet
  rw [h]
  simp [pinRelay]

theorem Lane.switchOpens_of_pinRelays {x : Lane} {p : Pin} (h : x.pinRelays = [pinRelay p]) : x.switchOpens p = [] := by
  unfold Lane.switchOpens
  rw [h]
  simp

/-- At a pin that is closed already a switch is its settle wait alone (R69). -/
theorem State.scanSwitch_closed {h : Handle} {p : Pin} {d : Duration} {l : LaneId} {r : Route}
    (hl : s.routeLane i h = some l) (hr : s.lanes[l].route = some r) (hst : r.state ≠ .live)
    (hb : s.pinsBusy (some l) [p] = false) (hp : s.lanes[l].pinRelays = [pinRelay p]) (hd : Duration.count d ≠ 0) :
    s.scanSwitch i h p d = s.modLane l fun x =>
      { x with route := some { r with state := .switching }, wait := some ⟨.settle, Timer.begin d s.time.now⟩ } := by
  unfold State.scanSwitch
  simp only [hl, hb, Bool.false_eq_true, if_false, Lane.switchOpens_of_pinRelays hp, List.isEmpty_nil, if_true]
  rw [State.setRoute_of_route (by decide) hr, State.disarmRoute_of_not_live hr hst]
  unfold State.switchClose
  have hpins : ((s.modLane l fun x => { x with route := some { r with state := .switching } }).lanes[l].pinSet).contains p
      = true := by
    rw [State.modLane_get]
    have hset : Lane.pinSet { s.lanes[l] with route := some { r with state := .switching } } = [p] :=
      Lane.pinSet_of_pinRelays hp
    rw [hset]; simp
  rw [if_pos hpins]
  unfold State.startWait State.pushIfZero
  rw [if_neg hd, State.modLane_modLane]
  rfl

/-- An action that asks for room while no closed block of its site waits has it (R135). -/
theorem State.askRoom_given (ha : s.agenda = []) (hpos : s.results.sites[i].pos ≠ .closedWaiting) :
    s.askRoom i = (s.setPhase i .blockWait).giveRoom i := by
  have hclosing : (s.setPhase i .blockWait).closing i = false := State.closing_nil _ i ha
  unfold State.askRoom
  exact if_neg (fun h => h.elim hpos fun hc => by rw [hclosing] at hc; cases hc)

/-- A SCAN that has room goes on to the switch to its point's pin (R122). -/
theorem State.giveRoom_scan {t : Byte} {m : MeterSpec} {d : Duration} {pts : List ScanPoint} {pt : ScanPoint}
    {rest : List Step} {ph : Phase} {n : Nat} (hq : s.sites[i].queue = ⟨t, .scan m d pts⟩ :: rest)
    (hr : s.sites[i].running = some ⟨.active ph, n⟩) (hpt : pts[n]? = some pt) : s.giveRoom i =
      ((s.modRes i fun x => { x with reserved := true }).setPhase i .switch).scanSwitch i m.handle pt.pin d := by
  have hactive : (s.modRes i fun x => { x with reserved := true }).active i = some (⟨t, .scan m d pts⟩, ph, n) := by
    unfold State.active
    simp only [State.modRes_sites, hq, hr]
  unfold State.giveRoom State.goOnWithRoom
  simp only [hactive, hpt]

/-- A SUSPENDED SCAN with room becomes ACTIVE at its point, whose pin is closed already (R15, R69, R122). -/
theorem State.resumeHeld_switch {t : Byte} {m : MeterSpec} {d : Duration} {pts : List ScanPoint} {pt : ScanPoint}
    {rest : List Step} {n : Nat} {l : LaneId} {r : Route} (ha : s.agenda = [])
    (hq : s.sites[i].queue = ⟨t, .scan m d pts⟩ :: rest) (hrun : s.sites[i].running = some ⟨.suspended, n⟩)
    (hpt : pts[n]? = some pt) (hpos : s.results.sites[i].pos ≠ .closedWaiting) (hl : s.routeLane i m.handle = some l)
    (hr : s.lanes[l].route = some r) (hst : r.state ≠ .live) (hb : s.pinsBusy (some l) [pt.pin] = false)
    (hp : s.lanes[l].pinRelays = [pinRelay pt.pin]) (hd : Duration.count d ≠ 0) :
    s.resumeHeld i = ((s.modSite i fun x =>
        { x with held := false, state := .running, running := some ⟨.active .switch, n⟩ }).modRes i fun x =>
        { x with reserved := true }).modLane l fun x =>
        { x with route := some { r with state := .switching }, wait := some ⟨.settle, Timer.begin d s.time.now⟩ } := by
  rw [State.resumeHeld_suspended hrun]
  rw [State.askRoom_given (by rw [State.modSite_agenda, ha]) (by rw [State.modSite_results]; exact hpos),
    State.setPhase_modSite (n := n) (by rfl),
    State.giveRoom_scan (t := t) (m := m) (d := d) (pts := pts) (pt := pt) (rest := rest) (ph := .blockWait) (n := n)
      (by rw [State.modSite_get]; exact hq) (by rw [State.modSite_get]) hpt,
    State.scanSwitch_closed (l := l) (r := r) (by exact hl) (by exact hr) hst (by exact hb) (by exact hp) hd,
    State.modRes_setPhase, State.setPhase_modSite (n := n) (by rfl)]
  rfl

@[simp] theorem State.arrive_pinsBusy (l : Option LaneId) (ps : List Pin) : s.arrive.pinsBusy l ps = s.pinsBusy l ps :=
  s.arrive_frame (fun t => t.pinsBusy l ps) (fun _ _ => rfl) fun _ _ => rfl

/-- Settles O26: RESUME by the site's state, and in HELD by its running step and its queue. -/
theorem resumeByState : Obligations.ResumeByState := by
  intro tag s i hr c
  have hag : s.agenda = [] := hr.2.2.1
  have hexec : exec c s = request .resume tag (siteByte i) s := rfl
  have htake : s.arrive.takeRequest .resume ⟨tag, siteByte i⟩ = s.arrive.takeResume ⟨tag, siteByte i⟩ := rfl
  have hheld (hst : s.sites[i].state = .held) : s.arrive.takeRequest .resume ⟨tag, siteByte i⟩ =
      (s.arrive.resumeHeld i).answerHold 0x04 ⟨tag, siteByte i⟩ i := by
    simp only [htake, State.takeResume, siteOf_siteByte, State.arrive_sites, hst]
  rw [hexec]
  refine ⟨fun hst => ?_, fun hst => ?_, fun hst hrest => ?_, fun n hst hrun hpos => ?_,
    fun t d rest hst hq hrun hd => ?_, fun t m d pts pt rest n l r hst hq hrun hpt hpos hl hroute hready hb hp hd => ?_,
    fun st rest hst hq hrun => ?_, fun hst => ?_⟩
  · refine request_answered hr trivial (htake.trans ?_) (by simpa using hag) (by simp)
    simp only [State.takeResume, siteOf_siteByte, State.arrive_sites, hst]
    refine State.answerHold_eq (n := 1) (b := false) ?_ ?_
    · rw [State.modSite_get, State.arrive_sites, hst]; rfl
    · rw [State.modSite_get]
  · refine request_refused hr trivial (htake.trans ?_)
    simp only [State.takeResume, siteOf_siteByte, State.arrive_sites, hst]
    exact State.answerHold_eq (by rw [State.arrive_sites, hst]; rfl) (by rw [State.arrive_sites])
  · refine request_answered hr trivial ((hheld hst).trans ?_) (by simpa using hag) (by simp)
    rw [State.resumeHeld_idle (by rw [State.arrive_sites]; exact hrest)]
    refine State.answerHold_eq (n := 0) (b := false) ?_ ?_
    · rw [State.modSite_get]; rfl
    · rw [State.modSite_get]
  · refine request_answered hr trivial ((hheld hst).trans ?_) (by simpa using hag) (by simp)
    rw [State.resumeHeld_waits (n := n) (by rw [State.arrive_sites]; exact hrun) (by rw [State.arrive_results]; exact hpos)]
    refine State.answerHold_eq (n := 1) (b := false) ?_ ?_
    · rw [State.modSite_get]; rfl
    · rw [State.modSite_get]
  · refine request_answered hr trivial ((hheld hst).trans ?_) (by simpa using hag) (by simp)
    rw [State.resumeHeld_starts (st := ⟨t, .wait d⟩) (rest := rest) (by rw [State.arrive_sites]; exact hq)
        (by rw [State.arrive_sites]; exact hrun),
      State.startHead_wait (tag := t) (d := d) (rest := rest) (by rw [State.modSite_get, State.arrive_sites]; exact hq) hd,
      State.modSite_modSite, State.modSite_time, State.arrive_now]
    refine State.answerHold_eq (n := 1) (b := false) ?_ ?_
    · rw [State.modSite_get]; rfl
    · rw [State.modSite_get]
  · refine request_answered hr trivial ((hheld hst).trans ?_) (by simpa using hag) (by simp)
    rw [State.resumeHeld_switch (t := t) (m := m) (d := d) (pts := pts) (pt := pt) (rest := rest) (n := n) (l := l) (r := r)
      (by simpa using hag) (by rw [State.arrive_sites]; exact hq) (by rw [State.arrive_sites]; exact hrun) hpt
      (by rw [State.arrive_results]; exact hpos) (by rw [State.arrive_routeLane]; exact hl)
      (by rw [State.arrive_lanes]; exact hroute) (by rw [hready]; decide) (by rw [State.arrive_pinsBusy]; exact hb)
      (by rw [State.arrive_lanes]; exact hp) hd, State.arrive_now]
    refine State.answerHold_eq (n := 1) (b := false) ?_ ?_
    · rw [State.modLane_sites, State.modRes_sites, State.modSite_get]; rfl
    · rw [State.modLane_sites, State.modRes_sites, State.modSite_get]
  · intro u data
    have htaken : s.arrive.takeRequest .resume ⟨tag, siteByte i⟩ = u.reply 0x04 tag (siteByte i) .ok data := by
      rw [hheld hst, State.resumeHeld_starts (st := st) (rest := rest) (by rw [State.arrive_sites]; exact hq)
        (by rw [State.arrive_sites]; exact hrun)]
      rfl
    refine ⟨fun ha hs => request_answered hr trivial htaken ha hs, fun t ht => ?_⟩
    have hstart : u.work ≤ 4094 := State.startHead_rest_work (by simpa using hag) (by simp)
    have hreply : ((u.reply 0x04 tag (siteByte i) .ok data).modLink fun k =>
        { k with marker := some (0x04, siteByte i) }).work = u.work := State.work_congr rfl rfl rfl rfl rfl
    rw [← State.finish_of_drain_work (n := 4095)
      ((request_drain (r := .resume) hr trivial).trans (by rw [htaken]; rfl)) ?_ (by decide)]
    · rw [← request_eq_finish hr]; exact ht
    · rw [State.work_push, hreply]
      simp only [Task.weight]
      omega
  · refine request_refused hr trivial (htake.trans ?_)
    rcases hst with hst | hst | hst | hst <;> simp only [State.takeResume, siteOf_siteByte, State.arrive_sites, hst] <;> rfl

end Sys2Proof.Machine
end


section
set_option Elab.async false
/-! # The meter's port keeps its description (O57)

Each elementary change of a command (`Change`) keeps port 0's description: an update of a port record says so itself, and a
start-up puts the fixed description in its place (R29, R182). -/

namespace Sys2Proof.Machine

variable {s t : State}

theorem State.meterPortFixed_of_ports (hs : s.meterPortFixed) (hports : t.ports = s.ports) : t.meterPortFixed := by
  unfold State.meterPortFixed
  rw [hports]
  exact hs

/-- An update of one port record that keeps its description, or is of another port. -/
theorem State.meterPortFixed_modPort (hs : s.meterPortFixed) (p : PortId) (f : Port → Port)
    (hdesc : (f s.ports[p]).desc = s.ports[p].desc ∨ p ≠ 0) : (s.modPort p f).meterPortFixed := by
  unfold State.meterPortFixed
  rw [State.modPort_ports, upd_get]; split
  · next hp =>
    subst hp
    exact (hdesc.resolve_right (fun h => h rfl)).trans hs
  · exact hs

theorem Calm.keeps_meterPort (h : Calm s t) (hs : s.meterPortFixed) : t.meterPortFixed := by
  cases h with
  | aside _ _ hports => exact State.meterPortFixed_of_ports hs hports
  | notice n => exact State.meterPortFixed_of_ports hs (s.notice_ports n)
  | port p f _ hdesc => exact State.meterPortFixed_modPort hs p f hdesc
  | ports f _ hdesc =>
    unfold State.meterPortFixed at hs ⊢
    simpa [hdesc] using hs
  | link | enter | forget | site | accept | lane | load | route | grant | condemned | health | wear | store | results =>
    exact State.meterPortFixed_of_ports hs rfl

/-- A start-up gives port 0 its fixed description, whatever the CONFIG item holds (R29, R182). -/
theorem Stored.loadConfig_meterPort (n : Stored) : n.loadConfig.2[(0 : PortId)] = PortDesc.meter := by
  unfold Stored.loadConfig
  cases n.readConfig <;> simp [PortDesc.defaults]

theorem State.loaded_meterPort (s : State) : s.loaded.meterPortFixed := by
  unfold State.meterPortFixed State.loaded
  simp only [Fin.getElem_fin, Vector.getElem_map, Port.fresh]
  exact s.store.stored.loadConfig_meterPort

theorem State.unpowered_meterPort (s : State) : s.unpowered.meterPortFixed := by
  unfold State.meterPortFixed State.unpowered State.reset
  simp [Port.fresh]

theorem Change.keeps_meterPort (h : Change s t) (hs : s.meterPortFixed) : t.meterPortFixed := by
  cases h with
  | calm h => exact h.keeps_meterPort hs
  | arm l r =>
    exact State.meterPortFixed_of_ports (s := s.modPort r.port fun x => { x with arm := true })
      (State.meterPortFixed_modPort hs r.port _ (.inl rfl)) rfl
  | notes | link | site | remove | renew => exact State.meterPortFixed_of_ports hs rfl
  | loaded => exact s.loaded_meterPort
  | unpowered => exact s.unpowered_meterPort

/-- Settles O57: each elementary change keeps port 0's description, so each step does. -/
theorem meterPortKept : Obligations.MeterPortKept := fun _ _ hs h =>
  step_keeps (fun _ _ hu => State.meterPortFixed_of_ports hu rfl) Change.keeps_meterPort h hs

end Sys2Proof.Machine
end


section
set_option Elab.async false
/-! # PORT_SET (O21) -/

namespace Sys2Proof.Machine

variable {s : State} {p : PortId}

/-! ### STORE: what it does not change -/

/-- What neither the store's writes nor a lane's unsaved sum change, an item that becomes due does not change
(R152, R177). -/
theorem State.due_frame {β : Type} (g : State → β)
    (hstore : ∀ (f : Store → Store) (t : State), (f t.store).config = t.store.config → g (t.modStore f) = g t)
    (hwear : ∀ (l : LaneId) (t : State), g (t.modWear l fun x => { x with unsaved := 0 }) = g t) (it : ItemId) (s : State) :
    g (s.due it) = g s := by
  have hbegin (t : State) : g t.beginWrite = g t := by
    unfold State.beginWrite; split
    · split
      · rfl
      · simp only; split
        · exact (hwear _ _).trans (hstore _ _ rfl)
        · exact hstore _ _ rfl
    · rfl
  unfold State.due
  rw [hbegin]; split
  · rfl
  · exact hstore _ _ rfl

/-- The same for an item whose RAM copy has changed. -/
theorem State.touch_due_frame {β : Type} (g : State → β)
    (hstore : ∀ (f : Store → Store) (t : State), (f t.store).config = t.store.config → g (t.modStore f) = g t)
    (hwear : ∀ (l : LaneId) (t : State), g (t.modWear l fun x => { x with unsaved := 0 }) = g t) (it : ItemId) (s : State) :
    g ((s.touch it).due it) = g s :=
  (State.due_frame g hstore hwear it _).trans (hstore _ _ rfl)

/-! ### The fields of a PORT_SET (R31, R196) -/

@[simp] theorem portKindOf_code (k : PortKind) : portKindOf (byte k.code) = some k := by cases k <;> rfl

@[simp] theorem triggerStyleOf_code (t : TriggerStyle) : triggerStyleOf (byte t.code) = some t := by cases t <;> rfl

theorem portKindOf_of_gt {b : Byte} (h : 2 < b.toNat) : portKindOf b = none := by
  unfold portKindOf; split
  · omega
  · omega
  · omega
  · rfl

theorem triggerStyleOf_of_gt {b : Byte} (h : 1 < b.toNat) : triggerStyleOf b = none := by
  unfold triggerStyleOf; split
  · omega
  · omega
  · rfl

/-- An external port with a kind and a style is described as given, its width clamped (R31). -/
theorem portSetFields_some (hp : p ≠ 0) (kind : PortKind) (hv : Bool) (style : TriggerStyle) (w : BitVec 16) :
    portSetFields (byte p.val) (byte kind.code) hv (byte style.code) w =
      some (p, ⟨kind, hv, style, clampWidth w.toNat⟩) := by
  simp only [portSetFields, fin?_byte (by decide : 12 ≤ 256), portKindOf_code, triggerStyleOf_code, hp, if_false]

/-- Port 0, a port above 11, an unknown kind and an unknown style select nothing (R31). -/
theorem portSetFields_none {b k st : Byte} (h : b = 0 ∨ 11 < b.toNat ∨ 2 < k.toNat ∨ 1 < st.toNat) (hv : Bool)
    (w : BitVec 16) : portSetFields b k hv st w = none := by
  unfold portSetFields; split
  · next p kind style hport hkind hstyle =>
    rcases h with rfl | h | h | h
    · obtain rfl : p = 0 := Option.some.inj (hport.symm.trans (by decide))
      exact if_pos rfl
    · rw [fin?_eq_none_iff.mpr (by omega)] at hport; cases hport
    · rw [portKindOf_of_gt h] at hkind; cases hkind
    · rw [triggerStyleOf_of_gt h] at hstyle; cases hstyle
  · rfl

/-! ### The request -/

theorem State.modPort_id {f : Port → Port} (h : f s.ports[p] = s.ports[p]) : s.modPort p f = s := by
  simp only [State.modPort, upd_id s.ports p f h]

theorem State.takePortSet_badField {b k st : Byte} (h : b = 0 ∨ 11 < b.toNat ∨ 2 < k.toNat ∨ 1 < st.toNat) (hv : Bool)
    (w : BitVec 16) (tag : Byte) :
    s.takePortSet b k hv st w ⟨tag, partByte⟩ = s.reply 0x0B tag partByte .badField [] := by
  simp only [State.takePortSet, portSetFields_none h, ne_eq, not_true_eq_false, if_false]
  rfl

theorem State.takePortSet_claimed (hp : p ≠ 0) (hc : s.ports[p].claim ≠ none) (kind : PortKind) (hv : Bool)
    (style : TriggerStyle) (w : BitVec 16) (tag : Byte) :
    s.takePortSet (byte p.val) (byte kind.code) hv (byte style.code) w ⟨tag, partByte⟩ =
      s.reply 0x0B tag partByte .portBusy [] := by
  simp only [State.takePortSet, portSetFields_some hp, ne_eq, not_true_eq_false, if_false,
    Option.isSome_iff_ne_none.mpr hc, if_true]
  rfl

/-- An unclaimed port takes the description, and CONFIG is due if it differs from the one it had (R31). -/
theorem State.takePortSet_stored (hp : p ≠ 0) (hc : s.ports[p].claim = none) (kind : PortKind) (hv : Bool)
    (style : TriggerStyle) (w : BitVec 16) (tag : Byte) :
    s.takePortSet (byte p.val) (byte kind.code) hv (byte style.code) w ⟨tag, partByte⟩ =
      ((s.modPort p fun x => { x with desc := ⟨kind, hv, style, clampWidth w.toNat⟩ }).configDue
        (decide (s.ports[p].desc ≠ ⟨kind, hv, style, clampWidth w.toNat⟩))).reply 0x0B tag partByte .ok
        (byte p.val :: PortDesc.bytes ⟨kind, hv, style, clampWidth w.toNat⟩) := by
  simp only [State.takePortSet, portSetFields_some hp, ne_eq, not_true_eq_false, if_false, hc, Option.isSome_none,
    Bool.false_eq_true]
  rfl

/-- Settles O21: the refusals; then the description stored, with CONFIG due where it changes. -/
theorem portSetStores : Obligations.PortSetStores := by
  intro tag s hr
  have hag : s.arrive.agenda = [] := by rw [State.arrive_agenda]; exact hr.2.2.1
  refine ⟨fun b k st hv w hbad => ?_, ?_⟩
  · exact request_refused (r := .portSet b k hv st w) hr trivial (State.takePortSet_badField hbad hv w tag)
  intro p kind hv style w hp d c
  rw [show exec c s = request (.portSet (byte p.val) (byte kind.code) hv (byte style.code) w) tag partByte s from rfl]
  have hstored (hc : s.ports[p].claim = none) :
      s.arrive.takePortSet (byte p.val) (byte kind.code) hv (byte style.code) w ⟨tag, partByte⟩ =
        ((s.arrive.modPort p fun x => { x with desc := d }).configDue (decide (s.ports[p].desc ≠ d))).reply 0x0B tag
          partByte .ok (byte p.val :: d.bytes) := by
    rw [← State.arrive_ports] at hc ⊢
    exact State.takePortSet_stored hp hc kind hv style w tag
  refine ⟨fun hc => ?_, fun hc hd => ?_, fun hc hd => ?_⟩
  · exact request_refused hr trivial
      (State.takePortSet_claimed hp (by rw [State.arrive_ports]; exact hc) kind hv style w tag)
  · refine request_refused hr trivial ((hstored hc).trans ?_)
    rw [State.modPort_id (by rw [State.arrive_ports, ← hd])]
    rw [decide_eq_false (not_not_intro hd)]
    rfl
  · refine request_answered hr trivial ((hstored hc).trans ?_) ?_ ?_
    · rw [decide_eq_true hd]
      rfl
    · exact (State.touch_due_frame State.agenda (fun _ _ _ => rfl) (fun _ _ => rfl) _ _).trans hag
    · exact (State.touch_due_frame (fun t => t.link.slots) (fun _ _ _ => rfl) (fun _ _ => rfl) _ _).trans (by simp)

end Sys2Proof.Machine
end


section
set_option Elab.async false
/-! # Failures of a waiting step: the claim timer and the done timer (O38, O40) -/

namespace Sys2Proof.Machine

variable {s : State} {i : SiteId} {p : PortId} {st : Step} {rest : List Step}

/-! ### A logic failure and its follow-ups (R11) -/

/-- The ACTIVE step of a site, its phase and its point. -/
theorem State.active_eq {ph : Phase} {n : Nat} (hq : s.sites[i].queue = st :: rest)
    (hr : s.sites[i].running = some ⟨.active ph, n⟩) : s.active i = some (st, ph, n) := by
  unfold State.active
  simp only [hq, hr]

/-- A timer whose expiry the count has reached (R166). -/
theorem State.expired_of_le {t : Timer} (h : t.expiry ≤ s.time.now) : s.expired (some t) = some t := if_pos h

/-- A logic failure at an event without other follow-ups: the step's DONE, then the closing of its site's block (R11, R140). -/
theorem State.failLogic_eq {r : Running} (f : Failure) (hq : s.sites[i].queue = st :: rest)
    (hr : s.sites[i].running = some r) (ha : s.agenda = []) : s.failLogic i f =
      ((s.modSite i fun x => { x with queue := [st], running := some { r with progress := .ended }, held := false,
                                      state := .stopped, stopCause := some f, claimTimer := none }).push
        (.done (makeDone i st r.point .failed (some f) none (rest.map Step.tag)))).push (.closure i .ended) := by
  unfold State.failLogic
  simp only
  rw [State.finishStep_eq (st := st) (rest := []) (r := r) _ _ _ _ (by rw [State.modSite_get, hq]; rfl)
      (by rw [State.modSite_get]; exact hr), State.modSite_modSite, State.noteClosure_push]
  · unfold Site.tailTags
    rw [hq]
    refine congrArg (fun v : State => (v.push _).push _) (State.modSite_congr ?_)
    simp only [hq]
    rfl
  · simp [State.closing, ha, Task.closes]

/-- A logic failure with room for its DONE and its block: what the event comes to. -/
theorem State.failLogic_finish {r : Running} (f : Failure) (hb : s.noBacklog) (hq : s.sites[i].queue = st :: rest)
    (hr : s.sites[i].running = some r) (hc : s.sites[i].carried = []) (hfree : s.link.completion.length < 16)
    (hout : s.results.outbound.length < 16) : (s.failLogic i f).finish = .next (((s.modLink fun k =>
      { k with completion := k.completion ++ [makeDone i st r.point .failed (some f) none (rest.map Step.tag)] }).modSite i
      fun x => { x with queue := [], running := none, held := false, state := .stopped, stopCause := some f,
                        claimTimer := none }).closeBlock i .ended).transmit := by
  obtain ⟨ha, hslots, hwait, hclosed⟩ := hb
  rw [State.failLogic_eq f hq hr ha]
  generalize hD : makeDone i st r.point .failed (some f) none (rest.map Step.tag) = D
  have hsite : D.site = i := by rw [← hD]; rfl
  refine State.finish_of_drain_noBacklog (drain_done_closure .ended 4094 hsite ?_ ?_ ?_ ?_ ?_ ?_ |>.trans ?_) ?_
  · exact ha
  · exact hfree
  · exact hwait
  · rw [State.modSite_get]; exact hc
  · rw [State.modSite_get]; exact nofun
  · rw [State.modSite_get]; exact nofun
  · rw [State.modSite_modLink, State.modSite_modSite]
    rfl
  · rw [State.closeBlock_eq]
    exact ⟨ha, hslots, hwait, closedResults_waiting hclosed hout⟩

/-- Settles O38: the CONNECT leaves the waiter lists and fails by the wait it was in. -/
theorem claimTimerFailsConnect : Obligations.ClaimTimerFailsConnect := by
  intro s i t st rest ph n h p d e pins hb ht hx hq hbody hr hc hfree hout hph f
  have hstop : s.claimExpired i =
      ((s.leaveLists i).modSite i fun x => { x with claimTimer := none }).failLogic i f := by
    have hactive : (s.modSite i fun x => { x with claimTimer := none }).active i = some (st, ph, n) :=
      State.active_eq (rest := rest) (by rw [State.modSite_get]; exact hq) (by rw [State.modSite_get]; exact hr)
    unfold State.claimExpired
    simp only [ht, State.expired_of_le hx, hactive]
    rcases hph with rfl | rfl <;> rfl
  have hdone : makeDone i st n .failed (some f) none (rest.map Step.tag) =
      ⟨i, st.tag, .failed, some f, 0, 0, none, rest.map Step.tag⟩ := by
    simp only [makeDone, hbody]
  have hend := State.failLogic_finish (s := (s.leaveLists i).modSite i fun x => { x with claimTimer := none }) f hb.2
    (by rw [State.modSite_get]; exact hq) (by rw [State.modSite_get]; exact hr) (by rw [State.modSite_get]; exact hc)
    hfree hout
  rw [hdone, State.modSite_modLink, State.modSite_modSite] at hend
  have hexec : exec (.claimTimerExpiry i) s = (s.claimExpired i).finish := if_pos hb.1
  rw [hexec, hstop]
  exact hend

/-! ### The done timer (R42) -/

/-- The end of a trigger wait releases a HOLD-style line and leaves a pulse (R40). -/
theorem State.endTriggerWait_eq (p : PortId) : s.endTriggerWait p = s.modPort p fun x =>
    { x with wait := none, doneTimer := none, trigger := x.trigger && decide (x.desc.style ≠ .hold) } := by
  refine State.modPort_congr ?_
  cases s.ports[p].desc.style <;> simp

/-- Settles O40: the trigger wait ends without a reading, the place is given back, and the TRIGGER fails. -/
theorem doneTimerFailsTrigger : Obligations.DoneTimerFailsTrigger := by
  intro s p t w st rest n h d hb ht hx hw hq hbody hr hc hfree hout
  have hstop : s.doneExpired p = ((s.endTriggerWait p).giveBack w.site).failLogic w.site .triggerTimeout := by
    unfold State.doneExpired
    simp only [ht, State.expired_of_le hx, hw]
  rw [State.endTriggerWait_eq] at hstop
  have hdone : makeDone w.site st n .failed (some .triggerTimeout) none (rest.map Step.tag) =
      ⟨w.site, st.tag, .failed, some .triggerTimeout, 0, 0, none, rest.map Step.tag⟩ := by
    simp only [makeDone, hbody]
  have hend := State.failLogic_finish (s := (s.modPort p fun x => { x with
    wait := none, doneTimer := none, trigger := x.trigger && decide (x.desc.style ≠ .hold) }).giveBack w.site)
    .triggerTimeout hb.2 hq hr hc hfree hout
  rw [hdone] at hend
  have hexec : exec (.doneTimerExpiry p) s = (s.doneExpired p).finish := if_pos hb.1
  rw [hexec, hstop]
  exact hend

end Sys2Proof.Machine
end


section
set_option Elab.async false
/-! # The done line and the pulse (O50) -/

namespace Sys2Proof.Machine

variable {s : State} {p : PortId}

/-! ### The done line (R41, R43) -/

/-- A line that comes to be asserted ends the port's trigger wait, or raises STRAY_DONE (R41, R43). -/
theorem State.doneAsserted_rise (hp : p ≠ 0) (hd : s.pins.done[p] = false) :
    s.doneAsserted p = match s.ports[p].wait with
      | some w => (s.modPins fun q => { q with done := upd q.done p fun _ => true }).markDone p w
      | none => (s.modPins fun q => { q with done := upd q.done p fun _ => true }).notice (.strayDone p s.time.now) := by
  unfold State.doneAsserted
  simp only [hd, hp, decide_false, Bool.or_self, Bool.false_eq_true, if_false]
  rfl

/-- A line that is held asserted gives no event (R41). -/
theorem State.doneAsserted_held (hd : s.pins.done[p] = true) : s.doneAsserted p = s := by
  unfold State.doneAsserted
  rw [hd, Bool.true_or, if_pos rfl]

/-- A reading with a place reserved opens a block that holds more than one (R137). -/
theorem State.place_opens {i : SiteId} {r : Reading} (hres : s.results.sites[i].reserved = true)
    (hpos : s.results.sites[i].pos = .empty) (hfill : 1 < s.blockFill) :
    s.place i r = s.modRes i fun x => { x with reserved := false, pos := .opened s.blockFill [r] } := by
  unfold State.place
  simp only [hres, hpos, if_true, if_neg (Nat.not_le.mpr hfill)]

/-- A TRIGGER that runs alone ends OK: its DONE enters the completion queue, and the site enters IDLE (R10, R192). -/
theorem State.endOk_trigger_finish {i : SiteId} {tag : Byte} {h : Handle} {d : Duration} {ph : Phase} {n : Nat}
    (hb : s.noBacklog) (halone : s.runsAlone i ⟨tag, .trigger h d⟩ ph n) : (s.endOk i).finish =
      .next ((s.doneQueued ⟨i, tag, .ok, none, 0, 0, none, []⟩).modSite i fun x => { x with state := .idle }).transmit := by
  obtain ⟨ha, hslots, hwait, hclosed⟩ := hb
  obtain ⟨hq, hr, hst, hheld, hc, hfree⟩ := halone
  have hdone : s.endOk i = (s.modSite i fun x => { x with running := some ⟨.ended, n⟩ }).push
      (.done ⟨i, tag, .ok, none, 0, 0, none, []⟩) :=
    State.finishStep_eq _ _ _ _ hq hr
  rw [hdone]
  refine State.finish_of_drain_noBacklog (drain_done 4095 ?_ ?_ ?_ ?_ |>.trans ?_) ⟨ha, hslots, hwait, hclosed⟩
  · exact ha
  · exact hfree
  · exact hwait
  · rw [State.modSite_get]; exact hc
  · rw [State.siteMovesOn_empty, drain_nil _ _ (by exact ha)]
    · unfold State.doneQueued
      rw [State.modSite_modLink, State.modSite_modSite, State.modSite_modSite, State.modSite_modSite]
      exact State.modSite_congr (by simp only [State.modLink_sites, hq, List.tail_cons])
    all_goals simp only [State.modSite_get, State.modLink_sites]
    · exact hst
    · exact hheld
    · rw [hq]; rfl

/-! ### The pulse (R39, R40) -/

theorem State.modPort_get (s : State) (p : PortId) (f : Port → Port) : (s.modPort p f).ports[p] = f s.ports[p] := by
  rw [State.modPort_ports, upd_get, if_pos rfl]

/-- The ACTIVE step is the site's running step. -/
theorem State.running_of_active {i : SiteId} {st : Step} {ph : Phase} {n : Nat} (h : s.active i = some (st, ph, n)) :
    s.sites[i].running = some ⟨.active ph, n⟩ := by
  unfold State.active at h; split at h
  · next hr => cases h; exact hr
  · cases h

/-- No TRIGGER waits for the pulse where the claiming site runs none in that wait. -/
theorem State.pulseWaiter_none (h : ∀ c : Claim, s.ports[p].claim = some c → ∀ n : Nat,
    s.sites[c.site].running ≠ some ⟨.active .pulseWait, n⟩) : s.pulseWaiter p = none := by
  unfold State.pulseWaiter; split
  · rfl
  · next c hc =>
    split
    · next hactive => exact absurd (State.running_of_active hactive) (h c hc _)
    · rfl

/-- The TRIGGER of the claiming site that waits for the pulse of its route's port (R39). -/
theorem State.pulseWaiter_some {c : Claim} {tag : Byte} {d : Duration} {rest : List Step} {n : Nat} {l : LaneId} {r : Route}
    (hc : s.ports[p].claim = some c) (hq : s.sites[c.site].queue = ⟨tag, .trigger c.handle d⟩ :: rest)
    (hr : s.sites[c.site].running = some ⟨.active .pulseWait, n⟩) (hl : s.routeLane c.site c.handle = some l)
    (hroute : s.lanes[l].route = some r) (hport : r.port = p) : s.pulseWaiter p = some (c.site, tag, d) := by
  unfold State.pulseWaiter State.findRoute
  simp only [hc, State.active_eq hq hr, hl, hroute, Option.map_some, hport, if_true]

/-- The end of a pulse does not change which TRIGGER waits for it. -/
theorem State.pulseWaiter_release : (s.modPort p fun x => { x with trigger := false, pulseTimer := none }).pulseWaiter p =
    s.pulseWaiter p := by
  unfold State.pulseWaiter
  rw [State.modPort_get]
  rfl

/-- The pulse ends: its line is released, and a TRIGGER that waited for it triggers (R39, R40). -/
theorem State.pulseExpired_eq {t : Timer} (ht : s.ports[p].pulseTimer = some t) (hx : t.expiry ≤ s.time.now) :
    s.pulseExpired p = match s.pulseWaiter p with
      | some (i, tag, d) =>
        (s.modPort p fun x => { x with trigger := false, pulseTimer := none }).assertTrigger i tag p d
      | none => s.modPort p fun x => { x with trigger := false, pulseTimer := none } := by
  rw [← State.pulseWaiter_release]
  unfold State.pulseExpired
  simp only [ht, State.expired_of_le hx] <;> rfl

/-- A TRIGGER with a done timeout drives its line: nothing else follows at this event (R39). -/
theorem State.assertTrigger_eq {i : SiteId} {ph : Phase} {n : Nat} (tag : Byte) {d : Duration}
    (hr : s.sites[i].running = some ⟨.active ph, n⟩) (hd : Duration.count d ≠ 0) : s.assertTrigger i tag p d =
      (s.modPort p fun x => { x with
        trigger := true, wait := some ⟨i, tag, s.time.now⟩, doneTimer := some (Timer.begin d s.time.now),
        pulseTimer := if x.desc.style = .pulse then some (Timer.micros x.desc.width s.time.now) else x.pulseTimer }).modSite
        i fun x => { x with running := some ⟨.active .doneWait, n⟩ } := by
  unfold State.assertTrigger State.pushIfZero State.setPhase
  simp only [if_neg hd]
  exact State.modSite_congr (by simp only [State.modPort_sites, hr, Option.map_some])

/-- A notice lets nothing wait. -/
theorem State.noBacklog.notice (h : s.noBacklog) (n : Notice) : (s.notice n).noBacklog := by
  obtain ⟨ha, hslots, hwait, hclosed⟩ := h
  refine ⟨(s.notice_agenda n).trans ha, ?_, ?_, ?_⟩
  · rw [State.notice_link_frame Link.slots (fun _ _ => rfl)]; exact hslots
  · rw [State.notice_link_frame Link.doneWaiting (fun _ _ => rfl)]; exact hwait
  · rw [State.notice_results]; exact hclosed

/-- Settles O50: the done line by the trigger wait it finds, the pulse by the TRIGGER that waits for it. -/
theorem doneLineAndPulse : Obligations.DoneLineAndPulse := by
  refine ⟨fun s p hb hp => ?_, fun s p t hb ht hx => ?_⟩
  · have hassert : exec (.doneLineAssert p) s = (s.doneAsserted p).finish := if_pos hb.1
    refine ⟨?_, fun hd hw => ?_, fun hd => ?_, inputEvent_next _ _ s hb.1 hb.2⟩
    · intro w tag h d n hd hw halone hpos hres hfill mark
      have hrise := State.doneAsserted_rise hp hd
      simp only [hw] at hrise
      rw [hassert, hrise]
      unfold State.markDone
      rw [State.endTriggerWait_eq]
      simp only
      rw [State.place_opens (by exact hres) (by exact hpos) (by exact hfill)]
      exact State.endOk_trigger_finish hb.2 halone
    · have hrise := State.doneAsserted_rise hp hd
      simp only [hw] at hrise
      rw [hassert, hrise]
      exact State.finish_noBacklog _ (State.noBacklog.notice (s := s.modPins _) hb.2 _)
    · rw [hassert, State.doneAsserted_held hd]
      exact State.finish_noBacklog s hb.2
  · have hexpiry : exec (.pulseTimerExpiry p) s = (s.pulseExpired p).finish := if_pos hb.1
    have hend := State.pulseExpired_eq ht hx
    refine ⟨fun hidle => ?_, ?_⟩
    · rw [State.pulseWaiter_none hidle] at hend
      rw [hexpiry, hend]
      exact State.finish_noBacklog _ hb.2
    · intro c tag d rest n l r hc hq hr hl hroute hport hd
      rw [State.pulseWaiter_some hc hq hr hl hroute hport] at hend
      simp only at hend
      rw [State.assertTrigger_eq tag (by exact hr) hd, State.modPort_modPort] at hend
      rw [hexpiry, hend]
      exact State.finish_noBacklog _ hb.2

end Sys2Proof.Machine
end


section
set_option Elab.async false
/-! # CONNECT, claims and lanes (O35) -/

namespace Sys2Proof.Machine

variable {s : State} {i : SiteId} {l : LaneId}

/-! ### The allocator's choice (R57) -/

theorem allLanes_sorted : allLanes.Pairwise (· < ·) := by decide

theorem State.qualifies_iff : s.qualifies l = true ↔ s.lanes[l].state = .free ∧ s.pins.live[l] = false := by
  simp [State.qualifies, State.isLive]

/-- While the leveling latch is clear, the lowest qualifying lane is chosen (R57). -/
theorem State.chooseLane_unlevelled (h : s.health.record.latch = false) :
    s.chooseLane = allLanes.find? s.qualifies := by
  rw [← List.head?_filter]
  unfold State.chooseLane
  cases allLanes.filter s.qualifies with
  | nil => rfl
  | cons k ks => simp only [h, Bool.false_eq_true, if_false, List.head?_cons]

/-- No lane is chosen exactly where none qualifies (R57). -/
theorem State.chooseLane_none_iff : s.chooseLane = none ↔ ∀ l : LaneId, s.qualifies l = false := by
  have hfilter : s.chooseLane = none ↔ allLanes.filter s.qualifies = [] := by
    unfold State.chooseLane
    cases allLanes.filter s.qualifies with
    | nil => simp
    | cons k ks => simp only [reduceCtorEq, iff_false]; split <;> simp
  rw [hfilter, List.filter_eq_nil_iff]
  exact ⟨fun h l => Bool.eq_false_iff.mpr (h l (mem_allLanes l)), fun h l _ => Bool.eq_false_iff.mp (h l)⟩

/-- Lane `m` is at least as good as lane `k`: of higher life, or of lower index among equals (R57). -/
def State.levels (s : State) (m k : LaneId) : Prop :=
  s.health.lanes[k].life ≤ s.health.lanes[m].life ∧ (s.health.lanes[k].life = s.health.lanes[m].life → m ≤ k)

/-- Among lanes in rising order, the choice once the latch is set is at least as good as each (R57). -/
theorem State.foldl_betterLane_levels {ls : List LaneId} (hs : (l :: ls).Pairwise (· < ·)) :
    ∀ k ∈ l :: ls, s.levels (ls.foldl s.betterLane l) k := by
  induction ls generalizing l with
  | nil =>
    intro k hk
    obtain rfl := List.mem_singleton.mp hk
    exact ⟨le_rfl, fun _ => le_rfl⟩
  | cons j ls ih =>
    obtain ⟨hl, hrest⟩ := List.pairwise_cons.mp hs
    have hlj : l < j := hl j List.mem_cons_self
    rw [List.foldl_cons]
    by_cases hlife : s.health.lanes[l].life < s.health.lanes[j].life
    · rw [show s.betterLane l j = j from if_pos hlife]
      intro k hk
      rcases List.mem_cons.mp hk with rfl | hk
      · obtain ⟨hle, -⟩ := ih hrest j List.mem_cons_self
        exact ⟨hlife.le.trans hle, fun he => absurd (he ▸ hlife) (not_lt.mpr hle)⟩
      · exact ih hrest k hk
    · rw [show s.betterLane l j = l from if_neg hlife]
      have hlrest : (l :: ls).Pairwise (· < ·) :=
        List.pairwise_cons.mpr ⟨fun k hk => hl k (List.mem_cons_of_mem j hk), (List.pairwise_cons.mp hrest).2⟩
      intro k hk
      have hbest := ih hlrest l List.mem_cons_self
      rcases List.mem_cons.mp hk with rfl | hk
      · exact hbest
      · rcases List.mem_cons.mp hk with rfl | hk
        · obtain ⟨hle, hfirst⟩ := hbest
          have hjl := not_lt.mp hlife
          exact ⟨hjl.trans hle, fun he => (hfirst (le_antisymm hle (he ▸ hjl))).trans hlj.le⟩
        · exact ih hlrest k (List.mem_cons_of_mem l hk)

/-- Once the leveling latch is set, the least worn qualifying lane is chosen, the lowest among equals (R57). -/
theorem State.chooseLane_levelled (h : s.health.record.latch = true) (hl : s.chooseLane = some l) :
    ∀ k : LaneId, s.qualifies k = true → s.levels l k := by
  intro k hk
  have hmem : k ∈ allLanes.filter s.qualifies := List.mem_filter.mpr ⟨mem_allLanes k, hk⟩
  have hsorted := allLanes_sorted.filter s.qualifies
  unfold State.chooseLane at hl
  split at hl
  · cases hl
  · next j js hf =>
    rw [hf] at hmem hsorted
    rw [if_pos h] at hl
    cases hl
    exact State.foldl_betterLane_levels hsorted k hmem

/-! ### A lane obtained (R58, R81) -/

theorem dropRelays_nil (rs : List Relay) : dropRelays [] rs = rs := by
  simp [dropRelays]

theorem State.modLane_id {f : Lane → Lane} (h : f s.lanes[l] = s.lanes[l]) : s.modLane l f = s := by
  simp only [State.modLane, upd_id s.lanes l f h]

/-- An episode starts on a lane in use whose OVER input reads high, unless it has one or its latch is set (R81). -/
theorem State.startEpisode_inUse (hst : s.lanes[l].state = .inUse) (hd : Duration.count s.ocPersist ≠ 0) :
    s.startEpisode l = s.modLane l fun x => { x with
      episode := if s.pins.overIn[l] = true ∧ x.latch = false ∧ x.episode = none
                 then some (Timer.begin s.ocPersist s.time.now) else x.episode } := by
  unfold State.startEpisode State.pushIfZero
  simp only [hst, decide_true, Bool.true_or, Bool.true_and, if_neg hd, Bool.and_eq_true, Bool.not_eq_true',
    Option.isNone_iff_eq_none, and_assoc]
  split
  · next h => exact State.modLane_congr (by rw [if_pos h])
  · next h => rw [State.modLane_id (by rw [if_neg h])]

/-- The part once a CONNECT has obtained a lane (R58, R81). -/
def State.obtained (w : LaneWaiter) (l : LaneId) (s : State) : State :=
  let relays := portRelay w.port :: w.pins.map pinRelay
  (s.modSite w.site fun x =>
    { x with claimTimer := none, running := x.running.map fun r => { r with progress := .active .closing } }).modLane l
    fun x => { x with
      state := .inUse, route := some ⟨w.site, w.handle, w.port, .closing⟩, closed := addRelays relays x.closed,
      load := some ⟨.closing, relays, []⟩, quiet := none,
      episode := if s.pins.overIn[l] = true ∧ x.latch = false ∧ x.episode = none
                 then some (Timer.begin s.ocPersist s.time.now) else x.episode }

/-- What a CONNECT's obtaining of a lane comes to, where the persistence time is not 0 (R58, R81). -/
theorem State.obtainLane_eq (w : LaneWaiter) (l : LaneId) (hd : Duration.count s.ocPersist ≠ 0) :
    s.obtainLane w l = s.obtained w l := by
  unfold State.obtainLane State.beginLoad State.setPhase
  simp only [State.modSite_modSite, State.modLane_modLane, dropRelays_nil]
  rw [State.startEpisode_inUse (by rw [State.modLane_get]) (by exact hd), State.modLane_modLane]
  rfl

/-! ### The lane phase and the waiters (R56, R57, R60, R61) -/

/-- A board pin lies in a lane's pin set exactly where its relay is commanded closed (R52). -/
theorem Lane.mem_pinSet {x : Lane} {q : Pin} : q ∈ x.pinSet ↔ pinRelay q ∈ x.closed := by
  unfold Lane.pinSet
  simp only [List.mem_map, List.mem_filter, decide_eq_true_eq]
  constructor
  · rintro ⟨r, ⟨hr, hlt⟩, rfl⟩
    have hrelay : pinRelay (BitVec.ofNat 8 r.val) = r := Fin.ext (by simp [pinRelay, Nat.mod_eq_of_lt hlt])
    rwa [hrelay]
  · exact fun h => ⟨pinRelay q, ⟨h, q.isLt⟩, by simp [pinRelay]⟩

/-- The pins of a CONNECT are busy where a route holds one of them (R56). -/
theorem State.pinsBusy_none_iff {pins : List Pin} : s.pinsBusy none pins = true ↔
    ∃ (k : LaneId) (u : Route), s.lanes[k].route = some u ∧ ∃ q ∈ pins, pinRelay q ∈ s.lanes[k].closed := by
  unfold State.pinsBusy
  simp only [List.any_eq_true, mem_allLanes, true_and, Bool.and_eq_true, Option.isSome_iff_exists, Lane.mem_pinSet,
    ne_eq, reduceCtorEq, not_false_eq_true, decide_true, List.contains_iff_mem]
  exact exists_congr fun k => ⟨fun ⟨⟨u, hu⟩, q, hc, hq⟩ => ⟨u, hu, q, hq, hc⟩, fun ⟨u, hu, q, hq, hc⟩ => ⟨⟨u, hu⟩, q, hc, hq⟩⟩

/-- The lane phase of the running CONNECT at the head of a queue (R56, R57). -/
theorem State.lanePhase_eq {w : LaneWaiter} {d e : Duration} {rest : List Step} {ph : Phase} {n : Nat}
    (hq : s.sites[w.site].queue = ⟨w.tag, .connect w.handle w.port d e w.pins⟩ :: rest)
    (hr : s.sites[w.site].running = some ⟨.active ph, n⟩) :
    let asks := s.modSite w.site fun x => { x with running := some ⟨.active .laneWait, n⟩ }
    s.lanePhase w.site =
      if s.pinsBusy none w.pins then asks.failLogic w.site .pinBusy
      else match (if s.laneWaiters.isEmpty then s.chooseLane else none) with
        | some l => asks.obtainLane w l
        | none => { asks with laneWaiters := s.laneWaiters ++ [w] } := by
  intro asks
  have hasks : s.setPhase w.site .laneWait = asks := State.modSite_congr (by simp only [hr, Option.map_some])
  unfold State.lanePhase
  rw [State.active_eq hq hr]
  simp only [hasks]
  rfl

theorem State.obtained_asks {w : LaneWaiter} {ph : Phase} {n : Nat} (hr : s.sites[w.site].running = some ⟨.active ph, n⟩) :
    (s.modSite w.site fun x => { x with running := some ⟨.active .laneWait, n⟩ }).obtained w l = s.obtained w l := by
  unfold State.obtained
  rw [State.modSite_modSite]
  exact congrArg (fun v : State => v.modLane l _) (State.modSite_congr (by simp only [hr, Option.map_some]))

/-- The lane waiter list is replaced. -/
def State.withLaneWaiters (ws : List LaneWaiter) (s : State) : State := { s with laneWaiters := ws }

theorem State.startEpisode_withLaneWaiters (s : State) (l : LaneId) (ws : List LaneWaiter) :
    (s.withLaneWaiters ws).startEpisode l = (s.startEpisode l).withLaneWaiters ws := by
  unfold State.startEpisode State.pushIfZero
  simp only [apply_ite (State.withLaneWaiters ws)]
  rfl

/-- A lane is obtained alike whatever waiters are left. -/
theorem State.obtainLane_withLaneWaiters (s : State) (w : LaneWaiter) (l : LaneId) (ws : List LaneWaiter) :
    (s.withLaneWaiters ws).obtainLane w l = (s.obtainLane w l).withLaneWaiters ws := by
  unfold State.obtainLane
  simp only
  rw [← State.startEpisode_withLaneWaiters]
  rfl

/-- The waiters served are those given, whatever the list in the state says (R61). -/
theorem serveWaiters_withLaneWaiters (l ws : List LaneWaiter) (s : State) :
    serveWaiters l (s.withLaneWaiters ws) = serveWaiters l s := by
  induction l generalizing s with
  | nil => rfl
  | cons w l ih =>
    have hchoose : (s.withLaneWaiters ws).chooseLane = s.chooseLane := rfl
    unfold serveWaiters
    rw [hchoose]
    cases s.chooseLane with
    | none => rfl
    | some k => simp only [State.obtainLane_withLaneWaiters, ih]

/-- The oldest waiter obtains the chosen lane, and the others are served in turn (R61). -/
theorem State.serveLaneWaiters_cons {w : LaneWaiter} {ws : List LaneWaiter} (hw : s.laneWaiters = w :: ws)
    (hl : s.chooseLane = some l) :
    s.serveLaneWaiters = ((s.obtainLane w l).withLaneWaiters ws).serveLaneWaiters := by
  have hserve : s.serveLaneWaiters = serveWaiters ws (s.obtainLane w l) := by
    unfold State.serveLaneWaiters
    rw [hw]
    simp only [serveWaiters, hl]
  exact hserve.trans (serveWaiters_withLaneWaiters ws ws _).symm

/-- Without a waiter or a lane nothing is granted (R61). -/
theorem State.serveLaneWaiters_none (h : s.laneWaiters = [] ∨ s.chooseLane = none) : s.serveLaneWaiters = s := by
  have heta (ws : List LaneWaiter) (hw : s.laneWaiters = ws) : ({ s with laneWaiters := ws } : State) = s := by rw [← hw]
  unfold State.serveLaneWaiters
  cases hw : s.laneWaiters with
  | nil => exact heta [] hw
  | cons w ws =>
    have hl : s.chooseLane = none := h.resolve_left (by rw [hw]; exact List.cons_ne_nil w ws)
    simp only [serveWaiters, hl]
    exact heta _ hw

/-! ### The start of a CONNECT (R33) -/

theorem State.startConnect_handleBusy {h : Handle} (hbusy : s.routeLane i h ≠ none ∨ s.claimPort i h ≠ none) (p : PortId)
    (e : Duration) : s.startConnect i h p e = s.failLogic i .handleBusy := by
  unfold State.startConnect
  simp only [Bool.or_eq_true, Option.isSome_iff_ne_none, if_pos hbusy]

/-- With a free handle the port decides (R33). -/
theorem State.startConnect_free {h : Handle} (hfree : ¬(s.routeLane i h ≠ none ∨ s.claimPort i h ≠ none)) (p : PortId)
    (e : Duration) : s.startConnect i h p e =
      if s.ports[p].desc.kind = .none ∨ (s.ports[p].desc.hv = true ∧ s.sites[i].reach.hv = false) then
        s.failLogic i .portBusy
      else
        let timed := s.modSite i fun y => { y with claimTimer := some (Timer.begin e s.time.now) }
        match s.ports[p].claim with
        | none => ((timed.modPort p fun y => { y with claim := some ⟨i, h⟩ }).lanePhase i).pushIfZero e (.claimExpired i)
        | some c =>
          if c.site = i then s.failLogic i .portBusy
          else ((timed.modPort p fun y => { y with waiters := y.waiters ++ [⟨i, h⟩] }).setPhase i .portWait).pushIfZero e
            (.claimExpired i) := by
  unfold State.startConnect
  simp only [Bool.or_eq_true, Option.isSome_iff_ne_none, if_neg hfree, Bool.and_eq_true, decide_eq_true_eq,
    Bool.not_eq_true'] <;> rfl

/-- Settles O35: the start by the handle and the port, the lane phase, the lane obtained, the waiters, and the choice. -/
theorem connectStarts : Obligations.ConnectStarts := by
  refine ⟨fun s i h p e => ?_, fun s w l hd => ?_, fun s h => State.serveLaneWaiters_none h, fun s p => ?_, fun s hlatch => ?_,
    fun s => ?_, fun s l hlatch hl => ?_⟩
  · intro x inUse denied timed
    refine ⟨fun hbusy => State.startConnect_handleBusy hbusy p e, fun hfree hdenied => ?_,
      fun c hfree hdenied hc => ⟨fun hown => ?_, fun hother => ?_⟩, fun hfree hdenied hc => ?_⟩
    all_goals rw [State.startConnect_free hfree]
    · exact if_pos hdenied
    · rw [if_neg hdenied]
      simp only [show s.ports[p].claim = some c from hc, if_pos hown]
    · rw [if_neg hdenied]
      simp only [show s.ports[p].claim = some c from hc, if_neg hother]
      rfl
    · rw [if_neg hdenied]
      simp only [show s.ports[p].claim = none from hc]
      rfl
  · intro relays obtained
    have hobtain : s.obtainLane w l = obtained := State.obtainLane_eq w l hd
    refine ⟨fun ws hw hl => ?_, ?_⟩
    · rw [← hobtain]; exact State.serveLaneWaiters_cons hw hl
    · intro d e rest ph n hq hr asks held
      have hphase := State.lanePhase_eq hq hr
      simp only [State.pinsBusy_none_iff] at hphase
      refine ⟨fun hheld => hphase.trans (if_pos hheld), fun hfree hw hl => ?_, fun hfree hwait => ?_⟩
      all_goals rw [if_neg hfree] at hphase
      · simp only [hw, List.isEmpty_nil, if_true, hl] at hphase
        rw [hphase, State.obtainLane_eq w l (by exact hd), State.obtained_asks hr]
        rfl
      · have hnone : (if s.laneWaiters.isEmpty then s.chooseLane else none) = none := by
          rcases hwait with hw | hl
          · rw [if_neg (by simpa using hw)]
          · rw [hl, ite_self]
        rw [hnone] at hphase
        exact hphase
  · refine ⟨fun hw => ?_, fun w ws hw => ?_⟩ <;> unfold State.freeClaim <;> rw [hw]
  · exact State.chooseLane_unlevelled hlatch
  · rw [State.chooseLane_none_iff]
    refine forall_congr' fun l => ?_
    rw [Bool.eq_false_iff, ne_eq, State.qualifies_iff, not_and, Bool.not_eq_false]
  · exact ⟨State.chooseLane_qualifies hl, State.chooseLane_levelled hlatch hl⟩

end Sys2Proof.Machine
end


section
set_option Elab.async false
/-! # Clamping and CAL_SET (O22) -/

namespace Sys2Proof.Machine

variable {s : State}

/-! ### The eight pulse widths (R31) -/

/-- The stored width is one of the eight, and none is nearer to the width given; the larger stands at a midpoint. -/
theorem clampWidth_nearest {w v : Nat} (hv : v ∈ [1, 2, 5, 10, 20, 50, 100, 200]) :
    clampWidth w ∈ [1, 2, 5, 10, 20, 50, 100, 200] ∧
      (max w (clampWidth w) - min w (clampWidth w) < max w v - min w v ∨
        (max w (clampWidth w) - min w (clampWidth w) = max w v - min w v ∧ v ≤ clampWidth w)) := by
  simp only [List.mem_cons, List.not_mem_nil, or_false] at hv ⊢
  unfold clampWidth
  split_ifs <;> omega

/-! ### Configuration items (R180) -/

/-- A number clamped to a range of 32-bit values. -/
theorem clampNat_toNat {lo hi : Nat} (hlo : lo < 2 ^ 32) (hhi : hi < 2 ^ 32) (n : Nat) :
    (BitVec.ofNat 32 (clampNat lo hi n)).toNat = max lo (min hi n) := by
  rw [BitVec.toNat_ofNat, Nat.mod_eq_of_lt (by unfold clampNat; omega)]
  rfl

/-- A duration clamped to its sixteen bits. -/
def clampDuration (v : BitVec 32) : Duration := if v.toNat > 65535 then 0xFFFF else v.setWidth 16

theorem clampDuration_eq (v : BitVec 32) : clampDuration v = BitVec.ofNat 16 (min 65535 v.toNat) := by
  unfold clampDuration
  refine BitVec.eq_of_toNat_eq ?_
  split
  · next h => rw [min_eq_left h.le]; rfl
  · next h => rw [min_eq_right (Nat.not_lt.mp h), BitVec.toNat_setWidth, BitVec.toNat_ofNat]

theorem clampDuration_toNat (v : BitVec 32) : ((clampDuration v).setWidth 32).toNat = min 65535 v.toNat := by
  rw [clampDuration_eq, BitVec.toNat_setWidth, BitVec.toNat_ofNat]
  omega

/-- Every item as R180 clamps it. -/
theorem clampConfig_toNat (v : BitVec 32) :
    let n := v.toNat
    let t := Duration.value (BitVec.ofNat 16 (min 65535 n))
    (clampConfig 0 v).toNat = max 1 (min 32 n) ∧ (clampConfig 1 v).toNat = min 65535 n ∧
    (clampConfig 2 v).toNat = n % 512 ∧ (clampConfig 3 v).toNat = max 1 (min 16 n) ∧
    (clampConfig 4 v).toNat = max 1000 (min 4000000000 n) ∧ (clampConfig 5 v).toNat = min 100 n ∧
    (clampConfig 6 v).toNat = min 100 n ∧ (clampConfig 7 v).toNat = max 1 (min 1000 n) ∧
    (clampConfig 8 v).toNat = min 65535 n ∧ (clampConfig 9 v).toNat = min 65535 n ∧
    (clampConfig 10 v).toNat = min 65535 n ∧
    (clampConfig 11 v).toNat = (if t < 100 then 100 else min 65535 n) ∧
    (clampConfig 12 v).toNat = (if n = 0 then 0 else 1) ∧ (clampConfig 13 v).toNat = max 1024 (min 131071 n) ∧
    (clampConfig 14 v).toNat = (if t < 5 then 5 else if 10000 < t then 10000 else min 65535 n) ∧
    (clampConfig 15 v).toNat = max 64 (min 65535 n) := by
  intro n t
  have ht : Duration.value (clampDuration v) = t := by rw [clampDuration_eq]
  have hpercent : (BitVec.ofNat 32 (clampNat 0 100 v.toNat)).toNat = min 100 n :=
    (clampNat_toNat (by decide) (by decide) _).trans (Nat.zero_max _)
  refine ⟨clampNat_toNat (by decide) (by decide) _, clampDuration_toNat v, ?_, clampNat_toNat (by decide) (by decide) _,
    clampNat_toNat (by decide) (by decide) _, hpercent, hpercent, clampNat_toNat (by decide) (by decide) _,
    clampDuration_toNat v, clampDuration_toNat v, clampDuration_toNat v, ?_, ?_, clampNat_toNat (by decide) (by decide) _,
    ?_, clampNat_toNat (by decide) (by decide) _⟩
  · exact (BitVec.toNat_and _ _).trans (Nat.and_two_pow_sub_one_eq_mod _ 9)
  · have hitem : clampConfig 11 v =
        if Duration.value (clampDuration v) < 100 then 100 else (clampDuration v).setWidth 32 := rfl
    rw [hitem, ht]; split
    · rfl
    · exact clampDuration_toNat v
  · have hitem : clampConfig 12 v = if v = 0 then 0 else 1 := rfl
    have hzero : v = 0 ↔ n = 0 := BitVec.toNat_eq
    rw [hitem]; simp only [hzero]; split <;> rfl
  · have hitem : clampConfig 14 v = if Duration.value (clampDuration v) < 5 then 5
        else if Duration.value (clampDuration v) > 10000 then 10000 else (clampDuration v).setWidth 32 := rfl
    rw [hitem, ht]; split
    · rfl
    · split
      · rfl
      · exact clampDuration_toNat v

/-! ### CAL_SET (R114) -/

/-- A touched item's flags and its write in flight, as one update of the store (R176). -/
theorem State.touchIf_eq (c : Bool) (it : ItemId) : s.touchIf c it = s.modStore fun t => { t with
    differs := upd t.differs it fun b => b || c
    inFlight := t.inFlight.map fun w => { w with changed := w.changed || (decide (w.content.item = it) && c) } } := by
  cases c with
  | false =>
    have hid : (upd s.store.differs it fun b => b || false) = s.store.differs := upd_id _ _ _ (Bool.or_false _)
    have hwrite : (s.store.inFlight.map fun w => { w with changed := w.changed || (decide (w.content.item = it) && false) })
        = s.store.inFlight := by
      simp only [Bool.and_false, Bool.or_false]
      exact Option.map_id'
    change s = s.modStore _
    simp only [State.modStore, hid, hwrite]
  | true =>
    unfold State.touchIf State.touch
    rw [if_pos rfl]
    refine State.modStore_congr _ _ ?_
    simp only [Bool.or_true, Bool.and_true]
    congr 2
    funext w
    by_cases h : w.content.item = it
    · simp only [h, if_true, decide_true, Bool.or_true]
    · simp only [h, if_false, decide_false, Bool.or_false]

/-- METER's memory holds the new record, and the CAL item differs from the store if Z or G changed (R114, R176). -/
def State.calStored (r : Range) (new : Cal) (s : State) : State :=
  (s.modMeter fun t => { t with cal := upd t.cal r fun _ => new }).touchIf
    (decide (s.meter.cal[r].z ≠ new.z ∨ s.meter.cal[r].g ≠ new.g)) calItem

theorem State.calStored_eq (r : Range) (new : Cal) : s.calStored r new =
    (s.modMeter fun t => { t with cal := upd t.cal r fun _ => new }).modStore fun t =>
      let changed := decide (s.meter.cal[r].z ≠ new.z ∨ s.meter.cal[r].g ≠ new.g)
      { t with
        differs := upd t.differs calItem fun b => b || changed
        inFlight := t.inFlight.map fun w =>
          { w with changed := w.changed || (decide (w.content.item = calItem) && changed) } } :=
  State.touchIf_eq _ _

theorem State.takeCalSet_stored (r : Range) (z g : BitVec 16) (tag : Byte) :
    s.takeCalSet (byte r.val) z g ⟨tag, partByte⟩ = (s.calStored r (calRecord z g)).reply 0x0E tag partByte .ok
      ([byte r.val] ++ bytes16 (BitVec.ofInt 16 (calRecord z g).z) ++ nat16 (calRecord z g).g ++ [0]) := by
  have hdata : (s.calStored r (calRecord z g)).calData r =
      [byte r.val] ++ bytes16 (BitVec.ofInt 16 (calRecord z g).z) ++ nat16 (calRecord z g).g ++ [0] := by
    unfold State.calData
    rw [State.calStored_eq]
    simp only [State.modStore_meter, State.modMeter_meter, upd_get, if_true]
    rfl
  rw [← hdata]
  unfold State.takeCalSet
  simp only [ne_eq, not_true_eq_false, if_false, fin?_byte (by decide : 6 ≤ 256)]
  rfl

theorem State.takeCalSet_badField {b : Byte} (h : 5 < b.toNat) (z g : BitVec 16) (tag : Byte) :
    s.takeCalSet b z g ⟨tag, partByte⟩ = s.reply 0x0E tag partByte .badField [] := by
  unfold State.takeCalSet
  simp only [ne_eq, not_true_eq_false, if_false, fin?_eq_none_iff.mpr (show 6 ≤ b.toNat by omega)]
  rfl

end Sys2Proof.Machine
end


section
set_option Elab.async false
/-! # What a change of settings leaves as it is (O22)

The effects of RATED_LIFE, LANE_NEED, LIFE_THRESHOLD and RETIRE_AT_END are made of five elementary changes; `EffectsKept`
says what they all leave, the lives and the lanes are followed one by one. -/

namespace Sys2Proof.Machine

variable {s t u : State} {l : LaneId}

/-! ### Frames -/

/-- What the effects of a setting on HEALTH, MATRIX and STORE leave as it is (R153 to R160, R177). -/
structure EffectsKept (s t : State) : Prop where
  config : t.store.config = s.store.config
  counts : ∀ l : LaneId, t.health.lanes[l].counts = s.health.lanes[l].counts
  marks : ∀ l : LaneId, t.health.lanes[l].marks = s.health.lanes[l].marks
  latch : s.health.record.latch = true → t.health.record.latch = true
  hotOps : t.health.record.hotOps = s.health.record.hotOps
  coilFaults : t.health.record.coilFaults = s.health.record.coilFaults
  ocFaults : t.health.record.ocFaults = s.health.record.ocFaults
  sites : t.sites = s.sites
  ports : t.ports = s.ports
  results : t.results = s.results
  meter : t.meter = s.meter
  time : t.time = s.time
  pins : t.pins = s.pins
  freeze : t.freeze = s.freeze
  laneWaiters : t.laneWaiters = s.laneWaiters
  resetReq : t.resetReq = s.resetReq
  agenda : t.agenda = s.agenda
  slots : t.link.slots = s.link.slots

theorem EffectsKept.refl (s : State) : EffectsKept s s :=
  ⟨rfl, fun _ => rfl, fun _ => rfl, id, rfl, rfl, rfl, rfl, rfl, rfl, rfl, rfl, rfl, rfl, rfl, rfl, rfl, rfl⟩

theorem EffectsKept.trans (h : EffectsKept s t) (h' : EffectsKept t u) : EffectsKept s u where
  config := h'.config.trans h.config
  counts l := (h'.counts l).trans (h.counts l)
  marks l := (h'.marks l).trans (h.marks l)
  latch hs := h'.latch (h.latch hs)
  hotOps := h'.hotOps.trans h.hotOps
  coilFaults := h'.coilFaults.trans h.coilFaults
  ocFaults := h'.ocFaults.trans h.ocFaults
  sites := h'.sites.trans h.sites
  ports := h'.ports.trans h.ports
  results := h'.results.trans h.results
  meter := h'.meter.trans h.meter
  time := h'.time.trans h.time
  pins := h'.pins.trans h.pins
  freeze := h'.freeze.trans h.freeze
  laneWaiters := h'.laneWaiters.trans h.laneWaiters
  resetReq := h'.resetReq.trans h.resetReq
  agenda := h'.agenda.trans h.agenda
  slots := h'.slots.trans h.slots

theorem State.modStore_kept (f : Store → Store) (h : (f s.store).config = s.store.config) : EffectsKept s (s.modStore f) :=
  { EffectsKept.refl s with config := h }

theorem State.modHealth_kept (f : Health → Health) (hlanes : (f s.health).lanes = s.health.lanes)
    (hlatch : s.health.record.latch = true → (f s.health).record.latch = true)
    (hhot : (f s.health).record.hotOps = s.health.record.hotOps)
    (hcoil : (f s.health).record.coilFaults = s.health.record.coilFaults)
    (hoc : (f s.health).record.ocFaults = s.health.record.ocFaults) : EffectsKept s (s.modHealth f) :=
  { EffectsKept.refl s with
    counts := fun l => by rw [State.modHealth_health, hlanes]
    marks := fun l => by rw [State.modHealth_health, hlanes]
    latch := hlatch, hotOps := hhot, coilFaults := hcoil, ocFaults := hoc }

theorem State.modWear_get (s : State) (l : LaneId) (f : LaneHealth → LaneHealth) (k : LaneId) :
    (s.modWear l f).health.lanes[k] = if l = k then f s.health.lanes[k] else s.health.lanes[k] :=
  upd_get _ _ _ _

theorem State.modWear_kept (l : LaneId) (f : LaneHealth → LaneHealth)
    (hcounts : (f s.health.lanes[l]).counts = s.health.lanes[l].counts)
    (hmarks : (f s.health.lanes[l]).marks = s.health.lanes[l].marks) : EffectsKept s (s.modWear l f) :=
  { EffectsKept.refl s with
    counts := fun k => by
      rw [State.modWear_get]; split
      · next h => subst h; exact hcounts
      · rfl
    marks := fun k => by
      rw [State.modWear_get]; split
      · next h => subst h; exact hmarks
      · rfl }

theorem State.modLane_kept (l : LaneId) (f : Lane → Lane) : EffectsKept s (s.modLane l f) := { EffectsKept.refl s with }

theorem State.notice_kept (n : Notice) : EffectsKept s (s.notice n) := by
  rw [State.notice_eq]
  refine { EffectsKept.refl s with slots := ?_ }
  rw [State.modLink_link]; split <;> rfl

theorem forEach_kept {α : Type} (f : α → State → State) (h : ∀ a t, EffectsKept t (f a t)) (l : List α) (s : State) :
    EffectsKept s (forEach l f s) := by
  induction l generalizing s with
  | nil => exact .refl s
  | cons a l ih => exact (h a s).trans (ih (f a s))

/-! ### STORE -/

theorem State.due_kept (s : State) (it : ItemId) : EffectsKept s (s.due it) := by
  have hbegin (t : State) : EffectsKept t t.beginWrite := by
    unfold State.beginWrite; split
    · split
      · exact .refl t
      · simp only; split
        · exact (State.modStore_kept _ rfl).trans (State.modWear_kept _ _ rfl rfl)
        · exact State.modStore_kept _ rfl
    · exact .refl t
  unfold State.due
  refine EffectsKept.trans ?_ (hbegin _)
  split
  · exact .refl s
  · exact State.modStore_kept _ rfl

theorem State.touch_due_kept (s : State) (it : ItemId) : EffectsKept s ((s.touch it).due it) :=
  (State.modStore_kept _ rfl).trans (State.due_kept _ it)

theorem State.healthDue_kept (s : State) (old : HealthRecord) : EffectsKept s (s.healthDue old) := by
  unfold State.healthDue; split
  · exact .refl s
  · exact s.touch_due_kept _

theorem State.configDue_kept (s : State) (c : Bool) : EffectsKept s (s.configDue c) := by
  unfold State.configDue; split
  · exact s.touch_due_kept _
  · exact .refl s

/-- What an item that becomes due leaves, a record of HEALTH that becomes due leaves (R153). -/
theorem State.healthDue_frame {β : Type} (g : State → β)
    (hstore : ∀ (f : Store → Store) (t : State), (f t.store).config = t.store.config → g (t.modStore f) = g t)
    (hwear : ∀ (l : LaneId) (t : State), g (t.modWear l fun x => { x with unsaved := 0 }) = g t) (old : HealthRecord)
    (s : State) : g (s.healthDue old) = g s := by
  unfold State.healthDue; split
  · rfl
  · exact State.touch_due_frame g hstore hwear _ _

/-- What an item that becomes due leaves, CONFIG that becomes due leaves (R180). -/
theorem State.configDue_frame {β : Type} (g : State → β)
    (hstore : ∀ (f : Store → Store) (t : State), (f t.store).config = t.store.config → g (t.modStore f) = g t)
    (hwear : ∀ (l : LaneId) (t : State), g (t.modWear l fun x => { x with unsaved := 0 }) = g t) (c : Bool) (s : State) :
    g (s.configDue c) = g s := by
  unfold State.configDue; split
  · exact State.touch_due_frame g hstore hwear _ _
  · rfl

/-- An item that becomes due waits for its write, or its write is under way with its content (R177). -/
theorem State.due_pending (s : State) (it : ItemId) : it ∈ (s.due it).store.pendingWrites ∨
    ∃ w : Write, (s.due it).store.inFlight = some w ∧ w.content = s.itemContent it := by
  have hbegin (t : State) (hmem : it ∈ t.store.pendingWrites) (hcontent : t.itemContent it = s.itemContent it) :
      it ∈ t.beginWrite.store.pendingWrites ∨
        ∃ w : Write, t.beginWrite.store.inFlight = some w ∧ w.content = s.itemContent it := by
    unfold State.beginWrite; split
    · next k rest hf hp =>
      split
      · exact .inl hmem
      · rw [hp] at hmem
        rcases List.mem_cons.mp hmem with rfl | hmem
        · refine .inr ⟨⟨t.itemContent it, false⟩, ?_, hcontent⟩
          simp only; split <;> rfl
        · refine .inl ?_
          simp only; split <;> exact hmem
    · exact .inl hmem
  unfold State.due; split
  · next h => exact hbegin s (by simpa using h) rfl
  · exact hbegin _ (by simp) rfl

/-! ### Lives (R154) -/

theorem State.computeLife_kept (s : State) (l : LaneId) : EffectsKept s (s.computeLife l) := State.modWear_kept _ _ rfl rfl

theorem State.computeLives_kept (s : State) : EffectsKept s s.computeLives :=
  forEach_kept _ (fun l t => t.computeLife_kept l) _ s

theorem State.computeLives_lanes (s : State) : s.computeLives.lanes = s.lanes :=
  forEach_frame State.lanes State.computeLife (fun _ _ => rfl) _ s

theorem State.ratedLife_of_config (h : t.store.config = s.store.config) : t.ratedLife = s.ratedLife := by
  simp only [State.ratedLife, State.cfg, h]

/-- Each lane of the list has its life from the RATED_LIFE in force, the others keep theirs (R154). -/
theorem forEach_computeLife_life (ls : List LaneId) (s : State) (l : LaneId) :
    ((forEach ls State.computeLife s).health.lanes[l]).life =
      if l ∈ ls then lifePercent s.ratedLife (s.health.lanes[l]).counts.largest else (s.health.lanes[l]).life := by
  induction ls generalizing s with
  | nil => rfl
  | cons k ls ih =>
    have hkept := s.computeLife_kept k
    refine (ih (s.computeLife k)).trans ?_
    rw [State.ratedLife_of_config hkept.config, hkept.counts l]
    by_cases hl : l ∈ ls
    · rw [if_pos hl, if_pos (List.mem_cons_of_mem k hl)]
    · rw [if_neg hl]
      unfold State.computeLife
      rw [State.modWear_get]
      by_cases hk : k = l
      · subst hk
        rw [if_pos rfl, if_pos List.mem_cons_self]
      · rw [if_neg hk, if_neg (by simp [hl, Ne.symm hk])]

theorem State.computeLives_life (s : State) (l : LaneId) :
    (s.computeLives.health.lanes[l]).life = lifePercent s.ratedLife (s.health.lanes[l]).counts.largest :=
  (forEach_computeLife_life allLanes s l).trans (if_pos (mem_allLanes l))

end Sys2Proof.Machine
end


section
set_option Elab.async false
/-! # Ends of life and attributes (O22) -/

namespace Sys2Proof.Machine

variable {s t : State} {l : LaneId}

/-! ### The attributes (R155 to R158) -/

theorem State.recompute_kept (s : State) : EffectsKept s s.recompute := by
  have hset : EffectsKept s (s.modHealth fun h => { h with
      life := s.leastLife, inService := s.serviceLanes.length, spares := sparesOf s.serviceLanes.length s.laneNeed
      sparePct := sparePctOf (sparesOf s.serviceLanes.length s.laneNeed) s.laneNeed
      low := stateLow s.leastLife s.lifeThreshold s.laneNeed (sparesOf s.serviceLanes.length s.laneNeed)
        s.serviceLanes.length
      record := { h.record with lifeWorst := min h.record.lifeWorst s.leastLife,
                                latch := h.record.latch || s.levelReached } }) :=
    State.modHealth_kept _ rfl (fun h => by simp only [h, Bool.true_or]) rfl rfl rfl
  unfold State.recompute; simp only; split
  · exact hset
  · exact hset.trans (State.notice_kept _)

theorem State.serviceLanes_eq (s : State) : s.serviceLanes = allLanes.filter fun l => decide (s.lanes[l].state ≠ .retired) := by
  unfold State.serviceLanes
  refine List.filter_congr fun l _ => ?_
  cases s.lanes[l].state <;> rfl

/-- The least value of a function on a list, from a first bound. -/
theorem foldl_min_spec {α : Type} (f : α → Nat) (l : List α) (m : Nat) :
    (l.foldl (fun m x => min m (f x)) m = m ∨ ∃ x ∈ l, l.foldl (fun m x => min m (f x)) m = f x) ∧
      l.foldl (fun m x => min m (f x)) m ≤ m ∧ ∀ x ∈ l, l.foldl (fun m x => min m (f x)) m ≤ f x := by
  induction l generalizing m with
  | nil => exact ⟨.inl rfl, le_rfl, nofun⟩
  | cons a l ih =>
    obtain ⟨hval, hle, hall⟩ := ih (min m (f a))
    rw [List.foldl_cons]
    refine ⟨?_, hle.trans (min_le_left _ _), fun x hx => ?_⟩
    · rcases hval with hval | ⟨x, hx, hval⟩
      · rcases min_choice m (f a) with hmin | hmin
        · exact .inl (hval.trans hmin)
        · exact .inr ⟨a, List.mem_cons_self, hval.trans hmin⟩
      · exact .inr ⟨x, List.mem_cons_of_mem a hx, hval⟩
    · rcases List.mem_cons.mp hx with rfl | hx
      · exact hle.trans (min_le_right _ _)
      · exact hall x hx

/-- LIFE is 0 without a lane in service, else the life of one of them, and no greater than that of any (R155). -/
theorem State.leastLife_spec (s : State) : (s.serviceLanes = [] → s.leastLife = 0) ∧
    (s.serviceLanes ≠ [] → ∃ l ∈ s.serviceLanes, s.leastLife = (s.health.lanes[l]).life) ∧
    ∀ l ∈ s.serviceLanes, s.leastLife ≤ (s.health.lanes[l]).life := by
  unfold State.leastLife
  cases s.serviceLanes with
  | nil => exact ⟨fun _ => rfl, fun h => absurd rfl h, nofun⟩
  | cons k ks =>
    obtain ⟨hval, hle, hall⟩ := foldl_min_spec (fun x : LaneId => (s.health.lanes[x]).life) ks (s.health.lanes[k]).life
    refine ⟨nofun, fun _ => ?_, fun l hl => ?_⟩
    · rcases hval with hval | ⟨x, hx, hval⟩
      · exact ⟨k, List.mem_cons_self, hval⟩
      · exact ⟨x, List.mem_cons_of_mem k hx, hval⟩
    · rcases List.mem_cons.mp hl with rfl | hl
      · exact hle
      · exact hall l hl

theorem stateLow_iff (life threshold need spares inService : Nat) : stateLow life threshold need spares inService = true ↔
    life < threshold ∨ (need < 16 ∧ spares = 0) ∨ (need = 16 ∧ inService < 16) := by
  simp [stateLow, or_assoc]

/-- A recomputation brings the attributes up to date (R156). -/
theorem State.recompute_current (s : State) : s.recompute.healthCurrent := by
  have hneed : s.recompute.laneNeed = s.laneNeed := by
    simp only [State.laneNeed, State.cfg, State.recompute_store]
  have hthreshold : s.recompute.lifeThreshold = s.lifeThreshold := by
    simp only [State.lifeThreshold, State.cfg, State.recompute_store]
  obtain ⟨hnone, hsome, hle⟩ := s.leastLife_spec
  unfold State.healthCurrent
  simp only [State.recompute_lanes, hneed, hthreshold, State.recompute_health, ← State.serviceLanes_eq, true_and]
  exact ⟨rfl, rfl, hnone, hsome, hle, stateLow_iff _ _ _ _ _, min_le_right _ _⟩

/-- The attributes stay current while no lane leaves or enters service and no figure they stand for changes. -/
theorem State.healthCurrent_of_eq (hs : s.healthCurrent)
    (hlanes : ∀ l : LaneId, t.lanes[l].state = .retired ↔ s.lanes[l].state = .retired)
    (hconfig : t.store.config = s.store.config) (hhealth : { t.health with lanes := s.health.lanes } = s.health)
    (hlife : ∀ l : LaneId, (t.health.lanes[l]).life = (s.health.lanes[l]).life) : t.healthCurrent := by
  have hservice : (allLanes.filter fun l => decide (t.lanes[l].state ≠ .retired)) =
      allLanes.filter fun l => decide (s.lanes[l].state ≠ .retired) :=
    List.filter_congr fun l _ => by simp only [ne_eq, hlanes l]
  have hneed : t.laneNeed = s.laneNeed := by simp only [State.laneNeed, State.cfg, hconfig]
  have hthreshold : t.lifeThreshold = s.lifeThreshold := by simp only [State.lifeThreshold, State.cfg, hconfig]
  unfold State.healthCurrent at hs ⊢
  rw [← hhealth] at hs
  simp only [hservice, hneed, hthreshold, hlife]
  exact hs

/-- A lane's life after its unsaved sum is cleared (R152). -/
theorem State.modWear_unsaved_life (s : State) (k l : LaneId) :
    ((s.modWear k fun x => { x with unsaved := 0 }).health.lanes[l]).life = (s.health.lanes[l]).life := by
  rw [State.modWear_get]; split <;> rfl

theorem State.healthDue_life (old : HealthRecord) (s : State) (l : LaneId) :
    ((s.healthDue old).health.lanes[l]).life = (s.health.lanes[l]).life :=
  State.healthDue_frame (fun t => (t.health.lanes[l]).life) (fun _ _ _ => rfl) (fun k t => t.modWear_unsaved_life k l) old s

theorem State.configDue_life (c : Bool) (s : State) (l : LaneId) :
    ((s.configDue c).health.lanes[l]).life = (s.health.lanes[l]).life :=
  State.configDue_frame (fun t => (t.health.lanes[l]).life) (fun _ _ _ => rfl) (fun k t => t.modWear_unsaved_life k l) c s

/-- A health record that becomes due leaves the attributes as they are (R153). -/
theorem State.healthDue_current (hs : s.healthCurrent) (old : HealthRecord) : (s.healthDue old).healthCurrent := by
  refine State.healthCurrent_of_eq hs (fun l => ?_) (s.healthDue_kept old).config ?_ fun l => ?_
  · rw [State.healthDue_frame State.lanes (fun _ _ _ => rfl) fun _ _ => rfl]
  · exact State.healthDue_frame (fun t => { t.health with lanes := s.health.lanes }) (fun _ _ _ => rfl) (fun _ _ => rfl) old s
  · exact State.healthDue_life old s l

/-- CONFIG that becomes due leaves the attributes as they are (R180). -/
theorem State.configDue_current (hs : s.healthCurrent) (c : Bool) : (s.configDue c).healthCurrent := by
  refine State.healthCurrent_of_eq hs (fun l => ?_) (s.configDue_kept c).config ?_ fun l => ?_
  · rw [State.configDue_frame State.lanes (fun _ _ _ => rfl) fun _ _ => rfl]
  · exact State.configDue_frame (fun t => { t.health with lanes := s.health.lanes }) (fun _ _ _ => rfl) (fun _ _ => rfl) c s
  · exact State.configDue_life c s l

/-! ### Condemned lanes (R47, R159, R160) -/

/-- The state of a lane that is condemned (R47). -/
def LaneState.condemned : LaneState → LaneState
  | .free => .retired
  | .inUse => .retiring
  | .retiring => .retiring
  | .retired => .retired

/-- A condemned lane. -/
def Lane.condemned (x : Lane) : Lane := { x with state := x.state.condemned }

theorem Lane.condemned_condemned (x : Lane) : x.condemned.condemned = x.condemned := by
  obtain ⟨st⟩ := x
  cases st <;> rfl

theorem State.retire_kept (s : State) (l : LaneId) : EffectsKept s (s.retire l) :=
  ((State.modLane_kept l _).trans (State.notice_kept _)).trans (State.recompute_kept _)

theorem State.condemn_kept (s : State) (l : LaneId) : EffectsKept s (s.condemn l) := by
  unfold State.condemn; split
  · exact s.retire_kept l
  · exact State.modLane_kept l _
  · exact .refl s
  · exact .refl s

theorem State.checkEndOfLife_kept (s : State) (l : LaneId) : EffectsKept s (s.checkEndOfLife l) := by
  unfold State.checkEndOfLife; split
  · exact s.condemn_kept l
  · exact .refl s

theorem State.condemn_lanes (s : State) (l : LaneId) : (s.condemn l).lanes = upd s.lanes l Lane.condemned := by
  have hcondemned (st : LaneState) (h : s.lanes[l].state.condemned = st) :
      (upd s.lanes l fun x => { x with state := st }) = upd s.lanes l Lane.condemned :=
    upd_congr _ _ _ _ (by simp only [Lane.condemned, h])
  have hsame (h : s.lanes[l].state.condemned = s.lanes[l].state) : s.lanes = upd s.lanes l Lane.condemned :=
    (upd_id _ _ _ (by simp only [Lane.condemned, h])).symm
  unfold State.condemn
  cases hst : s.lanes[l].state with
  | free =>
    simp only [State.retire, State.recompute_lanes, State.notice_lanes, State.modLane_lanes]
    exact hcondemned _ (by rw [hst]; rfl)
  | inUse => exact hcondemned _ (by rw [hst]; rfl)
  | retiring | retired => exact hsame (by rw [hst]; rfl)

/-- A condemnation leaves the wear of every lane. -/
theorem State.condemn_wear (s : State) (l : LaneId) : (s.condemn l).health.lanes = s.health.lanes := by
  unfold State.condemn; split
  · simp only [State.retire, State.recompute_health, State.notice_health, State.modLane_health]
  · rfl
  · rfl
  · rfl

/-- A lane at life 0, with RETIRE_AT_END on (R159). -/
def State.worn (s : State) (l : LaneId) : Bool := s.retireAtEnd && decide ((s.health.lanes[l]).life = 0)

theorem State.worn_of_eq (hconfig : t.store.config = s.store.config) (hwear : t.health.lanes = s.health.lanes) (l : LaneId) :
    t.worn l = s.worn l := by
  simp only [State.worn, State.retireAtEnd, State.cfg, hconfig, hwear]

/-- The end-of-life check condemns a worn lane that is FREE or IN_USE (R159). -/
theorem State.checkEndOfLife_eq (s : State) (l : LaneId) : s.checkEndOfLife l =
    if s.worn l = true ∧ (s.lanes[l].state = .free ∨ s.lanes[l].state = .inUse) then s.condemn l else s := by
  unfold State.checkEndOfLife State.endOfLife
  simp only [State.worn, Bool.and_eq_true, Bool.or_eq_true, decide_eq_true_eq]

theorem State.checkEndOfLife_wear (s : State) (l : LaneId) : (s.checkEndOfLife l).health.lanes = s.health.lanes := by
  unfold State.checkEndOfLife; split
  · exact s.condemn_wear l
  · rfl

theorem State.checkEndOfLife_lane (s : State) (l k : LaneId) : (s.checkEndOfLife l).lanes[k] =
    if l = k ∧ s.worn l = true then s.lanes[k].condemned else s.lanes[k] := by
  rw [State.checkEndOfLife_eq]
  by_cases h : s.worn l = true ∧ (s.lanes[l].state = .free ∨ s.lanes[l].state = .inUse)
  · rw [if_pos h, State.condemn_lanes, upd_get]
    simp only [h.1, and_true]
  · rw [if_neg h]
    split
    · next hk =>
      obtain ⟨rfl, hworn⟩ := hk
      have hst : s.lanes[l].state.condemned = s.lanes[l].state := by
        cases hst : s.lanes[l].state with
        | free => exact absurd ⟨hworn, .inl hst⟩ h
        | inUse => exact absurd ⟨hworn, .inr hst⟩ h
        | retiring | retired => rfl
      simp only [Lane.condemned, hst]
    · rfl

theorem forEach_checkEndOfLife_wear (ls : List LaneId) (s : State) :
    (forEach ls State.checkEndOfLife s).health.lanes = s.health.lanes :=
  forEach_frame (fun t => t.health.lanes) State.checkEndOfLife (fun l t => t.checkEndOfLife_wear l) ls s

/-- The worn lanes of the list are condemned, and no other lane changes (R159). -/
theorem forEach_checkEndOfLife_lane (ls : List LaneId) (s : State) (k : LaneId) :
    (forEach ls State.checkEndOfLife s).lanes[k] = if k ∈ ls ∧ s.worn k = true then s.lanes[k].condemned else s.lanes[k] := by
  induction ls generalizing s with
  | nil => exact (if_neg (fun h => nomatch h.1)).symm
  | cons l ls ih =>
    refine (ih (s.checkEndOfLife l)).trans ?_
    rw [State.worn_of_eq (s.checkEndOfLife_kept l).config (s.checkEndOfLife_wear l), State.checkEndOfLife_lane]
    by_cases hworn : s.worn k = true
    · by_cases hl : l = k
      · subst hl
        simp only [hworn, List.mem_cons_self, and_self, if_true, Lane.condemned_condemned, ite_self]
      · simp only [hl, false_and, if_false, List.mem_cons, Ne.symm hl, false_or]
    · have hnot : ¬(l = k ∧ s.worn l = true) := by rintro ⟨rfl, h⟩; exact hworn h
      simp only [hnot, hworn, Bool.false_eq_true, and_false, if_false]

/-- The end-of-life check keeps the attributes current: a lane that leaves service recomputes them (R160). -/
theorem State.checkEndOfLife_current (hs : s.healthCurrent) (l : LaneId) : (s.checkEndOfLife l).healthCurrent := by
  rw [State.checkEndOfLife_eq]
  split
  · next h =>
    rcases h.2 with hst | hst
    · unfold State.condemn
      rw [hst]
      exact State.recompute_current _
    · refine State.healthCurrent_of_eq hs (fun k => ?_) (s.condemn_kept l).config ?_ fun k => by rw [s.condemn_wear l]
      · rw [State.condemn_lanes, upd_get]
        split
        · next hk => subst hk; simp only [Lane.condemned, hst, LaneState.condemned, reduceCtorEq]
        · rfl
      · unfold State.condemn
        rw [hst]
        rfl
  · exact hs

theorem forEach_checkEndOfLife_current (ls : List LaneId) (hs : s.healthCurrent) :
    (forEach ls State.checkEndOfLife s).healthCurrent := by
  induction ls generalizing s with
  | nil => exact hs
  | cons l ls ih => exact ih (State.checkEndOfLife_current hs l)

/-- Where a lane retires, the attributes are current afterwards (R160). -/
theorem forEach_checkEndOfLife_retires {ls : List LaneId} (hl : l ∈ ls) (hworn : s.worn l = true)
    (hfree : s.lanes[l].state = .free) : (forEach ls State.checkEndOfLife s).healthCurrent := by
  induction ls generalizing s with
  | nil => exact nomatch hl
  | cons k ls ih =>
    by_cases hk : k = l
    · subst hk
      refine forEach_checkEndOfLife_current (s := s.checkEndOfLife k) ls ?_
      rw [State.checkEndOfLife_eq, if_pos ⟨hworn, .inl hfree⟩]
      unfold State.condemn
      rw [hfree]
      exact State.recompute_current _
    · refine ih (s := s.checkEndOfLife k) ((List.mem_cons.mp hl).resolve_left (Ne.symm hk)) ?_ ?_
      · rw [State.worn_of_eq (s.checkEndOfLife_kept k).config (s.checkEndOfLife_wear k)]; exact hworn
      · rw [State.checkEndOfLife_lane, if_neg (fun h => hk h.1)]; exact hfree

end Sys2Proof.Machine
end


section
set_option Elab.async false
/-! # CONFIG_SET of one item that acts at once (O22) -/

namespace Sys2Proof.Machine

variable {s t : State} {k : Fin 16} {c : BitVec 32}

/-! ### One pair (R180) -/

/-- A configuration item takes a value. -/
def State.withItem (k : Fin 16) (c : BitVec 32) (s : State) : State :=
  s.modStore fun t => { t with config := upd t.config k fun _ => c }

theorem upd_const_ne_iff {α : Type} {n : Nat} (v : Vector α n) (k : Fin n) (c : α) : (upd v k fun _ => c) ≠ v ↔ v[k] ≠ c := by
  refine not_congr ⟨fun h => ?_, fun h => upd_id v k _ h.symm⟩
  have hk : (upd v k fun _ => c)[k] = c := by rw [upd_get, if_pos rfl]
  rwa [h] at hk

/-- A CONFIG_SET of one pair: the clamped value, its effects, and CONFIG due where the value changed (R180). -/
theorem State.takeConfigSet_one (s : State) (k : Fin 16) (v : BitVec 32) (tag : Byte) :
    s.takeConfigSet [(byte k.val, v)] ⟨tag, partByte⟩ =
      ((((s.withItem k (clampConfig k v)).configEffects [(k, clampConfig k v)]).configDue
        (decide (s.store.config[k] ≠ clampConfig k v))).reply 0x10 tag partByte .ok
        (byte k.val :: bytes32 (clampConfig k v))) := by
  have hpairs : configPairs [(byte k.val, v)] = some [(k, clampConfig k v)] := by
    simp only [configPairs, itemIndex, fin?_byte (by decide : 16 ≤ 256)]
  have hchanged : decide (storePairs [(k, clampConfig k v)] s.store.config ≠ s.store.config) =
      decide (s.store.config[k] ≠ clampConfig k v) :=
    decide_eq_decide.mpr (upd_const_ne_iff _ _ _)
  rw [← hchanged]
  unfold State.takeConfigSet
  simp only [ne_eq, not_true_eq_false, if_false, hpairs]
  rfl

theorem setsItem_one (i k : Fin 16) (c : BitVec 32) : setsItem i [(k, c)] = decide (k = i) := by
  simp [setsItem]

theorem State.healthDue_same {old : HealthRecord} (h : s.health.record = old) : s.healthDue old = s := if_pos h

/-- SILENCE set: the silence timer starts anew or is turned off, and nothing else follows (R171). -/
theorem State.configEffects_silence (s : State) (c : BitVec 32) : s.configEffects [(1, c)] = s.startSilence := by
  unfold State.configEffects
  simp only [setsItem_one]
  exact State.healthDue_same rfl

/-! ### The items that act on HEALTH (R154 to R160) -/

/-- RATED_LIFE gives every lane its life (R154). -/
def State.newLives (k : Fin 16) (s : State) : State := if k = 4 then s.computeLives else s

/-- RATED_LIFE, and RETIRE_AT_END set on, bring the end-of-life checks (R159). -/
def State.newEnds (k : Fin 16) (s : State) : State :=
  if k = 4 ∨ (k = 12 ∧ s.retireAtEnd = true) then forEach allLanes State.checkEndOfLife s else s

/-- RATED_LIFE, LANE_NEED and LIFE_THRESHOLD bring the attributes up to date (R156). -/
def State.newAttributes (k : Fin 16) (s : State) : State := if k = 12 then s else s.recompute

/-- The part after the effects of one of these items (R153 to R160). -/
def State.newFigures (k : Fin 16) (s : State) : State :=
  (((s.newLives k).newEnds k).newAttributes k).healthDue s.health.record

theorem State.configEffects_health (s : State) (hk : k ∈ ([3, 4, 5, 12] : List (Fin 16))) (c : BitVec 32) :
    s.configEffects [(k, c)] = s.newFigures k := by
  simp only [List.mem_cons, List.not_mem_nil, or_false] at hk
  unfold State.configEffects State.newFigures State.newLives State.newEnds State.newAttributes
  simp only [setsItem_one]
  rcases hk with rfl | rfl | rfl | rfl
  · rfl
  · rfl
  · rfl
  · by_cases h : s.retireAtEnd = true <;> simp [h]

theorem State.newLives_kept (k : Fin 16) (s : State) : EffectsKept s (s.newLives k) := by
  unfold State.newLives; split
  · exact s.computeLives_kept
  · exact .refl s

theorem State.newLives_lanes (k : Fin 16) (s : State) : (s.newLives k).lanes = s.lanes := by
  unfold State.newLives; split
  · exact s.computeLives_lanes
  · rfl

theorem State.newLives_life (k : Fin 16) (s : State) (l : LaneId) : ((s.newLives k).health.lanes[l]).life =
    if k = 4 then lifePercent s.ratedLife (s.health.lanes[l]).counts.largest else (s.health.lanes[l]).life := by
  unfold State.newLives
  by_cases hk : k = 4
  · rw [if_pos hk, if_pos hk]; exact s.computeLives_life l
  · rw [if_neg hk, if_neg hk]

theorem State.newEnds_kept (k : Fin 16) (s : State) : EffectsKept s (s.newEnds k) := by
  unfold State.newEnds; split
  · exact forEach_kept _ (fun l t => t.checkEndOfLife_kept l) _ s
  · exact .refl s

theorem State.newEnds_wear (k : Fin 16) (s : State) : (s.newEnds k).health.lanes = s.health.lanes := by
  unfold State.newEnds; split
  · exact forEach_checkEndOfLife_wear allLanes s
  · rfl

/-- A worn lane is condemned by RATED_LIFE and by RETIRE_AT_END set on (R159). -/
theorem State.newEnds_lane (k : Fin 16) (s : State) (l : LaneId) : (s.newEnds k).lanes[l] =
    if (k = 4 ∨ k = 12) ∧ s.worn l = true then s.lanes[l].condemned else s.lanes[l] := by
  have hretire (h : s.worn l = true) : s.retireAtEnd = true := (Bool.and_eq_true_iff.mp h).1
  unfold State.newEnds
  by_cases hk : k = 4 ∨ (k = 12 ∧ s.retireAtEnd = true)
  · have hitem : k = 4 ∨ k = 12 := hk.imp_right And.left
    rw [if_pos hk, forEach_checkEndOfLife_lane]
    simp only [mem_allLanes, hitem, true_and]
  · have hnot : ¬((k = 4 ∨ k = 12) ∧ s.worn l = true) := fun ⟨hitem, hworn⟩ => hk (hitem.imp_right fun h => ⟨h, hretire hworn⟩)
    rw [if_neg hk, if_neg hnot]

/-- RETIRE_AT_END that retires a lane leaves the attributes current (R160). -/
theorem State.newEnds_current {l : LaneId} (hk : k = 12) (hworn : s.worn l = true) (hfree : s.lanes[l].state = .free) :
    (s.newEnds k).healthCurrent := by
  unfold State.newEnds
  rw [if_pos (.inr ⟨hk, (Bool.and_eq_true_iff.mp hworn).1⟩)]
  exact forEach_checkEndOfLife_retires (mem_allLanes l) hworn hfree

theorem State.newAttributes_kept (k : Fin 16) (s : State) : EffectsKept s (s.newAttributes k) := by
  unfold State.newAttributes; split
  · exact .refl s
  · exact s.recompute_kept

theorem State.newAttributes_lanes (k : Fin 16) (s : State) : (s.newAttributes k).lanes = s.lanes := by
  unfold State.newAttributes; split
  · rfl
  · exact s.recompute_lanes

theorem State.newAttributes_wear (k : Fin 16) (s : State) : (s.newAttributes k).health.lanes = s.health.lanes := by
  unfold State.newAttributes; split
  · rfl
  · rw [State.recompute_health]

theorem State.newFigures_kept (k : Fin 16) (s : State) : EffectsKept s (s.newFigures k) :=
  (((s.newLives_kept k).trans (State.newEnds_kept k _)).trans (State.newAttributes_kept k _)).trans (State.healthDue_kept _ _)

/-- The lives are those RATED_LIFE gives, and no later effect changes them (R154). -/
theorem State.newFigures_life (k : Fin 16) (s : State) (l : LaneId) : ((s.newFigures k).health.lanes[l]).life =
    if k = 4 then lifePercent s.ratedLife (s.health.lanes[l]).counts.largest else (s.health.lanes[l]).life := by
  unfold State.newFigures
  rw [State.healthDue_life, ← State.newLives_life]
  simp only [State.newAttributes_wear, State.newEnds_wear]

/-- The worn lanes are condemned, and no other lane changes (R159). -/
theorem State.newFigures_lane (k : Fin 16) (s : State) (l : LaneId) : (s.newFigures k).lanes[l] =
    if (k = 4 ∨ k = 12) ∧ (s.newLives k).worn l = true then s.lanes[l].condemned else s.lanes[l] := by
  have hlanes : (s.newFigures k).lanes = ((s.newLives k).newEnds k).lanes := by
    unfold State.newFigures
    rw [State.healthDue_frame State.lanes (fun _ _ _ => rfl) (fun _ _ => rfl), State.newAttributes_lanes]
  simp only [hlanes, State.newEnds_lane, State.newLives_lanes]

/-- RATED_LIFE, LANE_NEED, LIFE_THRESHOLD, and each retirement, bring the attributes up to date (R156, R160). -/
theorem State.newFigures_current {k : Fin 16}
    (h : k ≠ 12 ∨ ∃ l : LaneId, (s.newLives k).worn l = true ∧ s.lanes[l].state = .free) : (s.newFigures k).healthCurrent := by
  refine State.healthDue_current ?_ _
  unfold State.newAttributes; split
  · next hk =>
    obtain ⟨l, hworn, hfree⟩ := h.resolve_left (not_not_intro hk)
    exact State.newEnds_current hk hworn (by simpa only [State.newLives_lanes] using hfree)
  · exact State.recompute_current _

/-- A change makes CONFIG due, or puts its write under way with the content as it stands (R177, R180). -/
theorem State.configDue_pending (s : State) : configItem ∈ (s.configDue true).store.pendingWrites ∨
    ∃ w : Write, (s.configDue true).store.inFlight = some w ∧ w.content = .config s.store.config (s.ports.map Port.desc) :=
  State.due_pending (s.touch configItem) configItem

/-! ### The request -/

/-- A lane is worn by the new life and RETIRE_AT_END as it now stands (R159). -/
theorem State.newLives_worn (k : Fin 16) (s : State) (l : LaneId) : (s.newLives k).worn l = true ↔
    s.store.config[(12 : Fin 16)] ≠ 0 ∧
      (if k = 4 then lifePercent s.ratedLife (s.health.lanes[l]).counts.largest else (s.health.lanes[l]).life) = 0 := by
  have hzero : s.store.config[(12 : Fin 16)].toNat ≠ 0 ↔ s.store.config[(12 : Fin 16)] ≠ 0 :=
    not_congr (BitVec.toNat_eq (x := s.store.config[(12 : Fin 16)]) (y := 0)).symm
  unfold State.worn State.retireAtEnd State.cfg
  rw [Bool.and_eq_true, decide_eq_true_eq, (s.newLives_kept k).config, State.newLives_life, bne_iff_ne, hzero]

/-- A request for one item is answered once its effects have been taken. -/
theorem exec_configSet_one {u : State} {tag : Byte} (k : Fin 16) (v : BitVec 32) (hr : s.ready)
    (hu : ((s.arrive.withItem k (clampConfig k v)).configEffects [(k, clampConfig k v)]).configDue
      (decide (s.store.config[k] ≠ clampConfig k v)) = u) (ha : u.agenda = []) (hs : u.link.slots = []) :
    exec (.configSet tag 0xFF [(byte k.val, v)]) s =
      .next (u.answered 0x10 tag 0xFF .ok (byte k.val :: bytes32 (clampConfig k v))) := by
  refine request_answered (r := .configSet [(byte k.val, v)]) hr trivial ?_ ha hs
  rw [← hu, ← State.arrive_store]
  exact s.arrive.takeConfigSet_one k v tag

/-- SILENCE set by a request (R171, R180). -/
theorem exec_configSet_silence {tag : Byte} (v : BitVec 32) (hr : s.ready) :
    let new := clampConfig 1 v
    let d : Duration := new.setWidth 16
    let u := (s.arrive.modStore fun t => { t with config := upd t.config 1 fun _ => new }).modTime fun b =>
      { b with silence := if Duration.count d = 0 then .off else .running (Timer.begin d b.now) }
    let data := byte 1 :: bytes32 new
    (s.store.config[(1 : Fin 16)] = new →
      exec (.configSet tag 0xFF [(1, v)]) s = .next (u.answered 0x10 tag 0xFF .ok data)) ∧
    (s.store.config[(1 : Fin 16)] ≠ new →
      exec (.configSet tag 0xFF [(1, v)]) s =
        .next (((u.touch configItem).due configItem).answered 0x10 tag 0xFF .ok data)) := by
  intro new d u data
  have heffects : (s.arrive.withItem 1 new).configEffects [(1, new)] = u := by
    have hd : (s.arrive.withItem 1 new).silenceTime = d := by
      unfold State.silenceTime State.cfgDuration State.withItem
      simp only [State.modStore_store, upd_get, if_true, d]
    rw [State.configEffects_silence]
    unfold State.startSilence
    rw [hd]
    rfl
  have ha : u.agenda = [] := (s.arrive_agenda).trans hr.2.2.1
  have hs : u.link.slots = [] := congrArg Link.slots s.arrive_link
  refine ⟨fun hsame => ?_, fun hchanged => ?_⟩
  · exact exec_configSet_one 1 v hr (by rw [heffects, decide_eq_false (not_not_intro hsame)]; rfl) ha hs
  · refine exec_configSet_one 1 v hr (by rw [heffects, decide_eq_true hchanged]; rfl) ?_ ?_
    · exact ((u.touch_due_kept configItem).agenda).trans ha
    · exact ((u.touch_due_kept configItem).slots).trans hs

/-- CAL_SET by a request (R114, R176). -/
theorem exec_calSet {tag : Byte} (z g : BitVec 16) (hr : s.ready) (r : Range) :
    let new : Cal := { z := max (-8192) (min 8191 z.toInt), g := max 16384 (min 49151 g.toNat), uncal := false }
    let changed := decide (s.meter.cal[r].z ≠ new.z ∨ s.meter.cal[r].g ≠ new.g)
    ∃ t : State,
      exec (.calSet tag 0xFF (byte r.val) z g) s = .next (t.answered 0x0E tag 0xFF .ok
        ([byte r.val] ++ bytes16 (BitVec.ofInt 16 new.z) ++ nat16 new.g ++ [0])) ∧
      t = (s.arrive.modMeter fun m => { m with cal := upd m.cal r fun _ => new }).modStore fun n => { n with
        differs := upd n.differs calItem fun b => b || changed
        inFlight := n.inFlight.map fun w =>
          { w with changed := w.changed || (decide (w.content.item = calItem) && changed) } } := by
  intro new changed
  have hstored := s.arrive.calStored_eq r new
  simp only [State.arrive_meter] at hstored
  refine ⟨s.arrive.calStored r new, ?_, hstored⟩
  refine request_answered (r := .calSet (byte r.val) z g) hr trivial (State.takeCalSet_stored r z g tag) ?_ ?_
  · exact (congrArg State.agenda hstored).trans (s.arrive_agenda.trans hr.2.2.1)
  · exact (congrArg (fun t => t.link.slots) hstored).trans (congrArg Link.slots s.arrive_link)

/-- The differs flags after an owner's change of one item (R176). -/
theorem upd_or_get {n : Nat} (v : Vector Bool n) (i j : Fin n) (c : Bool) :
    (upd v i fun b => b || c)[j] = (v[j] || (decide (j = i) && c)) := by
  rw [upd_get]
  by_cases h : i = j
  · subst h; simp
  · simp [h, Ne.symm h]

/-- The life of each lane once the frame has arrived and the item has its value (R154). -/
theorem State.newFigures_withItem_life (k : Fin 16) (c : BitVec 32) (s : State) (l : LaneId) :
    (((s.arrive.withItem k c).newFigures k).health.lanes[l]).life =
      if k = 4 then lifePercent c.toNat (s.health.lanes[l]).counts.largest else (s.health.lanes[l]).life := by
  have hhealth : (s.arrive.withItem k c).health = s.health := s.arrive_health
  rw [State.newFigures_life]
  by_cases h4 : k = 4
  · subst h4
    have hrated : (s.arrive.withItem 4 c).ratedLife = c.toNat := by
      simp only [State.ratedLife, State.cfg, State.withItem, State.modStore_store, upd_get, if_true]
    simp only [if_true, hrated, hhealth]
  · simp only [if_neg h4, hhealth]

/-- The lanes that the item brings to their end (R159). -/
theorem State.newLives_withItem_worn (k : Fin 16) (c : BitVec 32) (s : State) (l : LaneId) :
    ((s.arrive.withItem k c).newLives k).worn l = true ↔ (upd s.store.config k fun _ => c)[(12 : Fin 16)] ≠ 0 ∧
      (((s.arrive.withItem k c).newFigures k).health.lanes[l]).life = 0 := by
  have hconfig : (s.arrive.withItem k c).store.config = upd s.store.config k fun _ => c :=
    congrArg (fun n : Store => upd n.config k fun _ => c) s.arrive_store
  rw [State.newLives_worn, State.newFigures_life, hconfig]

/-- A lane that is condemned, state by state (R47). -/
theorem Lane.condemned_eq (x : Lane) : x.condemned = { x with state := match x.state with
    | .free => .retired
    | .inUse => .retiring
    | .retiring => .retiring
    | .retired => .retired } := by
  unfold Lane.condemned
  cases x.state <;> rfl

/-- Settles O22: the clamps, CAL_SET, SILENCE, and the items that act on HEALTH by what their effects keep. -/
theorem settingsAndCalibration : Obligations.SettingsAndCalibration := by
  refine ⟨fun w v hv => clampWidth_nearest hv, clampConfig_toNat, fun tag s z g hr => ⟨?_, fun b hb => ?_⟩,
    fun tag s v hr => exec_configSet_silence v hr, ?_⟩
  · intro r new changed
    obtain ⟨t, hexec, rfl⟩ := exec_calSet (tag := tag) z g hr r
    refine ⟨_, hexec, congrArg (fun m : Meter => { m with cal := upd m.cal r fun _ => new }) s.arrive_meter, fun it => ?_, ?_,
      s.arrive_sites, s.arrive_ports, s.arrive_lanes, s.arrive_results, s.arrive_health, s.arrive_resetReq,
      s.arrive_laneWaiters, rfl, s.arrive_pins, s.arrive_freeze, rfl⟩
    · simp only [State.modStore_store, State.modMeter_store, State.arrive_store, upd_or_get]
      rfl
    · simp only [State.modStore_store, State.modMeter_store, State.arrive_store]
      rfl
  · exact request_refused (r := .calSet b z g) hr trivial (State.takeCalSet_badField hb z g tag)
  · intro tag s k v hr hk cfg life atEnd
    obtain ⟨changed, hchanged⟩ : ∃ b, b = decide (s.store.config[k] ≠ clampConfig k v) := ⟨_, rfl⟩
    generalize hbase : s.arrive.withItem k (clampConfig k v) = base
    have hkept : EffectsKept base ((base.newFigures k).configDue changed) :=
      (base.newFigures_kept k).trans (State.configDue_kept _ _)
    have hconfig : base.store.config = cfg := by
      rw [← hbase]
      exact congrArg (fun n : Store => upd n.config k fun _ => clampConfig k v) s.arrive_store
    have hhealth : base.health = s.health := by rw [← hbase]; exact s.arrive_health
    have hlanes : base.lanes = s.lanes := by rw [← hbase]; exact s.arrive_lanes
    have hports : base.ports = s.ports := by rw [← hbase]; exact s.arrive_ports
    have hlife (l : LaneId) : ((base.newFigures k).health.lanes[l]).life = life l := by
      rw [← hbase, State.newFigures_withItem_life]
      by_cases h4 : k = 4
      · subst h4; rfl
      · simp only [life, if_neg h4]
    have hend (l : LaneId) : ((k = 4 ∨ k = 12) ∧ (base.newLives k).worn l = true) ↔ atEnd l := by
      have hworn := State.newLives_withItem_worn k (clampConfig k v) s l
      rw [hbase, hlife l] at hworn
      exact and_congr_right fun _ => hworn
    have hlane (l : LaneId) : ((base.newFigures k).configDue changed).lanes[l] =
        if atEnd l then s.lanes[l].condemned else s.lanes[l] := by
      simp only [State.configDue_frame State.lanes (fun _ _ _ => rfl) (fun _ _ => rfl), State.newFigures_lane, hend, hlanes]
    refine ⟨(base.newFigures k).configDue changed, ?_, ?_, fun l => ⟨?_, ?_, ?_, fun hl => ?_, fun hl => ?_⟩,
      fun h => ?_, fun h => ?_, ?_, ?_, ?_, ?_, ?_, ?_, ?_, ?_, ?_, ?_, ?_, ?_, ?_⟩
    · refine exec_configSet_one k v hr (by rw [hbase, State.configEffects_health _ hk, hchanged]) ?_ ?_
      · rw [hkept.agenda, ← hbase]; exact s.arrive_agenda.trans hr.2.2.1
      · rw [hkept.slots, ← hbase]; exact congrArg Link.slots s.arrive_link
    · exact hkept.config.trans hconfig
    · exact (State.configDue_life _ _ l).trans (hlife l)
    · rw [hkept.counts l, hhealth]
    · rw [hkept.marks l, hhealth]
    · rw [hlane, if_neg hl]
    · rw [hlane, if_pos hl]
      exact Lane.condemned_eq _
    · refine State.configDue_current (State.newFigures_current ?_) _
      exact h.imp_right fun ⟨l, hl, hfree⟩ => ⟨l, ((hend l).mpr hl).2, by rw [hlanes]; exact hfree⟩
    · have hpending := (base.newFigures k).configDue_pending
      rw [(base.newFigures_kept k).config, (base.newFigures_kept k).ports, hconfig, hports] at hpending
      rw [hchanged, decide_eq_true h]
      exact hpending
    · exact fun h => hkept.latch (by rw [hhealth]; exact h)
    · rw [hkept.hotOps, hhealth]
    · rw [hkept.coilFaults, hhealth]
    · rw [hkept.ocFaults, hhealth]
    · rw [hkept.sites, ← hbase]; exact s.arrive_sites
    · rw [hkept.ports, hports]
    · rw [hkept.results, ← hbase]; exact s.arrive_results
    · rw [hkept.meter, ← hbase]; exact s.arrive_meter
    · rw [hkept.time, ← hbase]; rfl
    · rw [hkept.pins, ← hbase]; exact s.arrive_pins
    · rw [hkept.freeze, ← hbase]; exact s.arrive_freeze
    · rw [hkept.laneWaiters, ← hbase]; exact s.arrive_laneWaiters
    · rw [hkept.resetReq, ← hbase]; exact s.arrive_resetReq

end Sys2Proof.Machine
end


section
set_option Elab.async false
/-! # Lanes, their routes and their loads (O56, O58) -/

namespace Sys2Proof.Machine

variable {s t : State}

/-! ### A lane holds a route exactly while it is IN_USE or RETIRING (R46) -/

theorem State.lanesAgree_of_lanes (hs : s.lanesAgree) (h : t.lanes = s.lanes) : t.lanesAgree := by
  unfold State.lanesAgree
  rw [h]
  exact hs

/-- One lane changes, and its route still agrees with its state. -/
theorem State.lanesAgree_modLane (hs : s.lanesAgree) (l : LaneId) (f : Lane → Lane)
    (h : (f s.lanes[l]).route.isSome = (f s.lanes[l]).state.holds) : (s.modLane l f).lanesAgree := by
  refine State.lanesAgree_iff.mpr fun k => ?_
  rw [State.modLane_lanes, upd_get]; split
  · next e => subst e; exact h
  · exact State.lanesAgree_iff.mp hs k

theorem Calm.keeps_lanes (h : Calm s t) (hs : s.lanesAgree) : t.lanesAgree := by
  have hagree := State.lanesAgree_iff.mp hs
  cases h with
  | aside _ _ _ hlanes => exact State.lanesAgree_of_lanes hs hlanes
  | notice n => exact State.lanesAgree_of_lanes hs (s.notice_lanes n)
  | lane l f hroute hstate => exact State.lanesAgree_modLane hs l f (by rw [hroute, hstate]; exact hagree l)
  | load l => exact State.lanesAgree_modLane hs l _ (hagree l)
  | route l => exact State.lanesAgree_modLane hs l _ (by rw [Option.isSome_map]; exact hagree l)
  | grant l => exact State.lanesAgree_modLane hs l _ rfl
  | condemned l st _ h => exact State.lanesAgree_modLane hs l _ (by rw [h]; exact hagree l)
  | link | enter | forget | site | accept | port | ports | health | wear | store | results =>
    exact State.lanesAgree_of_lanes hs rfl

theorem Change.keeps_lanes (h : Change s t) (hs : s.lanesAgree) : t.lanesAgree := by
  cases h with
  | calm h => exact h.keeps_lanes hs
  | arm l =>
    refine State.lanesAgree_modLane (State.lanesAgree_of_lanes hs rfl) l _ ?_
    rw [Option.isSome_map]
    exact State.lanesAgree_iff.mp hs l
  | remove l => exact State.lanesAgree_modLane hs l _ rfl
  | renew l h =>
    have hnone := hs.route_none (l := l) (by rw [h]; rfl)
    exact State.lanesAgree_modLane hs l _ (by rw [hnone]; rfl)
  | notes | link | site => exact State.lanesAgree_of_lanes hs rfl
  | loaded => exact s.loaded_arms.1
  | unpowered => exact s.unpowered_arms.1

/-- Settles O56: each elementary change of a lane keeps its route in step with its state, and a start-up leaves no route. -/
theorem lanesKept : Obligations.LanesKept := fun _ _ hs h =>
  step_keeps (fun _ _ hu => State.lanesAgree_of_lanes hu rfl) Change.keeps_lanes h hs

/-! ### No closing or opening load begins on a live lane (R49) -/

/-- Where the input pins did not change, the loads that are new in `t` began on quiet lanes, or are hot. -/
def State.beganQuiet (s t : State) : Prop := t.pins = s.pins ∧ noLiveSwitching s t

theorem State.beganQuiet_refl (s : State) : s.beganQuiet s := ⟨rfl, fun _ _ h hn => absurd h hn⟩

theorem State.beganQuiet.trans {u : State} (h : s.beganQuiet t) (h' : t.beganQuiet u) : s.beganQuiet u := by
  refine ⟨h'.1.trans h.1, fun l ld hu hs => ?_⟩
  have hlive : u.isLive l = t.isLive l := by unfold State.isLive; rw [h'.1]
  by_cases ht : t.lanes[l].load = some ld
  · rw [hlive]; exact h.2 l ld ht hs
  · exact h'.2 l ld hu ht

/-- Where each lane keeps its load or loses it, none begins. -/
theorem State.beganQuiet_of_loads (hpins : t.pins = s.pins)
    (hload : ∀ l : LaneId, t.lanes[l].load = s.lanes[l].load ∨ t.lanes[l].load = none) : s.beganQuiet t := by
  refine ⟨hpins, fun l ld ht hs => ?_⟩
  rcases hload l with h | h
  · exact absurd (h.symm.trans ht) hs
  · rw [h] at ht; cases ht

theorem State.beganQuiet_of_lanes (hpins : t.pins = s.pins) (hlanes : t.lanes = s.lanes) : s.beganQuiet t :=
  State.beganQuiet_of_loads hpins fun l => .inl (by rw [hlanes])

theorem State.beganQuiet_modLane (l : LaneId) (f : Lane → Lane)
    (hload : (f s.lanes[l]).load = s.lanes[l].load ∨ (f s.lanes[l]).load = none) : s.beganQuiet (s.modLane l f) := by
  refine State.beganQuiet_of_loads rfl fun k => ?_
  rw [State.modLane_lanes, upd_get]; split
  · next e => subst e; exact hload
  · exact .inl rfl

/-- A load that begins is hot or finds its lane quiet. -/
theorem State.beganQuiet_beginLoad (l : LaneId) (ld : Load) (h : ld.kind = .hot ∨ s.isLive l = false) :
    s.beganQuiet (s.beginLoad l ld) := by
  refine ⟨rfl, fun k x hk hs => ?_⟩
  unfold State.beginLoad at hk
  rw [State.modLane_lanes, upd_get] at hk; split at hk
  · next e => subst e; cases hk; exact h
  · exact absurd hk hs

theorem Calm.beganQuiet (h : Calm s t) : s.beganQuiet t := by
  cases h with
  | aside _ _ _ hlanes _ _ _ hpins => exact State.beganQuiet_of_lanes hpins hlanes
  | notice n => exact State.beganQuiet_of_lanes (s.notice_pins n) (s.notice_lanes n)
  | lane l f _ _ hload => exact State.beganQuiet_modLane l f hload
  | load l ld h => exact State.beganQuiet_beginLoad l ld h
  | route l | grant l | condemned l => exact State.beganQuiet_modLane l _ (.inl rfl)
  | link | enter | forget | site | accept | port | ports | health | wear | store | results =>
    exact State.beganQuiet_of_lanes rfl rfl

theorem State.loaded_load (s : State) (l : LaneId) : s.loaded.lanes[l].load = none := by
  simp only [State.loaded, Fin.getElem_fin, Vector.getElem_map]
  rfl

theorem State.unpowered_load (s : State) (l : LaneId) : s.unpowered.lanes[l].load = none := by
  simp [State.unpowered, State.reset, Lane.fresh]

theorem Change.beganQuiet (h : Change s t) : s.beganQuiet t := by
  cases h with
  | calm h => exact h.beganQuiet
  | arm l => exact State.beganQuiet_modLane (s := s.modPort _ _) l _ (.inl rfl)
  | remove l | renew l => exact State.beganQuiet_modLane l _ (.inl rfl)
  | notes | link | site => exact State.beganQuiet_of_lanes rfl rfl
  | loaded => exact State.beganQuiet_of_loads rfl fun l => .inr (s.loaded_load l)
  | unpowered => exact State.beganQuiet_of_loads rfl fun l => .inr (s.unpowered_load l)

theorem Changes.beganQuiet (h : Changes s t) : s.beganQuiet t := by
  induction h with
  | refl => exact State.beganQuiet_refl s
  | tail _ hc ih => exact ih.trans hc.beganQuiet

/-- Settles O58: a step sets the input pins first, and then no elementary change begins a load that is not hot on a lane that
reads live. -/
theorem neverSwitchesLive : Obligations.NeverSwitchesLive := by
  intro s t h
  obtain ⟨p, hp⟩ := step_changes h
  exact (Changes.beganQuiet hp).2

end Sys2Proof.Machine
end


section
set_option Elab.async false
/-! # How the steps that use a route start (O36) -/

namespace Sys2Proof.Machine

variable {s t : State} {i : SiteId} {l : LaneId} {r : Route} {tag : Byte} {rest : List Step} {ph : Phase} {n : Nat}

/-! ### Routes by handle, and their states (R37, R55) -/

theorem State.findRoute_eq {h : Handle} (hf : s.findRoute i h = some (l, r)) :
    s.routeLane i h = some l ∧ s.lanes[l].route = some r := by
  refine ⟨?_, State.findRoute_route hf⟩
  unfold State.findRoute at hf; split at hf
  · next k hk =>
    obtain ⟨u, -, hu⟩ := Option.map_eq_some_iff.mp hf
    cases hu; exact hk
  · cases hf

/-- A disarmed route that goes on to another state than LIVE: its arm line is deasserted, and it is in that state (R37). -/
theorem State.disarm_setRoute {st : RouteState} (hr : s.lanes[l].route = some r) (hlive : r.state = .live) (hst : st ≠ .live) :
    (s.disarm l).setRoute l st = (s.modPort r.port fun x => { x with arm := false }).modLane l fun x =>
      { x with route := some { r with state := st } } := by
  unfold State.disarm
  rw [State.setRoute_of_route (by decide) hr, State.disarmRoute_of_live hr hlive,
    State.setRoute_of_route (r := { r with state := .quieting }) hst (by rw [State.modLane_get]),
    State.disarmRoute_of_not_live (r := { r with state := .quieting }) (by rw [State.modLane_get]) nofun,
    State.modLane_modLane]

theorem State.disarm_of_live (hr : s.lanes[l].route = some r) (hlive : r.state = .live) :
    s.disarm l = (s.modPort r.port fun x => { x with arm := false }).modLane l fun x =>
      { x with route := some { r with state := .quieting } } := by
  unfold State.disarm
  rw [State.setRoute_of_route (by decide) hr, State.disarmRoute_of_live hr hlive]

/-! ### Quiet waits (R73, R77) -/

/-- A quiet wait has the discharge timer unless a FULL reset makes it (R73, R77). -/
theorem State.startQuiet_bounded (h : s.unbounded l = false) (a : QuietAction) : s.startQuiet l a = s.modLane l fun x =>
    { x with quiet := some ⟨a, some (Timer.begin s.dischargeTimeout s.time.now)⟩ } := by
  unfold State.startQuiet
  rw [h]; rfl

/-- Only the owner of the lane's route, its CLEAR and the RESET in flight decide whether a quiet wait is bounded. -/
theorem State.unbounded_congr (hreset : t.resetReq = s.resetReq)
    (howner : (t.lanes[l].route).map Route.site = (s.lanes[l].route).map Route.site)
    (hclear : ∀ j : SiteId, t.sites[j].clear = s.sites[j].clear) : t.unbounded l = s.unbounded l := by
  have hclearing (u : State) : u.clearing l = (((u.lanes[l].route).map Route.site).map fun j =>
      (u.sites[j].clear).isSome).getD false := by
    unfold State.clearing
    cases u.lanes[l].route <;> rfl
  unfold State.unbounded State.inPhase
  rw [hclearing t, hclearing s, howner, hreset]
  simp only [hclear]

theorem State.unbounded_of_not_full (h : s.fullReset = false) : s.unbounded l = false := by
  unfold State.unbounded
  rw [State.inPhase_of_not_full h, Bool.false_and]

/-! ### Room for a reading (R135) -/

theorem State.setPhase_eq (hr : s.sites[i].running = some ⟨.active ph, n⟩) (ph' : Phase) :
    s.setPhase i ph' = s.modSite i fun x => { x with running := some ⟨.active ph', n⟩ } :=
  State.modSite_congr (by simp only [hr, Option.map_some])

theorem State.modSite_modRes (f : Site → Site) (g : SiteResults → SiteResults) (j : SiteId) :
    (s.modSite i f).modRes j g = (s.modRes j g).modSite i f := rfl

theorem State.modSite_modPort (f : Site → Site) (p : PortId) (g : Port → Port) :
    (s.modSite i f).modPort p g = (s.modPort p g).modSite i f := rfl

theorem State.modLane_setPhase (f : Lane → Lane) (ph : Phase) :
    (s.modLane l f).setPhase i ph = (s.setPhase i ph).modLane l f := rfl

/-- An action waits for room while its site's closed block waits, or a block of its site closes at this event (R135). -/
theorem State.askRoom_waits (h : s.results.sites[i].pos = .closedWaiting ∨ s.closing i = true) :
    s.askRoom i = s.setPhase i .blockWait := if_pos h

/-- Otherwise it has room at once. -/
theorem State.askRoom_room (hpos : s.results.sites[i].pos ≠ .closedWaiting) (hc : s.closing i = false) :
    s.askRoom i = (s.setPhase i .blockWait).giveRoom i :=
  if_neg (fun h => h.elim hpos (Bool.eq_false_iff.mp hc))

/-- The acquisition that METER starts with the settings in force (R98, log entry 34). -/
def State.newAcquisition (i : SiteId) (tag : Byte) (point : Nat) (m : MeterSpec) (limits : Option Limits) (s : State) :
    Acquisition :=
  { site := i, tag := tag, point := point, requested := m.range, range := m.range, aperture := m.aperture,
    autorange := m.autorange, raw := m.raw, limits := limits, clip := s.clipLevel, interval := s.sampleInterval,
    cal := s.meter.cal, hv := s.sites[i].reach.hv, retries := 0, switching := false,
    timer := Timer.begin s.sampleInterval s.time.now, taken := 0, sum := 0, clipped := 0, last := 0,
    lastUncertain := false }

/-- A site's phase has no part in the acquisition. -/
theorem State.newAcquisition_modSite {f : Site → Site} (hf : ∀ x, (f x).reach = x.reach) (i : SiteId) (tag : Byte) (k : Nat)
    (m : MeterSpec) (limits : Option Limits) :
    (s.modSite i f).newAcquisition i tag k m limits = s.newAcquisition i tag k m limits := by
  unfold State.newAcquisition
  rw [State.modSite_get, hf]
  rfl

theorem State.startAcquisition_eq {m : MeterSpec} {limits : Option Limits} (point : Nat)
    (hr : s.sites[i].running = some ⟨.active ph, n⟩) : s.startAcquisition i tag point m limits =
      (s.modSite i fun x => { x with running := some ⟨.active .acquire, n⟩ }).modMeter fun t =>
      { t with acq := some (s.newAcquisition i tag point m limits) } := by
  unfold State.startAcquisition
  exact State.setPhase_eq (s := s.modMeter _) hr .acquire

/-- A MEASURE that has room starts its acquisition (R121). -/
theorem State.giveRoom_measure {m : MeterSpec} (hq : s.sites[i].queue = ⟨tag, .measure m⟩ :: rest)
    (hr : s.sites[i].running = some ⟨.active ph, n⟩) : s.giveRoom i = ((s.modRes i fun x =>
      { x with reserved := true }).modSite i fun x => { x with running := some ⟨.active .acquire, n⟩ }).modMeter fun t =>
      { t with acq := some (s.newAcquisition i tag 0 m m.limits) } := by
  unfold State.giveRoom State.goOnWithRoom
  rw [State.active_eq (s := s.modRes i _) hq hr]
  exact State.startAcquisition_eq (s := s.modRes i _) 0 hr

/-- A TRIGGER that has room goes on to its port (R38). -/
theorem State.giveRoom_trigger {h : Handle} {d : Duration} (hq : s.sites[i].queue = ⟨tag, .trigger h d⟩ :: rest)
    (hr : s.sites[i].running = some ⟨.active ph, n⟩) :
    s.giveRoom i = (s.modRes i fun x => { x with reserved := true }).triggerPort i tag h d := by
  unfold State.giveRoom State.goOnWithRoom
  rw [State.active_eq (s := s.modRes i _) hq hr]

/-- A TRIGGER that finds its port's line released asserts it (R39). -/
theorem State.triggerPort_released {h : Handle} {d : Duration} (hl : s.routeLane i h = some l)
    (hr : s.lanes[l].route = some r) (hline : s.ports[r.port].trigger = false) :
    s.triggerPort i tag h d = s.assertTrigger i tag r.port d := by
  unfold State.triggerPort
  simp only [hl, hr, hline, Bool.false_eq_true, if_false]

/-! ### The starts -/

theorem State.startMeter_of_route {h : Handle} (hf : s.findRoute i h = some (l, r)) :
    s.startMeter i h = if r.port ≠ 0 then s.failLogic i .notMeter else s.askRoom i := by
  unfold State.startMeter
  rw [hf]

theorem State.startTrigger_of_route {h : Handle} (hf : s.findRoute i h = some (l, r)) :
    s.startTrigger i h = if r.port = 0 then s.failLogic i .noHandle else s.askRoom i := by
  unfold State.startTrigger
  rw [hf]

theorem State.startDisarm_of_live {h : Handle} (hf : s.findRoute i h = some (l, r)) (hlive : r.state = .live) :
    s.startDisarm i h = if s.isLive l then ((s.disarm l).setPhase i .disarming).startQuiet l .disarm
      else ((s.disarm l).setRoute l .ready).endOk i := by
  have hpins : (s.disarm l).isLive l = s.isLive l := by
    rw [State.disarm_of_live (State.findRoute_route hf) hlive]; rfl
  unfold State.startDisarm
  rw [hf]
  simp only [hlive, if_true, hpins]

/-- Settles O36: the starts without a route, then each start by the kind of its port and the state of its route. -/
theorem routeStepsStart : Obligations.RouteStepsStart := by
  refine ⟨fun s i h hf => ⟨?_, ?_, ?_, ?_⟩, fun s i h l r hf => ?_⟩
  · unfold State.startArm; rw [hf]
  · unfold State.startDisarm; rw [hf]
  · unfold State.startMeter; rw [hf]
  · unfold State.startTrigger; rw [hf]
  obtain ⟨hl, hr⟩ := State.findRoute_eq hf
  refine ⟨fun hk hst => ?_, fun hst => ?_, fun hk => ?_, fun hk hst => ?_, fun hst hq => ?_, fun hst hq hfull => ?_,
    fun hp => ?_, fun hp => ?_, fun tag m rest hp hqueue hrun hpos hc => ?_,
    fun tag d rest hp hqueue hrun hpos hc hline hd => ?_⟩
  · unfold State.startArm; simp only [hf, hk, hst]; rfl
  · unfold State.startDisarm; simp only [hf, hst]; rfl
  · unfold State.startArm; simp only [hf, if_pos hk]
  · unfold State.startArm
    simp only [hf, hk, hst, ne_eq, not_true_eq_false, if_false, if_true]
    rw [State.setRoute_live]
    exact congrArg (State.endOk i) (State.modLane_congr (by simp only [State.modPort_lanes, hr, Option.map_some]))
  · rw [State.startDisarm_of_live hf hst, hq, if_neg (by decide), State.disarm_setRoute hr hst (by decide)]
  · rw [State.startDisarm_of_live hf hst, if_pos hq, State.disarm_of_live hr hst]
    rw [State.modLane_setPhase, State.startQuiet_bounded (State.unbounded_of_not_full (by exact hfull)),
      State.modLane_modLane]
    rfl
  · rw [State.startMeter_of_route hf, if_pos hp]
  · rw [State.startTrigger_of_route hf, if_pos hp]
  · rw [State.startMeter_of_route hf, if_neg (not_not.mpr hp), State.askRoom_room hpos hc, State.setPhase_eq hrun,
      State.giveRoom_measure (tag := tag) (m := m) (rest := rest) (by rw [State.modSite_get]; exact hqueue)
      (by rw [State.modSite_get])]
    rw [State.newAcquisition_modSite (by exact fun _ => rfl), State.modSite_modRes, State.modSite_modSite]
    rfl
  · rw [State.startTrigger_of_route hf, if_neg hp, State.askRoom_room hpos hc, State.setPhase_eq hrun,
      State.giveRoom_trigger (tag := tag) (h := h) (d := d) (rest := rest) (by rw [State.modSite_get]; exact hqueue)
      (by rw [State.modSite_get])]
    rw [State.triggerPort_released (by exact hl) (by exact hr) (by exact hline),
      State.assertTrigger_eq (ph := .blockWait) (n := 0) tag (by rw [State.modRes_sites, State.modSite_get]) hd,
      State.modSite_modRes, State.modSite_modPort, State.modSite_modSite]
    rfl

end Sys2Proof.Machine
end


section
set_option Elab.async false
/-! # The operate wait and the settle wait (O43) -/

namespace Sys2Proof.Machine

variable {s u : State} {i : SiteId} {l : LaneId} {r : Route} {t : Timer} {st : Step} {rest : List Step} {ph : Phase} {n : Nat}

/-! ### The end of an event -/

/-- An event with one follow-up that brings little work ends as that follow-up does. -/
theorem State.push_finish {k : Task} (ha : u.agenda = []) (hw : (u.runTask k).work ≤ 4095) :
    (u.push k).finish = (u.runTask k).finish := by
  refine State.finish_of_drain_work (n := 4095) ?_ hw (by decide)
  rw [show Config.cascadeBound = 4095 + 1 from rfl, drain_cons 4095 _ k [] (by rw [State.push_agenda, ha, insertTask_nil]),
    State.push_clear u k ha]

/-- A step that runs alone ends OK: its DONE enters the completion queue, and the site enters IDLE (R10, R192). -/
theorem State.endOk_alone_finish (hb : s.noBacklog) (halone : s.runsAlone i st ph n) : (s.endOk i).finish =
    .next ((s.doneQueued (makeDone i st n .ok none s.results.sites[i].lastSeq [])).modSite i fun x =>
      { x with state := .idle }).transmit := by
  obtain ⟨ha, hslots, hwait, hclosed⟩ := hb
  obtain ⟨hq, hr, hst, hheld, hc, hfree⟩ := halone
  generalize hD : makeDone i st n .ok none s.results.sites[i].lastSeq [] = D
  have hsite : D.site = i := by rw [← hD]; rfl
  have hdone : s.endOk i = (s.modSite i fun x => { x with running := some ⟨.ended, n⟩ }).push (.done D) := by
    rw [← hD]; exact State.finishStep_eq _ _ _ _ hq hr
  subst hsite
  rw [hdone]
  refine State.finish_of_drain_noBacklog (drain_done 4095 ?_ ?_ ?_ ?_ |>.trans ?_) ⟨ha, hslots, hwait, hclosed⟩
  · exact ha
  · exact hfree
  · exact hwait
  · rw [State.modSite_get]; exact hc
  · rw [State.siteMovesOn_empty, drain_nil _ _ (by exact ha)]
    · unfold State.doneQueued
      rw [State.modSite_modLink, State.modSite_modSite, State.modSite_modSite, State.modSite_modSite]
      exact State.modSite_congr (by simp only [State.modLink_sites, hq, List.tail_cons])
    all_goals simp only [State.modSite_get, State.modLink_sites]
    · exact hst
    · exact hheld
    · rw [hq]; rfl

/-! ### Lane waits -/

theorem Lane.waitOf_eq {x : Lane} {k : WaitKind} (h : x.wait = some ⟨k, t⟩) : x.waitOf k = some t := by
  unfold Lane.waitOf
  rw [h]
  exact if_pos rfl

/-- A wait whose duration does not have count 0 brings no follow-up (R166). -/
theorem State.startWait_timed {d : Duration} (hd : Duration.count d ≠ 0) (k : WaitKind) : s.startWait l k d =
    s.modLane l fun x => { x with wait := some ⟨k, Timer.begin d s.time.now⟩ } := if_neg hd

/-- A wait of count 0 expires at the same event (R166). -/
theorem State.startWait_zero {d : Duration} (hd : Duration.count d = 0) (k : WaitKind) : s.startWait l k d =
    (s.modLane l fun x => { x with wait := some ⟨k, Timer.begin d s.time.now⟩ }).push (waitTask k l) := if_pos hd

/-- The operate timer's expiry replaces the operate wait by the settle wait (R51, R59). -/
theorem State.operateExpired_eq (hr : s.lanes[l].route = some r) (hw : s.lanes[l].wait = some ⟨.operate, t⟩)
    (hx : t.expiry ≤ s.time.now) : s.operateExpired l = (s.endWait l).startWait l .settle (s.settleTime r.site) := by
  unfold State.operateExpired
  rw [Lane.waitOf_eq hw, State.expired_of_le hx, hr]

theorem State.endWait_startWait (k : WaitKind) (d : Duration) : (s.endWait l).startWait l k d = s.startWait l k d := by
  unfold State.startWait State.endWait
  rw [State.modLane_modLane]
  rfl

/-- The lane of a route that is READY once its wait has ended. -/
def Lane.settled (r : Route) (x : Lane) : Lane := { x with wait := none, route := some { r with state := .ready } }

theorem State.endWait_setRoute_ready (hr : s.lanes[l].route = some r) (hlive : r.state ≠ .live) :
    (s.endWait l).setRoute l .ready = s.modLane l (Lane.settled r) := by
  unfold State.endWait
  rw [State.setRoute_of_route (r := r) (by decide) (by rw [State.modLane_get]; exact hr),
    State.disarmRoute_of_not_live (r := r) (by rw [State.modLane_get]; exact hr) hlive, State.modLane_modLane]
  rfl

/-- The settle timer's expiry ends a CONNECT OK, its route READY (R59). -/
theorem State.settleExpired_connect {tag : Byte} {h : Handle} {p : PortId} {d e : Duration} {pins : List Pin}
    (hr : s.lanes[l].route = some r) (hw : s.lanes[l].wait = some ⟨.settle, t⟩) (hx : t.expiry ≤ s.time.now)
    (hlive : r.state ≠ .live) (ha : s.active r.site = some (⟨tag, .connect h p d e pins⟩, .closing, n)) :
    s.settleExpired l = (s.modLane l (Lane.settled r)).endOk r.site := by
  have hactive : (s.modLane l (Lane.settled r)).active r.site = some (⟨tag, .connect h p d e pins⟩, .closing, n) := ha
  unfold State.settleExpired
  rw [Lane.waitOf_eq hw, State.expired_of_le hx, hr]
  simp only [State.endWait_setRoute_ready hr hlive, hactive]

/-- The settle timer's expiry completes a SCAN's switch, its route READY (R69). -/
theorem State.settleExpired_scan {tag : Byte} {m : MeterSpec} {d : Duration} {pts : List ScanPoint}
    (hr : s.lanes[l].route = some r) (hw : s.lanes[l].wait = some ⟨.settle, t⟩) (hx : t.expiry ≤ s.time.now)
    (hlive : r.state ≠ .live) (ha : s.active r.site = some (⟨tag, .scan m d pts⟩, ph, n)) :
    s.settleExpired l = (s.modLane l (Lane.settled r)).switchComplete r.site := by
  have hactive : (s.modLane l (Lane.settled r)).active r.site = some (⟨tag, .scan m d pts⟩, ph, n) := ha
  unfold State.settleExpired
  rw [Lane.waitOf_eq hw, State.expired_of_le hx, hr]
  simp only [State.endWait_setRoute_ready hr hlive, hactive]

theorem State.noBacklog.modLane (h : s.noBacklog) (f : Lane → Lane) : (s.modLane l f).noBacklog := h

/-- The operate timer's expiry, of a CONNECT and of a SCAN's switch alike: the settle wait runs, or expires at once. -/
theorem exec_operateWaitExpiry {d : Duration} (hb : s.awake) (hr : s.lanes[l].route = some r)
    (hw : s.lanes[l].wait = some ⟨.operate, t⟩) (hx : t.expiry ≤ s.time.now) (hd : s.settleTime r.site = d)
    (hu : (s.modLane l fun x => { x with wait := some ⟨.settle, Timer.begin d s.time.now⟩ }) = u) :
    (Duration.count d ≠ 0 → exec (.operateWaitExpiry l) s = .next u.transmit) ∧
    (Duration.count d = 0 → exec (.operateWaitExpiry l) s = exec (.settleWaitExpiry l) u) := by
  have hexec : exec (.operateWaitExpiry l) s = (s.startWait l .settle d).finish := by
    refine (if_pos hb.1 : _ = (s.operateExpired l).finish).trans ?_
    rw [State.operateExpired_eq hr hw hx, hd, State.endWait_startWait]
  have hub : u.awake := hu ▸ hb
  refine ⟨fun hcount => ?_, fun hcount => ?_⟩
  · rw [hexec, State.startWait_timed hcount, hu, State.finish_noBacklog u hub.2]
  · have hwork : (u.settleExpired l).work ≤ 4095 := by
      have hrest := State.work_le hub.2.1 hub.2.2.1
      have hgrows := (State.settleExpired_grows (s := u) l).work
      omega
    have hsettle : exec (.settleWaitExpiry l) u = (u.settleExpired l).finish := if_pos hub.1
    rw [hexec, State.startWait_zero hcount, hu, hsettle]
    exact State.push_finish hub.2.1 hwork

/-- Settles O43: the operate wait ends alike for both steps, and the settle wait of a CONNECT ends it OK. -/
theorem connectWaits : Obligations.ConnectWaits := by
  intro s l t r hb hroute hx settles
  have hsettle {st : Step} {rest : List Step} {ph : Phase} {n : Nat} (hq : s.sites[r.site].queue = st :: rest)
      (hr : s.sites[r.site].running = some ⟨.active ph, n⟩) : s.settleTime r.site = match st.body with
        | .connect _ _ settle _ _ => settle
        | .scan _ settle _ => settle
        | _ => 0 := by
    unfold State.settleTime
    rw [State.active_eq hq hr]
    rcases st with ⟨g, _ | _ | _ | _ | _ | _ | _ | _ | _⟩ <;> rfl
  refine ⟨fun tag h p d e pins n hlive halone => ⟨fun hw => ?_, fun hw => ?_, fun hw => ?_⟩,
    fun tag m d pts rest n hq hr hw => ?_⟩
  · exact (exec_operateWaitExpiry hb hroute hw hx (hsettle halone.1 halone.2.1) rfl).1
  · exact (exec_operateWaitExpiry hb hroute hw hx (hsettle halone.1 halone.2.1) rfl).2
  · refine (if_pos hb.1 : _ = (s.settleExpired l).finish).trans ?_
    rw [State.settleExpired_connect hroute hw hx hlive (State.active_eq halone.1 halone.2.1)]
    exact State.endOk_alone_finish (hb.2.modLane _) halone
  · exact exec_operateWaitExpiry hb hroute hw hx (hsettle hq hr) rfl

end Sys2Proof.Machine
end


section
set_option Elab.async false
/-! # What HEALTH's work leaves as it is, and the opening sequence (O41, O44, O46) -/

namespace Sys2Proof.Machine

variable {s t u : State} {l : LaneId} {r : Route}

/-! ### All but HEALTH (R149, R153, R160) -/

/-- The state with everything blanked that HEALTH's report of a load, a retirement and the HEALTH record's write change:
HEALTH itself, the store but for the settings, the notices, and the lanes' states. -/
def State.withoutHealth (s : State) : State :=
  { s with
    health := State.reset.health
    store := { State.reset.store with config := s.store.config }
    link := { s.link with notices := State.reset.link.notices }
    lanes := s.lanes.map fun x => { x with state := .free } }

theorem State.notice_withoutHealth (n : Notice) (s : State) : (s.notice n).withoutHealth = s.withoutHealth := by
  unfold State.notice; split <;> rfl

theorem State.modStore_withoutHealth (f : Store → Store) (s : State) (h : (f s.store).config = s.store.config) :
    (s.modStore f).withoutHealth = s.withoutHealth := by
  unfold State.withoutHealth
  rw [State.modStore_store, h]
  rfl

theorem State.laneState_withoutHealth (l : LaneId) (st : LaneState) (s : State) :
    (s.modLane l fun x => { x with state := st }).withoutHealth = s.withoutHealth := by
  unfold State.withoutHealth
  have hmap : (upd s.lanes l fun x => { x with state := st }).map (fun x => { x with state := LaneState.free }) =
      s.lanes.map fun x => { x with state := .free } := by
    rw [map_upd_congr s.lanes l _ (fun x => x) _ rfl, upd_id _ _ _ rfl]
  rw [State.modLane_lanes, hmap]
  rfl

theorem State.due_withoutHealth (it : ItemId) (s : State) : (s.due it).withoutHealth = s.withoutHealth :=
  State.due_frame State.withoutHealth (fun f t h => t.modStore_withoutHealth f h) (fun _ _ => rfl) it s

theorem State.touchIf_withoutHealth (c : Bool) (it : ItemId) (s : State) :
    (s.touchIf c it).withoutHealth = s.withoutHealth := by
  rw [State.touchIf_eq]
  exact s.modStore_withoutHealth _ rfl

theorem State.healthDue_withoutHealth (old : HealthRecord) (s : State) :
    (s.healthDue old).withoutHealth = s.withoutHealth :=
  State.healthDue_frame State.withoutHealth (fun f t h => t.modStore_withoutHealth f h) (fun _ _ => rfl) old s

theorem State.recompute_withoutHealth (s : State) : s.recompute.withoutHealth = s.withoutHealth := by
  unfold State.recompute; simp only; split
  · rfl
  · rw [State.notice_withoutHealth]; rfl

theorem State.retire_withoutHealth (l : LaneId) (s : State) : (s.retire l).withoutHealth = s.withoutHealth := by
  unfold State.retire
  rw [State.recompute_withoutHealth, State.notice_withoutHealth, State.laneState_withoutHealth]

theorem State.condemn_withoutHealth (l : LaneId) (s : State) : (s.condemn l).withoutHealth = s.withoutHealth := by
  unfold State.condemn; split
  · exact s.retire_withoutHealth l
  · exact s.laneState_withoutHealth l _
  · rfl
  · rfl

theorem State.checkEndOfLife_withoutHealth (l : LaneId) (s : State) :
    (s.checkEndOfLife l).withoutHealth = s.withoutHealth := by
  unfold State.checkEndOfLife; split
  · exact s.condemn_withoutHealth l
  · rfl

/-- HEALTH's report of a load done changes HEALTH, the store, the notices and the lane's state alone (R149). -/
theorem State.healthLoad_withoutHealth (l : LaneId) (ld : Load) (rb : List Relay) (s : State) :
    (s.healthLoad l ld rb).withoutHealth = s.withoutHealth := by
  unfold State.healthLoad
  simp only
  rw [State.healthDue_withoutHealth, State.recompute_withoutHealth, apply_ite State.withoutHealth, State.due_withoutHealth,
    ite_self, apply_ite State.withoutHealth, State.checkEndOfLife_withoutHealth, State.condemn_withoutHealth, ite_self]
  exact (State.touchIf_withoutHealth _ _ _).trans rfl

/-! ### What states that differ in HEALTH's work have in common -/

theorem State.eq_of_withoutHealth {β : Type} (g : State → β) (h : t.withoutHealth = s.withoutHealth)
    (hg : ∀ u : State, g u.withoutHealth = g u := by exact fun _ => rfl) : g t = g s :=
  (hg t).symm.trans ((congrArg g h).trans (hg s))

theorem State.lane_of_withoutHealth (h : t.withoutHealth = s.withoutHealth) (l : LaneId) :
    ({ t.lanes[l] with state := .free } : Lane) = { s.lanes[l] with state := .free } := by
  have hl := congrArg (fun u : State => u.lanes[l]) h
  simpa only [State.withoutHealth, Fin.getElem_fin, Vector.getElem_map] using hl

theorem State.noBacklog_of_withoutHealth (h : t.withoutHealth = s.withoutHealth) (hs : s.noBacklog) : t.noBacklog :=
  (State.eq_of_withoutHealth State.noBacklog h).mpr hs

/-! ### The opening sequence (R66) -/

/-- The relays that the next load of an opening sequence opens: the pins, or what is closed once no pin is (R66). -/
def Lane.opens (x : Lane) : List Relay := if x.pinRelays = [] then x.closed else x.pinRelays

theorem Lane.openLoad_eq (x : Lane) (k : LoadKind) : x.openLoad k = ⟨k, [], x.opens⟩ := by
  unfold Lane.openLoad Lane.opens
  simp only [List.isEmpty_iff]

/-- The lane whose next relays open, by a load of the kind given (R48, R66). -/
def Lane.opensNext (k : LoadKind) (x : Lane) : Lane :=
  { x with closed := dropRelays x.opens x.closed, load := some ⟨k, [], x.opens⟩, quiet := none }

theorem State.beginLoad_opens (k : LoadKind) : s.beginLoad l (s.lanes[l].openLoad k) = s.modLane l (Lane.opensNext k) := by
  rw [Lane.openLoad_eq]
  unfold State.beginLoad
  exact State.modLane_congr (by simp only [addRelays_nil]; rfl)

/-- The lane of a route that enters OPENING with its first load (R65, R86). -/
def Lane.opensRoute (r : Route) (x : Lane) : Lane :=
  { Lane.opensNext .opening x with route := some { r with state := .opening } }

theorem State.openingStep_quiet (hq : s.isLive l = false) : s.openingStep l = s.modLane l (Lane.opensNext .opening) := by
  unfold State.openingStep State.loadWhenQuiet
  rw [hq, if_neg (by decide), State.beginLoad_opens]

/-- On a live lane the load waits for quiet, with the discharge timer (R49, R77). -/
theorem State.openingStep_live (hq : s.isLive l = true) (hb : s.unbounded l = false) : s.openingStep l = s.modLane l fun x =>
    { x with quiet := some ⟨.load ⟨.opening, [], x.opens⟩, some (Timer.begin s.dischargeTimeout s.time.now)⟩ } := by
  unfold State.openingStep State.loadWhenQuiet
  rw [hq, if_pos rfl, State.startQuiet_bounded hb, Lane.openLoad_eq]
  exact State.modLane_congr rfl

theorem State.enterOpening_of_quiet (hr : s.lanes[l].route = some r) (h : r.state ≠ .live) (hq : s.isLive l = false) :
    s.enterOpening l = s.modLane l (Lane.opensRoute r) := by
  unfold State.enterOpening
  rw [State.setRoute_of_route (by decide) hr, State.disarmRoute_of_not_live hr h, State.openingStep_quiet (by exact hq),
    State.modLane_modLane]
  rfl

theorem State.enterOpening_of_live (hr : s.lanes[l].route = some r) (h : r.state ≠ .live) (hq : s.isLive l = true)
    (hb : s.unbounded l = false) : s.enterOpening l = s.modLane l fun x =>
      { x with route := some { r with state := .opening },
               quiet := some ⟨.load ⟨.opening, [], x.opens⟩, some (Timer.begin s.dischargeTimeout s.time.now)⟩ } := by
  unfold State.enterOpening
  rw [State.setRoute_of_route (by decide) hr, State.disarmRoute_of_not_live hr h, State.openingStep_live (by exact hq),
    State.modLane_modLane]
  · rfl
  · rw [← hb]
    exact State.unbounded_congr rfl (by rw [State.modLane_get, hr]; rfl) fun _ => rfl

end Sys2Proof.Machine
end


section
set_option Elab.async false
/-! # What follows a chain load (O41) -/

namespace Sys2Proof.Machine

variable {s u : State} {i : SiteId} {l : LaneId} {r : Route} {ld : Load} {clean : Bool} {st : Step} {rest : List Step}
  {ph : Phase} {n : Nat}

/-! ### How the sequence goes on (R51, R59, R69, R70, R71) -/

theorem State.afterLoad_closing (hk : ld.kind = .closing) :
    s.afterLoad l r ld clean = s.loadGoesOn l r clean .operate s.operateTime := by
  unfold State.afterLoad
  rw [hk]

theorem State.afterLoad_switching (hk : ld.kind = .opening) (hst : r.state = .switching) :
    s.afterLoad l r ld clean = s.loadGoesOn l r clean .release s.releaseTime := by
  unfold State.afterLoad
  rw [hk, hst]

theorem State.afterLoad_release (h : ld.kind = .hot ∨ (ld.kind = .opening ∧ r.state ≠ .switching)) :
    s.afterLoad l r ld clean = s.startWait l .release s.releaseTime := by
  unfold State.afterLoad
  rcases h with hk | ⟨hk, hst⟩
  · rw [hk]
  · cases hs : r.state with
    | switching => exact absurd hs hst
    | closing | ready | live | quieting | opening | stuck => rw [hk]

/-- The load of a CONNECT or of a SCAN's switch goes on to a wait, unless its route is torn down or its coils are at fault. -/
theorem State.afterLoad_makes (h : ld.kind = .closing ∨ (ld.kind = .opening ∧ r.state = .switching)) :
    ∃ (k : WaitKind) (d : Duration), s.afterLoad l r ld clean = s.loadGoesOn l r clean k d := by
  rcases h with hk | ⟨hk, hst⟩
  · exact ⟨_, _, State.afterLoad_closing hk⟩
  · exact ⟨_, _, State.afterLoad_switching hk hst⟩

theorem State.loadGoesOn_clean (ht : s.tearing r.site = false) (k : WaitKind) (d : Duration) :
    s.loadGoesOn l r true k d = s.startWait l k d := by
  unfold State.loadGoesOn
  rw [ht]; rfl

theorem State.loadGoesOn_torn (ht : s.tearing r.site = true) (k : WaitKind) (d : Duration) :
    s.loadGoesOn l r clean k d = s.enterOpening l := by
  unfold State.loadGoesOn
  rw [if_pos ht]

theorem State.loadGoesOn_fault (ht : s.tearing r.site = false) (k : WaitKind) (d : Duration) :
    s.loadGoesOn l r false k d = (s.setRoute l .ready).takeFault r.site .coilFault := by
  unfold State.loadGoesOn
  rw [ht]; rfl

/-! ### A fault of a running CONNECT or SCAN (R12, R17, R136) -/

theorem State.modRes_congr {f g : SiteResults → SiteResults} (h : f s.results.sites[i] = g s.results.sites[i]) :
    s.modRes i f = s.modRes i g := by
  unfold State.modRes
  rw [upd_congr _ _ _ _ h]

theorem State.modRes_id {f : SiteResults → SiteResults} (h : f s.results.sites[i] = s.results.sites[i]) :
    s.modRes i f = s := by
  unfold State.modRes
  rw [upd_id _ _ _ h]

/-- Stopped at its closing a CONNECT leaves nothing behind; a switch gives its reserved place back (R17, R136). -/
theorem State.stopRunning_makes (hq : s.sites[i].queue = st :: rest) (hr : s.sites[i].running = some ⟨.active ph, n⟩)
    (hph : ph = .closing ∨ ph = .switch) :
    s.stopRunning i = s.modRes i fun x => { x with reserved := x.reserved && decide (ph ≠ .switch) } := by
  unfold State.stopRunning
  rw [State.active_eq hq hr]
  rcases hph with rfl | rfl
  · exact (State.modRes_id (by simp)).symm
  · exact State.modRes_congr (by simp)

/-- The running step carries the fault: its DONE is FAILED and lists the steps behind it (R12). -/
theorem State.carryFault_makes (f : Failure) (hq : s.sites[i].queue = st :: rest)
    (hr : s.sites[i].running = some ⟨.active ph, n⟩) (hph : ph = .closing ∨ ph = .switch) :
    s.carryFault i f = ((s.modSite i fun x =>
      { x with queue := [st], running := some ⟨.ended, n⟩, held := false, stopCause := none, state := .safing,
               teardown := some (.fault f) }).modRes i fun x =>
      { x with reserved := x.reserved && decide (ph ≠ .switch) }).push
      (.done (makeDone i st n .failed (some f) none (rest.map Step.tag))) := by
  unfold State.carryFault
  rw [State.stopRunning_makes hq hr hph]
  simp only [hq, hr, State.modSite_modSite]
  rw [State.finishStep_eq (st := st) (rest := []) (r := ⟨.active ph, n⟩) _ _ _ _ (by rw [State.modSite_get])
    (by rw [State.modSite_get]; exact hr), State.modSite_modSite]
  rfl

/-- The one route of a site, READY on a quiet lane, is handed over into OPENING (R86). -/
theorem State.handOverAll_opens (hl : s.routeLanes i = [l]) (hp : s.routelessPorts i = []) (hr : s.lanes[l].route = some r)
    (hst : r.state = .ready) (hq : s.isLive l = false) : s.handOverAll i = s.modLane l (Lane.opensRoute r) := by
  have hlive : r.state ≠ .live := by rw [hst]; decide
  refine State.handOverAll_one hl ?_ (State.modLane_sameOwners (by rw [hr]; rfl)) (fun _ => rfl) hp
  rw [State.disarmRoute_of_not_live hr hlive, State.handOver, hr]
  simp only [hst]
  exact State.enterOpening_of_quiet hr hlive hq

/-- A route that a fault opens keeps its site's teardown going (R86, R88). -/
theorem State.beginTeardown_opens (hl : s.routeLanes i = [l]) (hp : s.routelessPorts i = []) (hr : s.lanes[l].route = some r)
    (hst : r.state = .ready) (hq : s.isLive l = false) : s.beginTeardown i = s.modLane l (Lane.opensRoute r) := by
  have hsite : r.site = i := State.site_of_routeLanes hl hr
  unfold State.beginTeardown
  rw [State.handOverAll_opens hl hp hr hst hq]
  refine State.checkTeardown_going (l := l) (r := { r with state := .opening }) ?_ (by rw [State.modLane_get]; rfl) nofun
  exact State.mem_routeLanes.mpr ⟨{ r with state := .opening }, by rw [State.modLane_get]; rfl, hsite⟩

theorem State.push_modLane (k : Task) (f : Lane → Lane) : (s.push k).modLane l f = (s.modLane l f).push k := rfl

/-- A DONE with room, at a site that does not go on. -/
theorem drain_done_stays {d : DoneFrame} (k : Nat) (hd : d.site = i) (ha : s.agenda = []) (hfree : s.link.completion.length < 16)
    (hw : s.link.doneWaiting = []) (hc : s.sites[i].carried = []) (hst : s.sites[i].state = .safing) :
    drain (k + 1) (s.push (.done d)) = (s.modLink fun k => { k with completion := k.completion ++ [d] }).modSite i fun x =>
      { x with queue := x.queue.tail, running := none } := by
  subst hd
  rw [drain_done k ha hfree hw hc, State.siteMovesOn_stays, drain_nil _ _ (by exact ha)]
  all_goals rw [State.modSite_get, State.modLink_sites, hst]; decide

/-- A coil fault at the one route of a site, on a quiet lane (R59, R70, R12, R85, R86). -/
theorem State.coilFault_finish (hb : s.noBacklog) (hroute : s.lanes[l].route = some r) (hnl : r.state ≠ .live)
    (hq : s.sites[r.site].queue = st :: rest) (hr : s.sites[r.site].running = some ⟨.active ph, n⟩)
    (hph : ph = .closing ∨ ph = .switch) (hst : s.sites[r.site].state = .running) (hc : s.sites[r.site].carried = [])
    (hfree : s.link.completion.length < 16) (hl : s.routeLanes r.site = [l]) (hp : s.routelessPorts r.site = [])
    (hlive : s.isLive l = false) : ((s.setRoute l .ready).takeFault r.site .coilFault).finish =
      .next (((((s.modLink fun k => { k with completion := k.completion ++
          [makeDone r.site st n .failed (some .coilFault) none (rest.map Step.tag)] }).modSite r.site fun x =>
        { x with queue := [], running := none, held := false, stopCause := none, state := .safing,
                 teardown := some (.fault .coilFault) }).modRes r.site fun x =>
        { x with reserved := x.reserved && decide (ph ≠ .switch) }).modLane l (Lane.opensRoute r)).transmit) := by
  obtain ⟨ha, hslots, hwait, hclosed⟩ := hb
  generalize hD : makeDone r.site st n .failed (some .coilFault) none (rest.map Step.tag) = D
  have hsite : D.site = r.site := by rw [← hD]; rfl
  generalize hv : s.modLane l (fun x => { x with route := some { r with state := .ready } }) = v
  have hready : s.setRoute l .ready = v := by
    rw [State.setRoute_of_route (by decide) hroute, State.disarmRoute_of_not_live hroute hnl, hv]
  have howners : s.sameOwners v := hv ▸ State.modLane_sameOwners (by rw [hroute]; rfl)
  have hvq : v.sites[r.site].queue = st :: rest := hv ▸ hq
  have hvr : v.sites[r.site].running = some ⟨.active ph, n⟩ := hv ▸ hr
  have hvst : v.sites[r.site].state = .running := hv ▸ hst
  have hvl : v.routeLanes r.site = [l] := howners.routeLanes.trans hl
  have hvp : v.routelessPorts r.site = [] := (howners.routelessPorts fun p => by rw [← hv]; rfl).trans hp
  have hvroute : v.lanes[l].route = some { r with state := .ready } := by rw [← hv, State.modLane_get]
  have hvlive : v.isLive l = false := hv ▸ hlive
  rw [hready, State.takeFault_open .coilFault (.inr (.inl hvst)), State.carryFault_makes .coilFault hvq hvr hph, hD,
    State.beginTeardown_opens (r := { r with state := .ready }) (by exact hvl) (by exact hvp) (by exact hvroute) rfl
      (by exact hvlive)]
  subst hv
  rw [State.push_modLane]
  refine State.finish_of_drain_noBacklog ((drain_done_stays 4095 hsite ?_ ?_ ?_ ?_ ?_).trans ?_)
    ⟨ha, hslots, hwait, hclosed⟩
  · exact ha
  · exact hfree
  · exact hwait
  · exact (congrArg Site.carried (State.modSite_get _ _ _)).trans hc
  · exact congrArg Site.state (State.modSite_get _ _ _)
  · simp only [State.modSite, State.modLink, State.modLane, State.modRes, upd_upd]
    rfl

/-! ### The event -/

/-- LOAD_DONE hands the report to HEALTH, and the sequence goes on from there (R48, R50). -/
theorem exec_loadDone {rb : List Relay} (hb : s.awake) (hld : s.lanes[l].load = some ld) (hr : s.lanes[l].route = some r)
    (hu : (s.modLane l fun x => { x with load := none }).healthLoad l ld rb = u) :
    exec (.loadDone l rb) s = (u.afterLoad l r ld rb.isEmpty).finish ∧
      u.withoutHealth = (s.modLane l fun x => { x with load := none }).withoutHealth ∧
      ({ u.lanes[l] with state := .free } : Lane) = { s.lanes[l] with load := none, state := .free } := by
  have hrest : u.withoutHealth = (s.modLane l fun x => { x with load := none }).withoutHealth :=
    hu ▸ State.healthLoad_withoutHealth _ _ _ _
  have hlane : ({ u.lanes[l] with state := .free } : Lane) = { s.lanes[l] with load := none, state := .free } := by
    rw [State.lane_of_withoutHealth hrest l, State.modLane_get]
  have hroute : u.lanes[l].route = some r := (congrArg Lane.route hlane).trans hr
  refine ⟨?_, hrest, hlane⟩
  refine (if_pos hb.1 : _ = (s.loadEnds l rb).finish).trans (congrArg State.finish ?_)
  unfold State.loadEnds
  simp only [hld, hu, hroute]

/-- Settles O41: the report leaves all but HEALTH as it was, and the sequence goes on by the kind of the load. -/
theorem loadDoneGoesOn : Obligations.LoadDoneGoesOn := by
  intro s l ld r rb hb hld hroute hnl done waits makes opens opening torn
  obtain ⟨hexec, hrest, hlane⟩ := exec_loadDone (u := done) hb hld hroute rfl
  clear_value done
  have hdb : done.noBacklog := State.noBacklog_of_withoutHealth hrest hb.2
  have hdroute : done.lanes[l].route = some r := (congrArg Lane.route hlane).trans hroute
  have hkeep {β : Type} (g : State → β) (hg : ∀ u : State, g u.withoutHealth = g u := by exact fun _ => rfl)
      (hload : g (s.modLane l fun x => { x with load := none }) = g s := by rfl) : g done = g s :=
    (State.eq_of_withoutHealth g hrest hg).trans hload
  have htear : done.tearing r.site = s.tearing r.site := hkeep (State.tearing r.site)
  have hlive : done.isLive l = s.isLive l := hkeep (State.isLive l)
  have hwait (k : WaitKind) (g : State → Duration) (hg : g done = g s) (hd : Duration.count (g s) ≠ 0) :
      (done.startWait l k (g done)).finish = .next (waits k (g s)) := by
    have hnow : done.time.now = s.time.now := hkeep (fun u => u.time.now)
    rw [hg, State.startWait_timed hd, hnow]
    exact State.finish_noBacklog _ (hdb.modLane _)
  have hop : done.operateTime = s.operateTime := hkeep State.operateTime
  have hrel : done.releaseTime = s.releaseTime := hkeep State.releaseTime
  have hopens : done.lanes[l].opens = opens := (congrArg Lane.opens hlane :)
  have htorn : Lane.opensRoute r done.lanes[l] = torn done.lanes[l] := by
    unfold Lane.opensRoute Lane.opensNext
    rw [hopens]
  refine ⟨fun hk ht hrb hd => ?_, fun hk hst ht hrb hd => ?_, fun hk hd => ?_, fun hm ht hq => ?_, fun hm ht hq hbound => ?_,
    fun st rest ph n hm hrb hq hst hqueue hrun hph hc hfree hl hp => ?_⟩
  · rw [hexec, hrb, State.afterLoad_closing hk]
    exact (congrArg State.finish (State.loadGoesOn_clean (htear.trans ht) _ _)).trans (hwait _ State.operateTime hop hd)
  · rw [hexec, hrb, State.afterLoad_switching hk hst]
    exact (congrArg State.finish (State.loadGoesOn_clean (htear.trans ht) _ _)).trans (hwait _ State.releaseTime hrel hd)
  · rw [hexec, State.afterLoad_release hk]
    exact hwait _ State.releaseTime hrel hd
  · obtain ⟨k, d, hgo⟩ := State.afterLoad_makes (s := done) (clean := rb.isEmpty) hm
    rw [hexec, hgo, State.loadGoesOn_torn (htear.trans ht), State.enterOpening_of_quiet hdroute hnl (hlive.trans hq),
      State.modLane_congr htorn]
    exact State.finish_noBacklog _ (hdb.modLane _)
  · obtain ⟨k, d, hgo⟩ := State.afterLoad_makes (s := done) (clean := rb.isEmpty) hm
    have hdbound : done.unbounded l = false := by
      rw [← hbound]
      refine State.unbounded_congr ?_ ?_ fun j => ?_
      · exact hkeep State.resetReq
      · rw [hdroute, hroute]
      · exact hkeep (fun u => u.sites[j].clear)
    have hnow : done.time.now = s.time.now := hkeep (fun u => u.time.now)
    have htime : done.dischargeTimeout = s.dischargeTimeout := hkeep State.dischargeTimeout
    rw [hexec, hgo, State.loadGoesOn_torn (htear.trans ht), State.enterOpening_of_live hdroute hnl (hlive.trans hq) hdbound,
      hnow, htime, State.modLane_congr (g := fun x => { x with
        route := some { r with state := .opening },
        quiet := some ⟨.load opening, some (Timer.begin s.dischargeTimeout s.time.now)⟩ }) (by rw [hopens])]
    exact State.finish_noBacklog _ (hdb.modLane _)
  · obtain ⟨k, d, hgo⟩ := State.afterLoad_makes (l := l) (s := done) (clean := rb.isEmpty) hm
    intro figures
    have ht : s.tearing r.site = false := by simp only [State.tearing, hst]; rfl
    have howners : s.sameOwners done := fun j =>
      (congrArg (fun x : Lane => x.route.map Route.owner) (State.lane_of_withoutHealth hrest j)).trans
        (State.modLane_sameOwners rfl j)
    have hsite : done.sites[r.site] = s.sites[r.site] := hkeep fun u => u.sites[r.site]
    have hfault := State.coilFault_finish (s := done) (n := n) (ph := ph) hdb hdroute hnl (by rw [hsite]; exact hqueue)
      (by rw [hsite]; exact hrun) hph (by rw [hsite]; exact hst) (by rw [hsite]; exact hc)
      (by rw [hkeep fun u => u.link.completion]; exact hfree) (howners.routeLanes.trans hl)
      ((howners.routelessPorts (fun p => hkeep fun u => u.ports[p].claim)).trans hp) (hlive.trans hq)
    have hfigures : makeDone r.site st n .failed (some .coilFault) none (rest.map Step.tag) =
        ⟨r.site, st.tag, .failed, some .coilFault, figures.1, figures.2, none, rest.map Step.tag⟩ := by
      rcases st with ⟨g, _ | _ | _ | _ | _ | _ | _ | _ | _⟩ <;> rfl
    rw [hexec, hgo, List.isEmpty_eq_false_iff.mpr hrb, State.loadGoesOn_fault (htear.trans ht), hfault, hfigures]
    exact congrArg (fun v : State => Host.Outcome.next v.transmit) (State.modLane_congr htorn)

end Sys2Proof.Machine
end


section
set_option Elab.async false
/-! # RELEASE, and a SCAN's switch to its point (O46, O44) -/

namespace Sys2Proof.Machine

variable {s u : State} {i : SiteId} {l : LaneId} {r : Route} {tag : Byte} {rest : List Step} {ph : Phase} {n : Nat}
  {p : Pin} {d : Duration}

/-! ### Loads and their quiet checks (R48, R49) -/

theorem State.loadWhenQuiet_quiet (hq : s.isLive l = false) (ld : Load) : s.loadWhenQuiet l ld = s.modLane l fun x =>
    { x with closed := addRelays ld.closes (dropRelays ld.opens x.closed), load := some ld, quiet := none } := by
  unfold State.loadWhenQuiet
  rw [hq]; rfl

theorem State.loadWhenQuiet_live (hq : s.isLive l = true) (hb : s.unbounded l = false) (ld : Load) :
    s.loadWhenQuiet l ld = s.modLane l fun x =>
      { x with quiet := some ⟨.load ld, some (Timer.begin s.dischargeTimeout s.time.now)⟩ } := by
  unfold State.loadWhenQuiet
  rw [if_pos hq, State.startQuiet_bounded hb]

/-- A change of a route's state leaves the bound of its lane's quiet waits. -/
theorem State.unbounded_modLane {f : Lane → Lane}
    (h : (f s.lanes[l]).route.map Route.site = (s.lanes[l].route).map Route.site) :
    (s.modLane l f).unbounded l = s.unbounded l :=
  State.unbounded_congr rfl (by rw [State.modLane_get]; exact h) fun _ => rfl

theorem State.unbounded_setPhase (ph : Phase) : (s.setPhase i ph).unbounded l = s.unbounded l := by
  refine State.unbounded_congr rfl rfl fun j => ?_
  unfold State.setPhase
  rw [State.modSite_sites, upd_get]; split <;> rfl

/-! ### RELEASE (R65, R66) -/

theorem State.startRelease_of_not_live {h : Handle} (hf : s.findRoute i h = some (l, r)) (hst : r.state ≠ .live) :
    s.startRelease i h = (s.setPhase i .releasing).enterOpening l := by
  unfold State.startRelease
  simp only [hf, if_neg hst]

theorem State.startRelease_of_live {h : Handle} (hf : s.findRoute i h = some (l, r)) (hst : r.state = .live) :
    s.startRelease i h = if s.isLive l then ((s.setPhase i .releasing).disarm l).startQuiet l .disarm
      else ((s.setPhase i .releasing).disarm l).enterOpening l := by
  have hpins : ((s.setPhase i .releasing).disarm l).isLive l = s.isLive l := by
    rw [State.disarm_of_live (s := s.setPhase i .releasing) (State.findRoute_route hf) hst]; rfl
  unfold State.startRelease
  simp only [hf, if_pos hst, hpins]

/-- A disarmed route on a quiet lane enters OPENING with its first load (R65, R80). -/
theorem State.disarm_enterOpening (hr : s.lanes[l].route = some r) (hst : r.state = .live) (hq : s.isLive l = false) :
    (s.disarm l).enterOpening l =
      (s.modPort r.port fun x => { x with arm := false }).modLane l (Lane.opensRoute r) := by
  rw [State.disarm_of_live hr hst,
    State.enterOpening_of_quiet (r := { r with state := .quieting }) (by rw [State.modLane_get]) nofun (by exact hq),
    State.modLane_modLane]
  rfl

/-- A disarmed route on a live lane waits for quiet (R37, R77). -/
theorem State.disarm_startQuiet (hr : s.lanes[l].route = some r) (hst : r.state = .live) (hb : s.unbounded l = false) :
    (s.disarm l).startQuiet l .disarm = (s.modPort r.port fun x => { x with arm := false }).modLane l fun x =>
      { x with route := some { r with state := .quieting },
               quiet := some ⟨.disarm, some (Timer.begin s.dischargeTimeout s.time.now)⟩ } := by
  have hbound : (s.disarm l).unbounded l = false := by
    rw [State.disarm_of_live hr hst, State.unbounded_modLane (by rw [State.modPort_lanes, hr]; rfl)]
    exact hb
  rw [State.startQuiet_bounded hbound, State.disarm_of_live hr hst, State.modLane_modLane]
  rfl

/-! ### The switch to a point's pin (R68, R69) -/

/-- A pin is busy for a switch where a route on another lane holds it (R68). -/
theorem State.pinsBusy_some_iff : s.pinsBusy (some l) [p] = true ↔
    ∃ (k : LaneId) (v : Route), s.lanes[k].route = some v ∧ k ≠ l ∧ pinRelay p ∈ s.lanes[k].closed := by
  unfold State.pinsBusy
  simp only [List.any_eq_true, mem_allLanes, true_and, Bool.and_eq_true, Option.isSome_iff_exists, Lane.mem_pinSet,
    ne_eq, Option.some.injEq, decide_eq_true_eq, List.contains_iff_mem, List.mem_singleton]
  exact exists_congr fun k => ⟨fun ⟨⟨hk, v, hv⟩, q, hq, e⟩ => ⟨v, hv, fun e' => hk e'.symm, e ▸ hq⟩,
    fun ⟨v, hv, hk, hq⟩ => ⟨⟨fun e => hk e.symm, v, hv⟩, p, hq, rfl⟩⟩

/-- The closing part of a switch: the settle wait at a pin that is closed already, else the pin's closing load (R69). -/
theorem State.switchClose_eq : s.switchClose l p d =
    if pinRelay p ∈ s.lanes[l].closed then s.startWait l .settle d
    else s.loadWhenQuiet l ⟨.closing, [pinRelay p], []⟩ := by
  unfold State.switchClose
  simp only [List.contains_iff_mem, Lane.mem_pinSet]

theorem Lane.switchOpens_eq (x : Lane) (p : Pin) :
    x.switchOpens p = x.closed.filter fun q => decide (q.val < 256 ∧ q ≠ pinRelay p) := by
  unfold Lane.switchOpens Lane.pinRelays
  rw [List.filter_filter]
  refine List.filter_congr fun q _ => ?_
  rw [Bool.decide_and, Bool.and_comm]

/-- A switch whose pin is free: the other pins open first, else the pin closes (R69). -/
theorem State.scanSwitch_free {h : Handle} (hl : s.routeLane i h = some l) (hr : s.lanes[l].route = some r)
    (hst : r.state ≠ .live) (hb : s.pinsBusy (some l) [p] = false) (hu : (s.modLane l fun x =>
      { x with route := some { r with state := .switching } }) = u) : s.scanSwitch i h p d =
      if s.lanes[l].switchOpens p = [] then u.switchClose l p d
      else u.loadWhenQuiet l ⟨.opening, [], s.lanes[l].switchOpens p⟩ := by
  have hset : s.setRoute l .switching = u := by
    rw [State.setRoute_of_route (by decide) hr, State.disarmRoute_of_not_live hr hst, hu]
  unfold State.scanSwitch
  simp only [hl, hb, Bool.false_eq_true, if_false, hset, List.isEmpty_iff]

/-- A busy pin fails the SCAN, which gives its reserved place back (R68, R136). -/
theorem State.scanSwitch_busy {h : Handle} (hl : s.routeLane i h = some l) (hb : s.pinsBusy (some l) [p] = true) :
    s.scanSwitch i h p d = (s.giveBack i).failLogic i .pinBusy := by
  unfold State.scanSwitch
  simp only [hl, hb, if_true]

/-- A completed switch starts its point's acquisition (R69, R122). -/
theorem State.switchComplete_eq {m : MeterSpec} {pts : List ScanPoint} {pt : ScanPoint}
    (hq : s.sites[i].queue = ⟨tag, .scan m d pts⟩ :: rest) (hr : s.sites[i].running = some ⟨.active .switch, n⟩)
    (hpt : pts[n]? = some pt) : s.switchComplete i = s.startAcquisition i tag n m (pointLimits m pt) := by
  unfold State.switchComplete
  simp only [State.active_eq hq hr, hpt]

theorem pointLimits_eq (m : MeterSpec) (pt : ScanPoint) : pointLimits m pt = if pt.own = none then m.limits else pt.own := by
  unfold pointLimits
  cases pt.own <;> simp

/-- A SCAN with room goes on to the switch of its point (R122, R135). -/
theorem State.askRoom_scan {m : MeterSpec} {pts : List ScanPoint} {pt : ScanPoint}
    (hq : s.sites[i].queue = ⟨tag, .scan m d pts⟩ :: rest) (hr : s.sites[i].running = some ⟨.active ph, n⟩)
    (hpt : pts[n]? = some pt) (hpos : s.results.sites[i].pos ≠ .closedWaiting) (hc : s.closing i = false) :
    s.askRoom i = ((s.modRes i fun x => { x with reserved := true }).modSite i fun x =>
      { x with running := some ⟨.active .switch, n⟩ }).scanSwitch i m.handle pt.pin d := by
  rw [State.askRoom_room hpos hc, State.setPhase_eq hr,
    State.giveRoom_scan (t := tag) (m := m) (d := d) (pts := pts) (pt := pt) (rest := rest) (ph := .blockWait) (n := n)
      (by rw [State.modSite_get]; exact hq) (by rw [State.modSite_get]) hpt, State.modRes_setPhase,
    State.setPhase_modSite (n := n) (by rfl)]
  rfl

end Sys2Proof.Machine
end


section
set_option Elab.async false
/-! # SCAN boundaries, the end of a pass and the reading (O46) -/

namespace Sys2Proof.Machine

variable {s : State} {i : SiteId} {l : LaneId} {r : Route} {tag : Byte} {rest : List Step} {ph : Phase} {n : Nat}
  {p : Pin} {d : Duration} {m : MeterSpec} {pts : List ScanPoint} {v : Verdict} {a : Acquisition}

/-! ### The verdict (R121, R123, R124) -/

/-- NONE and PASS are in no stop set (R123). -/
theorem stopSetHas_iff {t : StopSet} {v : Verdict} : StopSetHas t v = true ↔
    (v = .low ∧ t.low = true) ∨ (v = .high ∧ t.high = true) ∨ (v = .marginal ∧ t.marginal = true) ∨
      (v = .overrange ∧ t.overrange = true) := by
  cases v <;> simp [StopSetHas]

theorem State.learnVerdict_measure (hq : s.sites[i].queue = ⟨tag, .measure m⟩ :: rest)
    (hr : s.sites[i].running = some ⟨.active .acquire, n⟩) (v : Verdict) :
    s.learnVerdict i v = if StopSetHas m.stop v then s.failLogic i .verdictStop else s.endOk i := by
  unfold State.learnVerdict
  simp only [State.active_eq hq hr]

theorem State.learnVerdict_scan (hq : s.sites[i].queue = ⟨tag, .scan m d pts⟩ :: rest)
    (hr : s.sites[i].running = some ⟨.active .acquire, n⟩) (v : Verdict) :
    s.learnVerdict i v = if StopSetHas m.stop v then s.failLogic i .verdictStop
      else if n + 1 = pts.length then s.endOk i else s.scanBoundary i n := by
  unfold State.learnVerdict
  simp only [State.active_eq hq hr]

/-- At a boundary a held site's SCAN is SUSPENDED (R124). -/
theorem State.scanBoundary_held (hh : s.sites[i].held = true) : s.scanBoundary i n = s.modSite i fun x =>
    { x with state := .held, running := some ⟨.suspended, n + 1⟩ } := by
  unfold State.scanBoundary State.setSite
  rw [if_pos hh, State.modSite_modSite]

theorem State.scanBoundary_waits (hh : s.sites[i].held = false)
    (h : s.results.sites[i].pos = .closedWaiting ∨ s.closing i = true) : s.scanBoundary i n = s.modSite i fun x =>
      { x with running := some ⟨.active .blockWait, n + 1⟩ } := by
  unfold State.scanBoundary
  rw [hh, if_neg (by decide), State.askRoom_waits (by exact h), State.setPhase_modSite (n := n + 1) (by rfl)]

theorem State.scanBoundary_room {pt : ScanPoint} (hq : s.sites[i].queue = ⟨tag, .scan m d pts⟩ :: rest)
    (hpt : pts[n + 1]? = some pt) (hh : s.sites[i].held = false) (hpos : s.results.sites[i].pos ≠ .closedWaiting)
    (hc : s.closing i = false) : s.scanBoundary i n = ((s.modRes i fun x => { x with reserved := true }).modSite i fun x =>
      { x with running := some ⟨.active .switch, n + 1⟩ }).scanSwitch i m.handle pt.pin d := by
  unfold State.scanBoundary
  rw [hh, if_neg (by decide), State.askRoom_scan (tag := tag) (m := m) (d := d) (pts := pts) (pt := pt) (rest := rest)
    (ph := .blockWait) (n := n + 1) (by rw [State.modSite_get]; exact hq) (by rw [State.modSite_get]) hpt (by exact hpos)
    (by exact hc), State.modSite_modRes, State.modSite_modSite]

/-! ### The end of a pass (R99, R107 to R110) -/

theorem clipSample_eq {c : Int} (hc : 0 ≤ c) (x : Int) : clipSample c x = max (-c) (min c x) := by
  unfold clipSample
  split_ifs <;> omega

theorem isClipped_toNat (c x : Int) : (isClipped c x).toNat = if x < -c ∨ c < x then 1 else 0 := by
  unfold isClipped
  split_ifs with h
  · rw [decide_eq_true (or_comm.mp h)]; rfl
  · rw [decide_eq_false (mt or_comm.mp h)]; rfl

theorem nextUp_eq (q : Range) : nextUp q = if q ≠ 3 ∧ q ≠ 5 then some (q + 1) else none := by
  revert q; decide

/-- Range 3 follows range 2 alone (R107). -/
theorem next_eq_three_iff (q : Range) : q + 1 = 3 ↔ q = 2 := by
  revert q; decide

/-- The pass was clipped, and the meter may try the next range up: it has one, and the high one only with HV (R107). -/
def Acquisition.mayRetry (a : Acquisition) : Prop :=
  0 < a.clipped ∧ a.autorange = true ∧ a.range ≠ 3 ∧ a.range ≠ 5 ∧ (a.range = 2 → a.hv = true)

theorem retryRange_some (h : a.mayRetry) : retryRange a = some (a.range + 1) := by
  obtain ⟨hk, hauto, h3, h5, hhv⟩ := h
  have hgo : ¬(a.range + 1 = 3 ∧ (!a.hv) = true) := fun ⟨hup, hno⟩ => by
    rw [hhv ((next_eq_three_iff _).mp hup)] at hno; cases hno
  unfold retryRange
  rw [if_pos ⟨hk, hauto⟩, nextUp_eq, if_pos ⟨h3, h5⟩]
  exact if_neg hgo

theorem retryRange_none (h : ¬a.mayRetry) : retryRange a = none := by
  unfold retryRange
  split_ifs with hk
  · rw [nextUp_eq]
    split_ifs with hup
    · have hno : ¬(a.range = 2 → a.hv = true) := fun hhv => h ⟨hk.1, hk.2, hup.1, hup.2, hhv⟩
      rw [Classical.not_imp] at hno
      exact if_pos ⟨(next_eq_three_iff _).mpr hno.1, by simpa using hno.2⟩
    · rfl
  · rfl

/-- A pass that is not retried is capped where it was clipped under autorange (R109). -/
theorem cappedFlag_final (h : ¬a.mayRetry) : cappedFlag a = (decide (0 < a.clipped) && a.autorange) := by
  unfold cappedFlag
  rw [retryRange_none h]
  exact Bool.and_true _

theorem State.sampleExpired_eq (hacq : s.meter.acq = some a) (hsw : a.switching = false) (hx : a.timer.expiry ≤ s.time.now)
    (v : BitVec 18) : s.sampleExpired v = s.afterSample (takeSample a v.toInt s.time.now s.time.uncertain) := by
  unfold State.sampleExpired
  simp only [hacq, hsw, State.expired_of_le hx, Option.isNone_some, Bool.or_self, Bool.false_eq_true, if_false]

/-- After its last sample a pass is retried on the next range where the meter may (R107, R108). -/
theorem State.afterSample_retry (hlast : a.taken = 2 ^ a.aperture.val) (h : a.mayRetry) :
    s.afterSample a = s.modMeter fun t => { t with acq := some (beginRetry (a.range + 1) s.time.now a) } := by
  unfold State.afterSample
  rw [if_neg (Nat.not_lt.mpr hlast.ge), retryRange_some h]

theorem State.afterSample_final (hlast : a.taken = 2 ^ a.aperture.val) (h : ¬a.mayRetry) :
    s.afterSample a = s.finishAcquisition a := by
  unfold State.afterSample
  rw [if_neg (Nat.not_lt.mpr hlast.ge), retryRange_none h]

/-- The reading of a final pass opens its site's block, and the site learns the verdict (R110, R137). -/
theorem State.finishAcquisition_opens (hres : s.results.sites[a.site].reserved = true)
    (hpos : s.results.sites[a.site].pos = .empty) (hfill : 1 < s.blockFill) : s.finishAcquisition a =
      ((s.modMeter fun t => { t with acq := none }).modRes a.site fun x =>
        { x with pos := .opened s.blockFill [.meter (readingOf a)], reserved := false }).learnVerdict a.site
        (readingOf a).verdict := by
  unfold State.finishAcquisition
  simp only
  rw [State.place_opens (by exact hres) (by exact hpos) (by exact hfill)]
  rfl

/-- Settles O46: the starts by route state, the switch by what it must open and close, then the verdict and the reading. -/
theorem scanAndReadings : Obligations.ScanAndReadings := by
  refine ⟨fun s i h => ⟨fun l r hf hb => ?_, fun hf hc => ?_,
      fun p hf hc hw => ?_, fun l r g m d pt pts rest hf hport hq hr => ⟨fun hroom => ?_, fun hpos hc => ?_⟩⟩,
    fun s i h p d l r hl hroute hst hb => ?_,
    fun s l t r g m d pts pt rest n hb hw hx hroute hst hq hr hpt => ?_,
    fun s i g m rest n v hr => ?_,
    fun s a v hb hacq hsw hx hlast hclip => ?_⟩
  · intro pins begun opens opening opened off timer
    have hfound := State.findRoute_route hf
    have hbound : (s.setPhase i .releasing).unbounded l = false := (State.unbounded_setPhase _).trans hb
    refine ⟨fun hst hq => ?_, fun hst hq => ?_, fun hst hq => ?_, fun hst hq => ?_⟩
    · rw [State.startRelease_of_not_live hf (by rw [hst]; decide),
        State.enterOpening_of_quiet (by exact hfound) (by rw [hst]; decide) (by exact hq)]
      exact State.modLane_congr rfl
    · rw [State.startRelease_of_not_live hf (by rw [hst]; decide),
        State.enterOpening_of_live (by exact hfound) (by rw [hst]; decide) (by exact hq) hbound]
      exact State.modLane_congr rfl
    · rw [State.startRelease_of_live hf hst, hq, if_neg (by decide),
        State.disarm_enterOpening (by exact hfound) hst (by exact hq)]
      exact State.modLane_congr rfl
    · rw [State.startRelease_of_live hf hst, if_pos hq, State.disarm_startQuiet (by exact hfound) hst hbound]
      rfl
  · unfold State.startRelease
    simp only [hf, hc]
  · unfold State.startRelease State.freeClaim
    simp only [hf, hc, hw]
  · rw [State.startMeter_of_route hf, if_neg (not_not.mpr hport), State.askRoom_waits hroom, State.setPhase_eq hr]
  · rw [State.startMeter_of_route hf, if_neg (not_not.mpr hport)]
    exact State.askRoom_scan hq hr rfl hpos hc
  · intro held opens closing opening go timer
    have hnl : r.state ≠ .live := by rw [hst]; decide
    have hswitch : ¬held → s.scanSwitch i h p d = if opens = [] then (go id).switchClose l p d
        else (go id).loadWhenQuiet l opening := fun hno => by
      rw [State.scanSwitch_free (u := go id) hl hroute hnl (Bool.eq_false_iff.mpr (mt State.pinsBusy_some_iff.mp hno)) rfl,
        Lane.switchOpens_eq]
    have hbound : (go id).unbounded l = false := (State.unbounded_modLane (by rw [hroute]; rfl)).trans hb
    have hclosed : (go id).lanes[l].closed = s.lanes[l].closed := by rw [State.modLane_get]; rfl
    refine ⟨fun hbusy => State.scanSwitch_busy hl (State.pinsBusy_some_iff.mpr hbusy), fun hno ho hq => ?_,
      fun hno ho hq => ?_, fun hno ho hp hq => ?_, fun hno ho hp hq => ?_, fun hno ho hp hd => ?_⟩
    · rw [hswitch hno, if_neg ho, State.loadWhenQuiet_quiet (by exact hq), State.modLane_modLane]
      rfl
    · rw [hswitch hno, if_neg ho, State.loadWhenQuiet_live (by exact hq) hbound, State.modLane_modLane]
      rfl
    · rw [hswitch hno, if_pos ho, State.switchClose_eq, hclosed, if_neg hp, State.loadWhenQuiet_quiet (by exact hq),
        State.modLane_modLane]
      exact State.modLane_congr (by simp only [dropRelays_nil]; rfl)
    · rw [hswitch hno, if_pos ho, State.switchClose_eq, hclosed, if_neg hp, State.loadWhenQuiet_live (by exact hq) hbound,
        State.modLane_modLane]
      rfl
    · rw [hswitch hno, if_pos ho, State.switchClose_eq, hclosed, if_pos hp, State.startWait_timed hd, State.modLane_modLane]
      rfl
  · intro a
    have hexec : exec (.settleWaitExpiry l) s = (s.settleExpired l).finish := if_pos hb.1
    rw [hexec, State.settleExpired_scan hroute hw hx (by rw [hst]; decide) (State.active_eq hq hr),
      State.switchComplete_eq (s := s.modLane l _) (by exact hq) (by exact hr) hpt,
      State.startAcquisition_eq (s := s.modLane l _) n (by exact hr), pointLimits_eq]
    exact State.finish_noBacklog _ hb.2
  · intro stops
    refine ⟨fun hq => ?_, fun d pts hq => ?_⟩
    · have hlearn := State.learnVerdict_measure hq hr v
      exact ⟨fun hs => hlearn.trans (if_pos (stopSetHas_iff.mpr hs)),
        fun hs => hlearn.trans (if_neg (mt stopSetHas_iff.mp hs))⟩
    · have hlearn := State.learnVerdict_scan hq hr v
      have hnext (hs : ¬stops) (hn : n + 1 ≠ pts.length) : s.learnVerdict i v = s.scanBoundary i n :=
        hlearn.trans ((if_neg (mt stopSetHas_iff.mp hs)).trans (if_neg hn))
      refine ⟨fun hs => ?_, fun hs hn => ?_, fun hs hn hh => ?_, fun hs hn hh hroom => ?_, fun pt hs hpt hh hpos hc => ?_⟩
      · exact hlearn.trans (if_pos (stopSetHas_iff.mpr hs))
      · exact hlearn.trans ((if_neg (mt stopSetHas_iff.mp hs)).trans (if_pos hn))
      · exact (hnext hs hn).trans (State.scanBoundary_held hh)
      · exact (hnext hs hn).trans (State.scanBoundary_waits hh hroom)
      · have hn : n + 1 ≠ pts.length := (List.getElem?_eq_some_iff.mp hpt).1.ne
        exact (hnext hs hn).trans (State.scanBoundary_room hq hpt hh hpos hc)
  · intro b retries reading again
    have hexec : exec (.sampleTimerExpiry v) s = (s.sampleExpired v).finish := if_pos hb.1
    have htake : takeSample a v.toInt s.time.now s.time.uncertain = b := by
      unfold takeSample
      rw [clipSample_eq hclip, isClipped_toNat]
      rfl
    have hafter : exec (.sampleTimerExpiry v) s = (s.afterSample b).finish := by
      rw [hexec, State.sampleExpired_eq hacq hsw hx, htake]
    refine ⟨fun hre => ?_, fun g m rest n hre hq hr hst hheld hc hfree hout hres hpos hfill => ?_⟩
    · rw [hafter, State.afterSample_retry hlast hre]
      exact State.finish_noBacklog _ hb.2
    · intro placed
      have hreading : readingOf b = reading := by
        unfold readingOf
        rw [cappedFlag_final hre]
      have hplaced : s.finishAcquisition b = placed.learnVerdict a.site reading.verdict := by
        rw [State.finishAcquisition_opens (a := b) hres hpos hfill, hreading]
      have hlearn : exec (.sampleTimerExpiry v) s = ((if StopSetHas m.stop reading.verdict then
          placed.failLogic a.site .verdictStop else placed.endOk a.site)).finish := by
        rw [hafter, State.afterSample_final hlast hre, hplaced,
          State.learnVerdict_measure (s := placed) (by exact hq) (by exact hr)]
      refine ⟨fun hv hrest => ?_, fun hv => ?_⟩
      · rw [hlearn, if_neg (Bool.eq_false_iff.mp hv)]
        exact State.endOk_alone_finish (s := placed) hb.2 ⟨by rw [← hrest]; exact hq, hr, hst, hheld, hc, hfree⟩
      · have hdone : makeDone a.site ⟨g, .measure m⟩ n .failed (some .verdictStop) none (rest.map Step.tag) =
            ⟨a.site, g, .failed, some .verdictStop, 0, 0, none, rest.map Step.tag⟩ := rfl
        rw [hlearn, if_pos hv, State.failLogic_finish (s := placed) .verdictStop hb.2 hq hr hc hfree hout, hdone]

end Sys2Proof.Machine
end


section
set_option Elab.async false
/-! # How a site ends once a route has left the table (O44) -/

namespace Sys2Proof.Machine

variable {s u v : State} {i : SiteId} {l : LaneId} {r : Route}

/-! ### A RUN reset counts its sites (R88, R89, R183) -/

theorem State.siteEnded_eq (h : u.fullReset = false) : u.siteEnded i = u.tornDown i := by
  unfold State.siteEnded State.tornDown
  cases hq : u.resetReq with
  | none => rfl
  | some q =>
    have hfull : q.full = false := by unfold State.fullReset at h; simpa only [hq] using h
    have hleft : (q.waiting.filter fun j => decide (j ≠ i)).isEmpty = true ↔ ¬∃ j ∈ q.waiting, j ≠ i := by
      simp [List.isEmpty_iff, List.filter_eq_nil_iff]
    simp only [Bool.and_eq_true, decide_eq_true_eq, List.contains_iff_mem, hleft, State.resetTornDown, hfull,
      Bool.false_eq_true, if_false, ite_not]
    rfl

/-- Counting a site changes the RESET in flight and the replies alone. -/
theorem State.tornDown_frame {β : Type} (g : State → β)
    (hreset : ∀ (t : State) (q : Option ResetReq), g { t with resetReq := q } = g t := by exact fun _ _ => rfl)
    (hreply : ∀ (t : State) (f : Reply), g (t.replyWith f) = g t := by exact fun _ _ => rfl) : g (u.tornDown i) = g u := by
  unfold State.tornDown
  split
  · simp only
    split_ifs
    · exact hreset _ _
    · exact (hreply _ _).trans (hreset _ _)
    · rfl
  · rfl

/-- A RESET in flight stays a RUN reset. -/
theorem State.tornDown_fullReset (h : u.fullReset = false) : (u.tornDown i).fullReset = false := by
  unfold State.tornDown
  split
  · next q hq =>
    have hfull : q.full = false := by unfold State.fullReset at h; simpa only [hq] using h
    simp only
    split_ifs
    · exact hfull
    · rfl
    · exact h
  · exact h

theorem State.noBacklog.tornDown (h : u.noBacklog) (i : SiteId) : (u.tornDown i).noBacklog :=
  (State.tornDown_frame State.noBacklog).mpr h

theorem State.tornDown_push (k : Task) : (u.push k).tornDown i = (u.tornDown i).push k := by
  unfold State.tornDown
  rw [show (u.push k).resetReq = u.resetReq from rfl]
  cases u.resetReq with
  | none => rfl
  | some q =>
    simp only
    split_ifs <;> rfl

/-! ### Routes of a site -/

theorem State.allStuck_iff : u.allStuck i = true ↔
    ∀ (k : LaneId) (x : Route), u.lanes[k].route = some x → x.site = i → x.state = .stuck := by
  unfold State.allStuck
  rw [List.all_eq_true]
  refine forall_congr' fun k => ⟨fun h x hx hs => ?_, fun h hk => ?_⟩
  · have hstuck := h (State.mem_routeLanes.mpr ⟨x, hx, hs⟩)
    rw [Lane.routeIs, hx] at hstuck
    exact of_decide_eq_true hstuck
  · obtain ⟨x, hx, hs⟩ := State.mem_routeLanes.mp hk
    rw [Lane.routeIs, hx]
    exact decide_eq_true (h x hx hs)

theorem State.holdsRoute_iff : u.holdsRoute i = true ↔ ∃ (k : LaneId) (x : Route), u.lanes[k].route = some x ∧ x.site = i := by
  unfold State.holdsRoute
  rw [Bool.not_eq_true', List.isEmpty_eq_false_iff_exists_mem]
  exact exists_congr fun k => State.mem_routeLanes

/-! ### The end of a teardown (R18, R88) -/

theorem State.noteClosure_calm (h : u.agenda = []) (c : Cause) : u.noteClosure i c = u.push (.closure i c) :=
  State.noteClosure_push c (by unfold State.closing; rw [h]; rfl)

/-- The site record at the end of a teardown or a CLEAR in IDLE (R18, R20). -/
def Site.idled (x : Site) : Site :=
  { x with state := .idle, stopCause := none, teardown := none, abort := none, clear := none }

/-- The part once a site has ended its teardown in SAFE (R3, R88). -/
def State.madeSafe (i : SiteId) (f : Failure) (u : State) : State :=
  (u.modSite i fun x => { x with state := .safe, stopCause := some f, teardown := none, abort := none }).notice
    (.siteState i .safe (some f))

/-- The part once a teardown that is no fault's has ended: SAFE where a route is left, else IDLE (R88). -/
def State.teardownOver (i : SiteId) (u : State) : State :=
  if u.holdsRoute i then u.madeSafe i .dischargeTimeout else u.modSite i Site.idled

theorem State.madeSafe_eq (f : Failure) : (u.enterSafe i f).modSite i (fun x => { x with abort := none }) = u.madeSafe i f := by
  unfold State.enterSafe State.madeSafe
  rw [State.notice_modSite, State.modSite_modSite]

/-- A teardown ends once each route left is STUCK: a fault's in SAFE with its code (R88). -/
theorem State.checkTeardown_ofFault {f : Failure} (hst : u.sites[i].state = .safing)
    (ht : u.sites[i].teardown = some (.fault f)) (hab : u.sites[i].abort = none) (hs : u.allStuck i = true)
    (ha : u.agenda = []) (hfull : u.fullReset = false) :
    u.checkTeardown i = ((u.madeSafe i f).tornDown i).push (.closure i .ended) := by
  have hsafe : u.enterSafe i f = u.madeSafe i f := by
    rw [← State.madeSafe_eq]
    exact (State.modSite_id (by unfold State.enterSafe; rw [State.notice_sites, State.modSite_get]; rw [hab])).symm
  have hagenda : (u.madeSafe i f).agenda = [] := by unfold State.madeSafe; rw [State.notice_agenda]; exact ha
  have hrun : (u.madeSafe i f).fullReset = false := by
    unfold State.madeSafe State.fullReset; rw [State.notice_resetReq]; exact hfull
  unfold State.checkTeardown
  simp only [State.tearing, hst, decide_true, Bool.or_true, hs, Bool.and_self, if_true, ht, hsafe]
  rw [State.noteClosure_calm hagenda, State.siteEnded_eq (by exact hrun), State.tornDown_push]

/-- The end of a teardown before the ABORT in flight is answered (R88). -/
def State.teardownEnds (i : SiteId) (u : State) : State :=
  if u.holdsRoute i then u.enterSafe i .dischargeTimeout
  else u.modSite i fun x => { x with state := .idle, stopCause := none, teardown := none }

theorem State.teardownEnds_over (hc : u.sites[i].clear = none) :
    (u.teardownEnds i).modSite i (fun x => { x with abort := none }) = u.teardownOver i := by
  unfold State.teardownEnds State.teardownOver
  split
  · exact State.madeSafe_eq _
  · rw [State.modSite_modSite]
    exact State.modSite_congr (by unfold Site.idled; rw [hc])

/-- What the end of a teardown leaves as it is. -/
theorem State.teardownEnds_frame {β : Type} (g : State → β)
    (hsite : ∀ (t : State) (f : Site → Site), g (t.modSite i f) = g t := by exact fun _ _ => rfl)
    (hnotice : ∀ (t : State) (f : Link → Link), g (t.modLink f) = g t := by exact fun _ _ => rfl) :
    g (u.teardownEnds i) = g u := by
  unfold State.teardownEnds State.enterSafe
  split
  · rw [State.notice_eq, hnotice, hsite]
  · exact hsite _ _

theorem State.teardownEnds_abort : (u.teardownEnds i).sites[i].abort = u.sites[i].abort := by
  unfold State.teardownEnds State.enterSafe
  split <;> simp only [State.notice_sites, State.modSite_get]

/-- An ABORT's teardown ends with the answer, which tells the site's state and the tags it gave up (R18). -/
theorem State.checkTeardown_ofAbort {q : AbortReq} (hst : u.sites[i].state = .aborting)
    (ht : u.sites[i].teardown = some .abort) (hab : u.sites[i].abort = some q) (hc : u.sites[i].clear = none)
    (hs : u.allStuck i = true) (ha : u.agenda = []) (hfull : u.fullReset = false) : u.checkTeardown i =
      (((u.teardownOver i).reply 0x05 q.tag (siteByte i) .ok ([byte (u.teardownOver i).sites[i].state.code,
        byte q.discarded.length] ++ q.discarded)).tornDown i).push (.closure i .ended) := by
  have hagenda : (u.teardownEnds i).agenda = [] := (State.teardownEnds_frame State.agenda).trans ha
  have hrun : (u.teardownEnds i).fullReset = false := (State.teardownEnds_frame State.fullReset).trans hfull
  have hanswer : ((u.teardownEnds i).push (.closure i .ended)).answerAbort i = ((u.teardownOver i).reply 0x05 q.tag
      (siteByte i) .ok ([byte (u.teardownOver i).sites[i].state.code, byte q.discarded.length] ++ q.discarded)).push
      (.closure i .ended) := by
    have habort : ((u.teardownEnds i).push (.closure i .ended)).sites[i].abort = some q :=
      State.teardownEnds_abort.trans hab
    unfold State.answerAbort
    simp only [habort]
    rw [← State.teardownEnds_over hc, State.modSite_get]
    rfl
  unfold State.checkTeardown
  simp only [State.tearing, hst, decide_true, Bool.true_or, hs, Bool.and_self, if_true, ht]
  refine Eq.trans ?_ ((congrArg (State.siteEnded i) hanswer).trans ?_)
  · rw [← State.noteClosure_calm hagenda]
    rfl
  · rw [State.siteEnded_eq, State.tornDown_push]
    rw [← State.teardownEnds_over hc]
    exact hrun

/-- A RUN reset's teardown ends without an answer of its own (R88, R183). -/
theorem State.checkTeardown_ofReset (hst : u.sites[i].state = .aborting) (ht : u.sites[i].teardown = some .runReset)
    (hab : u.sites[i].abort = none) (hc : u.sites[i].clear = none) (hs : u.allStuck i = true)
    (hfull : u.fullReset = false) : u.checkTeardown i = (u.teardownOver i).tornDown i := by
  have hrun : (u.teardownEnds i).fullReset = false := (State.teardownEnds_frame State.fullReset).trans hfull
  have hover : u.teardownEnds i = u.teardownOver i := by
    rw [← State.teardownEnds_over hc]
    exact (State.modSite_id (by rw [← State.teardownEnds_abort.trans hab])).symm
  have hanswer : (u.teardownEnds i).answerAbort i = u.teardownEnds i := by
    unfold State.answerAbort
    rw [State.teardownEnds_abort.trans hab]
  unfold State.checkTeardown
  simp only [State.tearing, hst, decide_true, Bool.true_or, hs, Bool.and_self, if_true, ht]
  refine (congrArg (State.siteEnded i) hanswer : _ = (u.teardownEnds i).siteEnded i).trans ?_
  rw [State.siteEnded_eq hrun, hover]

/-! ### The end of a CLEAR (R20, R21) -/

/-- A CLEAR whose last route has left the table ends IDLE, and its site may start its next step (R20). -/
theorem State.checkClear_last {c : ClearReq} (hc : u.sites[i].clear = some c) (ht : u.sites[i].teardown = none)
    (hab : u.sites[i].abort = none) (hn : u.holdsRoute i = false) (hfull : u.fullReset = false) : u.checkClear i =
      (((u.modSite i Site.idled).reply 0x06 c.tag (siteByte i) .ok [0]).tornDown i).push (.next i) := by
  have hidle : u.modSite i (fun x => { x with state := .idle, stopCause := none, clear := none }) = u.modSite i Site.idled :=
    State.modSite_congr (by unfold Site.idled; rw [ht, hab])
  unfold State.checkClear
  simp only [hc, hn, Bool.not_false, if_true, hidle]
  rw [State.siteEnded_eq (by exact hfull), State.tornDown_push]
  rfl

/-- A CLEAR goes on while a route is left that it opens (R20, R21). -/
theorem State.checkClear_going {c : ClearReq} (hc : u.sites[i].clear = some c) (hh : u.holdsRoute i = true)
    (h : c.forced = true ∨ u.allStuck i = false) : u.checkClear i = u := by
  have hend : (!c.forced && u.allStuck i) = false := by rcases h with h | h <;> rw [h] <;> simp
  unfold State.checkClear
  simp only [hc, hh, hend, Bool.not_true, Bool.false_eq_true, if_false]

/-- A plain CLEAR fails where each route left is STUCK again (R20). -/
theorem State.checkClear_plain {c : ClearReq} (hc : u.sites[i].clear = some c) (hh : u.holdsRoute i = true)
    (hf : c.forced = false) (hs : u.allStuck i = true) (hst : u.sites[i].state = .safe) (hfull : u.fullReset = false) :
    u.checkClear i = ((u.modSite i fun x => { x with stopCause := some .dischargeTimeout, clear := none }).reply 0x06 c.tag
      (siteByte i) .dischargeTimeout [6]).tornDown i := by
  have hphase : ∀ (d : List Byte), ((u.modSite i fun x => { x with stopCause := some .dischargeTimeout, clear := none }).reply
      0x06 c.tag (siteByte i) .dischargeTimeout d).inPhase .stuck = false := fun _ => State.inPhase_of_not_full hfull
  unfold State.checkClear
  simp only [hc, hh, hf, hs, Bool.not_true, Bool.not_false, Bool.false_eq_true, if_false, Bool.and_self, if_true, hphase]
  rw [State.siteEnded_eq (by exact hfull)]
  simp only [State.modSite_get, hst]
  rfl

theorem State.checkClear_none (hc : u.sites[i].clear = none) : u.checkClear i = u := by
  unfold State.checkClear
  rw [hc]

theorem State.checkTeardown_idle (ht : u.tearing i = false) : u.checkTeardown i = u := by
  unfold State.checkTeardown
  rw [ht]; rfl

theorem State.tearing_eq_false (ha : u.sites[i].state ≠ .aborting) (hs : u.sites[i].state ≠ .safing) :
    u.tearing i = false := by
  unfold State.tearing
  rw [decide_eq_false ha, decide_eq_false hs]; rfl

/-! ### The owner's business once a route has left the table (R67) -/

theorem State.stuckPhaseEnd_of_not_full (h : u.fullReset = false) : u.stuckPhaseEnd = u := by
  unfold State.stuckPhaseEnd
  unfold State.fullReset at h
  split
  · next q hq => rw [if_neg]; simp only [hq] at h; simp [h]
  · rfl

/-- A site without a running step looks to its teardown and its CLEAR (R67). -/
theorem State.afterRemoval_resting (hr : u.sites[i].running = none) (hfull : u.fullReset = false)
    (hv : (u.checkTeardown i).checkClear i = v) (hvfull : v.fullReset = false) : u.afterRemoval i = v := by
  have hactive : u.active i = none := by
    unfold State.active
    rw [hr]
    cases u.sites[i].queue <;> rfl
  unfold State.afterRemoval
  simp only [hactive, hv, State.inPhase_of_not_full hfull, Bool.false_and, Bool.false_eq_true, if_false]
  exact State.stuckPhaseEnd_of_not_full hvfull

/-- A RELEASE ends OK (R66). -/
theorem State.afterRemoval_release {tag : Byte} {h : Handle} {n : Nat} {rest : List Step}
    (hq : u.sites[i].queue = ⟨tag, .release h⟩ :: rest) (hr : u.sites[i].running = some ⟨.active .releasing, n⟩)
    (hst : u.sites[i].state = .running) (hc : u.sites[i].clear = none) (hreset : u.resetReq = none) :
    u.afterRemoval i = u.endOk i := by
  have hfull : u.fullReset = false := by unfold State.fullReset; rw [hreset]
  have hdone : u.endOk i = (u.modSite i fun x => { x with running := some ⟨.ended, n⟩ }).push
      (.done (makeDone i ⟨tag, .release h⟩ n .ok none u.results.sites[i].lastSeq [])) := State.finishStep_eq _ _ _ _ hq hr
  have hsite : (u.endOk i).sites[i] = { u.sites[i] with running := some ⟨.ended, n⟩ } := by
    rw [hdone]; exact State.modSite_get _ _ _
  have htear : (u.endOk i).tearing i = false := State.tearing_eq_false (by rw [hsite, hst]; decide) (by rw [hsite, hst]; decide)
  unfold State.afterRemoval
  simp only [State.active_eq hq hr, State.inPhase_of_not_full hfull, Bool.false_and, Bool.false_eq_true, if_false]
  rw [State.checkTeardown_idle htear, State.checkClear_none (by rw [hsite]; exact hc)]
  refine State.stuckPhaseEnd_of_not_full ?_
  rw [hdone]
  exact hfull

/-! ### The follow-ups -/

theorem State.finish_closure (c : Cause) (hb : v.noBacklog) (hr : v.sites[i].running = none)
    (ho : v.results.outbound.length < 16) : (v.push (.closure i c)).finish = .next (v.closeBlock i c).transmit := by
  obtain ⟨ha, hslots, hwait, hclosed⟩ := hb
  refine State.finish_of_drain_noBacklog ((drain_closure (s := v.push (.closure i c)) (ts := []) (c := c) 4095 ?_ hr).trans ?_) ?_
  · rw [State.push_agenda, ha, insertTask_nil]
  · rw [State.push_clear v _ ha]
    exact drain_nil _ _ (by rw [State.closeBlock_eq]; exact ha)
  · rw [State.closeBlock_eq]
    exact ⟨ha, hslots, hwait, closedResults_waiting hclosed ho⟩

/-- A look at a site whose queue is empty starts nothing. -/
theorem State.finish_next (hb : v.noBacklog) (hq : v.sites[i].queue = []) : (v.push (.next i)).finish = .next v.transmit := by
  refine State.finish_of_drain_noBacklog (drain_one 4095 _ v (.next i) rfl hb.1 ?_) hb
  have hno : v.mayStart i = false := State.mayStart_eq_false (.inr (.inr hq))
  unfold State.runTask State.tryStart
  simp only [hno, Bool.false_eq_true, if_false]

end Sys2Proof.Machine
end


section
set_option Elab.async false
/-! # A route leaves the table, and what it hands over (O44) -/

namespace Sys2Proof.Machine

variable {s t u v : State} {i : SiteId} {l : LaneId} {r : Route} {w : LaneWaiter}

/-! ### What the removal of a route leaves to its site's end (R67) -/

/-- The lane of a route that has left the table (R67, R82, R84). -/
def Lane.freed (x : Lane) : Lane :=
  { x with state := .free, route := none, quiet := none, wait := none, episode := none, latch := false }

/-- All that the end of site `i`'s business reads is in `u` as it was in `s`, but for its route on lane `l`, which is gone. -/
structure State.RouteGone (s : State) (i : SiteId) (l : LaneId) (u : State) : Prop where
  site : u.sites[i] = s.sites[i]
  reset : u.resetReq = s.resetReq
  backlog : u.noBacklog
  completion : u.link.completion = s.link.completion
  outbound : u.results.outbound = s.results.outbound
  routes : ∀ (k : LaneId) (x : Route), x.site = i → (u.lanes[k].route = some x ↔ k ≠ l ∧ s.lanes[k].route = some x)

theorem State.freed_route_iff {k : LaneId} {x : Route} :
    (s.modLane l Lane.freed).lanes[k].route = some x ↔ k ≠ l ∧ s.lanes[k].route = some x := by
  rw [State.modLane_lanes, upd_get]
  split
  · next h => exact ⟨nofun, fun hk => absurd h.symm hk.1⟩
  · next h => exact ⟨fun hk => ⟨fun e => h e.symm, hk⟩, fun hk => hk.2⟩

theorem State.freed_free {k : LaneId} (h : (s.modLane l Lane.freed).lanes[k].state = .free) :
    k = l ∨ s.lanes[k].state = .free := by
  rw [State.modLane_lanes, upd_get] at h
  split at h
  · next e => exact .inl e.symm
  · exact .inr h

theorem State.freed_closed (k : LaneId) : (s.modLane l Lane.freed).lanes[k].closed = s.lanes[k].closed := by
  rw [State.modLane_lanes, upd_get]
  split <;> rfl

theorem State.RouteGone.freed (hb : s.noBacklog) (i : SiteId) (l : LaneId) : s.RouteGone i l (s.modLane l Lane.freed) :=
  ⟨rfl, rfl, hb, rfl, rfl, fun _ _ _ => State.freed_route_iff⟩

theorem State.RouteGone.modPort (h : s.RouteGone i l u) (p : PortId) (f : Port → Port) : s.RouteGone i l (u.modPort p f) :=
  ⟨h.site, h.reset, h.backlog, h.completion, h.outbound, h.routes⟩

theorem State.RouteGone.withLaneWaiters (h : s.RouteGone i l u) (ws : List LaneWaiter) :
    s.RouteGone i l (u.withLaneWaiters ws) :=
  ⟨h.site, h.reset, h.backlog, h.completion, h.outbound, h.routes⟩

theorem State.RouteGone.modSite (h : s.RouteGone i l u) {j : SiteId} (hj : j ≠ i) (f : Site → Site) :
    s.RouteGone i l (u.modSite j f) :=
  ⟨by rw [State.modSite_sites, upd_get, if_neg hj, h.site], h.reset, h.backlog, h.completion, h.outbound, h.routes⟩

/-- The lane may go on to a route of another site. -/
theorem State.RouteGone.modLane (h : s.RouteGone i l u) {f : Lane → Lane} {x : Route} (hf : ∀ y, (f y).route = some x)
    (hx : x.site ≠ i) : s.RouteGone i l (u.modLane l f) := by
  refine ⟨h.site, h.reset, h.backlog, h.completion, h.outbound, fun k y hy => ?_⟩
  rw [State.modLane_lanes, upd_get]
  split
  · next e =>
    rw [hf]
    exact ⟨fun e' => absurd ((Option.some.inj e') ▸ hy) hx, fun hk => absurd e.symm hk.1⟩
  · exact h.routes k y hy

theorem State.RouteGone.obtained (h : s.RouteGone i l u) (hw : w.site ≠ i) : s.RouteGone i l (u.obtained w l) :=
  (h.modSite hw _).modLane (x := ⟨w.site, w.handle, w.port, .closing⟩) (fun _ => rfl) hw

theorem State.RouteGone.healthWork (h : s.RouteGone i l u) (ht : t.withoutHealth = u.withoutHealth) : s.RouteGone i l t := by
  have hroute (k : LaneId) : t.lanes[k].route = u.lanes[k].route := (congrArg Lane.route (State.lane_of_withoutHealth ht k) :)
  refine ⟨?_, ?_, State.noBacklog_of_withoutHealth ht h.backlog, ?_, ?_, fun k x hx => ?_⟩
  · exact (State.eq_of_withoutHealth (fun v => v.sites[i]) ht).trans h.site
  · exact (State.eq_of_withoutHealth State.resetReq ht).trans h.reset
  · exact (State.eq_of_withoutHealth (fun v => v.link.completion) ht).trans h.completion
  · exact (State.eq_of_withoutHealth (fun v => v.results.outbound) ht).trans h.outbound
  · rw [hroute]; exact h.routes k x hx

/-! ### The routes that are left -/

theorem State.RouteGone.fullReset (h : s.RouteGone i l u) : u.fullReset = s.fullReset := by
  unfold State.fullReset
  rw [h.reset]

theorem State.RouteGone.holdsRoute_iff (h : s.RouteGone i l u) : u.holdsRoute i = true ↔
    ∃ (k : LaneId) (x : Route), k ≠ l ∧ s.lanes[k].route = some x ∧ x.site = i := by
  rw [State.holdsRoute_iff]
  exact exists_congr fun k => exists_congr fun x => ⟨fun ⟨hx, hs⟩ => ⟨((h.routes k x hs).mp hx).1, ((h.routes k x hs).mp hx).2, hs⟩,
    fun ⟨hk, hx, hs⟩ => ⟨(h.routes k x hs).mpr ⟨hk, hx⟩, hs⟩⟩

theorem State.RouteGone.allStuck_iff (h : s.RouteGone i l u) : u.allStuck i = true ↔
    ∀ (k : LaneId) (x : Route), k ≠ l → s.lanes[k].route = some x → x.site = i → x.state = .stuck := by
  rw [State.allStuck_iff]
  exact forall_congr' fun k => forall_congr' fun x => ⟨fun g hk hx hs => g ((h.routes k x hs).mpr ⟨hk, hx⟩) hs,
    fun g hx hs => g ((h.routes k x hs).mp hx).1 ((h.routes k x hs).mp hx).2 hs⟩

/-! ### Who gets the lane and the claim (R35, R57, R60, R61) -/

/-- A free quiet lane that no other qualifies beside is chosen (R57). -/
theorem State.chooseLane_alone (hfree : s.lanes[l].state = .free) (hq : s.isLive l = false)
    (ho : ∀ k : LaneId, k ≠ l → s.lanes[k].state = .free → s.pins.live[k] = true) : s.chooseLane = some l := by
  cases hc : s.chooseLane with
  | none => exact absurd (State.qualifies_iff.mpr ⟨hfree, hq⟩) (Bool.eq_false_iff.mp (State.chooseLane_none_iff.mp hc l))
  | some k =>
    obtain ⟨hk, hlive⟩ := State.qualifies_iff.mp (State.chooseLane_qualifies hc)
    refine congrArg some (by_contra fun hne => ?_)
    exact absurd (ho k hne hk) (by rw [hlive]; decide)

/-- No lane is chosen while each free lane is live (R57). -/
theorem State.chooseLane_live (h : ∀ k : LaneId, s.lanes[k].state = .free → s.pins.live[k] = true) : s.chooseLane = none :=
  State.chooseLane_none_iff.mpr fun k => Bool.eq_false_iff.mpr fun hk => by
    obtain ⟨hfree, hlive⟩ := State.qualifies_iff.mp hk
    exact absurd (h k hfree) (by rw [hlive]; decide)

/-- The oldest lane waiter obtains the lane that alone qualifies (R61). -/
theorem State.serveLaneWaiters_alone {ws : List LaneWaiter} (hw : s.laneWaiters = w :: ws) (hfree : s.lanes[l].state = .free)
    (hq : s.isLive l = false) (ho : ∀ k : LaneId, k ≠ l → s.lanes[k].state = .free → s.pins.live[k] = true)
    (hd : Duration.count s.ocPersist ≠ 0) : s.serveLaneWaiters = (s.withLaneWaiters ws).obtained w l := by
  have hobtain : (s.obtainLane w l).withLaneWaiters ws = (s.withLaneWaiters ws).obtained w l := by
    rw [State.obtainLane_eq w l hd]; rfl
  rw [State.serveLaneWaiters_cons hw (State.chooseLane_alone hfree hq ho), hobtain]
  refine State.serveLaneWaiters_none (.inr (State.chooseLane_live fun k hk => ?_))
  have hlanes : ((s.withLaneWaiters ws).obtained w l).lanes[k].state = .free := hk
  unfold State.obtained at hlanes
  rw [State.modLane_lanes, upd_get] at hlanes
  split at hlanes
  · cases hlanes
  · next hne => exact ho k (fun e => hne e.symm) hlanes

theorem State.freeClaim_alone {p : PortId} (h : s.ports[p].waiters = []) :
    s.freeClaim p = s.modPort p fun x => { x with claim := none } := by
  unfold State.freeClaim
  rw [h]

theorem State.freeClaim_passes {p : PortId} {c : Claim} {cs : List Claim} (h : s.ports[p].waiters = c :: cs) :
    s.freeClaim p = (s.modPort p fun x => { x with claim := some c, waiters := cs }).lanePhase c.site := by
  unfold State.freeClaim
  rw [h]

/-- A CONNECT whose pins are free obtains the one lane that qualifies (R56, R57). -/
theorem State.lanePhase_obtains {d e : Duration} {rest : List Step} {ph : Phase} {n : Nat}
    (hq : s.sites[w.site].queue = ⟨w.tag, .connect w.handle w.port d e w.pins⟩ :: rest)
    (hr : s.sites[w.site].running = some ⟨.active ph, n⟩) (hpins : s.pinsBusy none w.pins = false)
    (hw : s.laneWaiters = []) (hl : s.chooseLane = some l) (hd : Duration.count s.ocPersist ≠ 0) :
    s.lanePhase w.site = s.obtained w l := by
  rw [State.lanePhase_eq hq hr]
  simp only [hpins, hw, hl, Bool.false_eq_true, if_false, List.isEmpty_nil, if_true]
  rw [State.obtainLane_eq w l (by exact hd), State.obtained_asks hr]

/-- It joins the lane waiters where none qualifies (R60). -/
theorem State.lanePhase_joins {d e : Duration} {rest : List Step} {ph : Phase} {n : Nat}
    (hq : s.sites[w.site].queue = ⟨w.tag, .connect w.handle w.port d e w.pins⟩ :: rest)
    (hr : s.sites[w.site].running = some ⟨.active ph, n⟩) (hpins : s.pinsBusy none w.pins = false)
    (hl : s.chooseLane = none) : s.lanePhase w.site = (s.withLaneWaiters (s.laneWaiters ++ [w])).modSite w.site fun x =>
      { x with running := some ⟨.active .laneWait, n⟩ } := by
  rw [State.lanePhase_eq hq hr]
  simp only [hpins, hl, Bool.false_eq_true, if_false, ite_self]
  rfl

/-! ### The release timer (R66, R67, R69, R90) -/

theorem State.releaseExpired_makes {t : Timer} (hr : s.lanes[l].route = some r) (hw : s.lanes[l].wait = some ⟨.release, t⟩)
    (hx : t.expiry ≤ s.time.now) (hcl : s.lanes[l].closed ≠ []) :
    (r.state = .opening → s.releaseExpired l = (s.endWait l).openingStep l) ∧
    (r.state = .stuck → s.releaseExpired l = (s.endWait l).hotStep l) := by
  have hclosed : (s.endWait l).lanes[l].closed.isEmpty = false := by
    unfold State.endWait
    rw [State.modLane_get]
    exact List.isEmpty_eq_false_iff.mpr hcl
  unfold State.releaseExpired
  rw [Lane.waitOf_eq hw, State.expired_of_le hx, hr]
  refine ⟨fun hst => ?_, fun hst => ?_⟩ <;> simp only [hst, hclosed, Bool.false_eq_true, if_false]

theorem State.releaseExpired_switching {t : Timer} {p : Pin} {d : Duration} (hr : s.lanes[l].route = some r)
    (hw : s.lanes[l].wait = some ⟨.release, t⟩) (hx : t.expiry ≤ s.time.now) (hst : r.state = .switching)
    (ht : s.switchTarget r.site = some (p, d)) : s.releaseExpired l = (s.endWait l).switchClose l p d := by
  have htarget : (s.endWait l).switchTarget r.site = some (p, d) := ht
  unfold State.releaseExpired
  rw [Lane.waitOf_eq hw, State.expired_of_le hx, hr]
  simp only [hst, htarget]

theorem State.releaseExpired_removes {t : Timer} (hr : s.lanes[l].route = some r) (hw : s.lanes[l].wait = some ⟨.release, t⟩)
    (hx : t.expiry ≤ s.time.now) (hcl : s.lanes[l].closed = []) (hst : r.state = .opening ∨ r.state = .stuck) :
    s.releaseExpired l = (s.endWait l).removeRoute l := by
  have hclosed : (s.endWait l).lanes[l].closed.isEmpty = true := by
    unfold State.endWait
    rw [State.modLane_get, hcl]; rfl
  unfold State.releaseExpired
  rw [Lane.waitOf_eq hw, State.expired_of_le hx, hr]
  rcases hst with hst | hst <;> simp only [hst, hclosed, if_true]

/-- The matrix and the waiters once a route has left the table: the lane retires, or its waiters are served (R67). -/
def State.laneGiven (l : LaneId) (s : State) : State :=
  if s.lanes[l].state = .retiring then ((s.modLane l Lane.freed).retire l).healthDue s.health.record
  else (s.modLane l Lane.freed).serveLaneWaiters

theorem State.removeRoute_eq (hr : s.lanes[l].route = some r) :
    (s.endWait l).removeRoute l = ((s.laneGiven l).freeClaim r.port).afterRemoval r.site := by
  have hfreed : (s.endWait l).modLane l Lane.freed = s.modLane l Lane.freed := by
    unfold State.endWait
    rw [State.modLane_modLane]; rfl
  have hroute : (s.endWait l).lanes[l].route = some r := by
    unfold State.endWait; rw [State.modLane_get]; exact hr
  have hstate : (s.endWait l).lanes[l].state = s.lanes[l].state := by
    unfold State.endWait; rw [State.modLane_get]
  unfold State.removeRoute State.laneGiven
  simp only [hroute, hstate, decide_eq_true_eq]
  rw [← hfreed]
  rfl

theorem State.laneGiven_inUse (h : s.lanes[l].state = .inUse) : s.laneGiven l = (s.modLane l Lane.freed).serveLaneWaiters := by
  unfold State.laneGiven
  rw [h]; rfl

theorem State.laneGiven_unwaited (h : s.lanes[l].state = .inUse) (hw : s.laneWaiters = []) :
    s.laneGiven l = s.modLane l Lane.freed := by
  rw [State.laneGiven_inUse h]
  exact State.serveLaneWaiters_none (.inl hw)

/-- The lane that a route leaves alone qualifies, quiet as it is, where no other free lane is quiet (R57). -/
def State.alone (l : LaneId) (s : State) : Prop :=
  s.isLive l = false ∧ ∀ k : LaneId, k ≠ l → s.lanes[k].state = .free → s.pins.live[k] = true

theorem State.alone_freed (h : s.alone l) : (s.modLane l Lane.freed).lanes[l].state = .free ∧
    ∀ k : LaneId, k ≠ l → (s.modLane l Lane.freed).lanes[k].state = .free → s.pins.live[k] = true :=
  ⟨by rw [State.modLane_get]; rfl, fun k hk hfree => h.2 k hk ((State.freed_free hfree).resolve_left hk)⟩

/-- A RETIRING lane is RETIRED; nobody waits for the claim (R47, R67). -/
theorem State.removal_retires {p : PortId} (hb : s.noBacklog) (i : SiteId) (hst : s.lanes[l].state = .retiring)
    (hp : s.ports[p].waiters = []) (hu : (((s.modLane l Lane.freed).retire l).healthDue s.health.record).modPort p
      (fun x => { x with claim := none }) = u) : (s.laneGiven l).freeClaim p = u ∧ s.RouteGone i l u := by
  have hwork : (((s.modLane l Lane.freed).retire l).healthDue s.health.record).withoutHealth =
      (s.modLane l Lane.freed).withoutHealth := (State.healthDue_withoutHealth _ _).trans (State.retire_withoutHealth _ _)
  have hgiven : s.laneGiven l = ((s.modLane l Lane.freed).retire l).healthDue s.health.record := if_pos hst
  rw [hgiven, ← hu]
  refine ⟨State.freeClaim_alone ?_, ((State.RouteGone.freed hb i l).healthWork hwork).modPort _ _⟩
  exact (State.eq_of_withoutHealth (fun v => v.ports[p].waiters) hwork).trans hp

/-- Nobody waits for the lane or the claim. -/
theorem State.removal_frees {p : PortId} (hb : s.noBacklog) (i : SiteId) (hst : s.lanes[l].state = .inUse)
    (hw : s.laneWaiters = []) (hp : s.ports[p].waiters = [])
    (hu : (s.modLane l Lane.freed).modPort p (fun x => { x with claim := none }) = u) :
    (s.laneGiven l).freeClaim p = u ∧ s.RouteGone i l u := by
  rw [State.laneGiven_unwaited hst hw, ← hu]
  exact ⟨State.freeClaim_alone (by exact hp), (State.RouteGone.freed hb i l).modPort _ _⟩

/-- The oldest lane waiter obtains the lane (R61). -/
theorem State.removal_serves {p : PortId} {ws : List LaneWaiter} (hb : s.noBacklog) (hst : s.lanes[l].state = .inUse)
    (hw : s.laneWaiters = w :: ws) (hi : w.site ≠ i) (ha : s.alone l) (hd : Duration.count s.ocPersist ≠ 0)
    (hp : s.ports[p].waiters = []) (hu : (((s.modLane l Lane.freed).withLaneWaiters ws).obtained w l).modPort p
      (fun x => { x with claim := none }) = u) : (s.laneGiven l).freeClaim p = u ∧ s.RouteGone i l u := by
  obtain ⟨hfree, ho⟩ := State.alone_freed ha
  rw [State.laneGiven_inUse hst, State.serveLaneWaiters_alone (by exact hw) hfree ha.1 ho hd, ← hu]
  exact ⟨State.freeClaim_alone (by exact hp), (((State.RouteGone.freed hb i l).withLaneWaiters ws).obtained hi).modPort _ _⟩

section passes

variable {p : PortId} {cs : List Claim} {d e : Duration} {rest : List Step} {m : Nat}

/-- The freed lane with the claim passed to the port's oldest waiter (R35, R67). -/
def State.passed (l : LaneId) (p : PortId) (c : Claim) (cs : List Claim) (s : State) : State :=
  (s.modLane l Lane.freed).modPort p fun x => { x with claim := some c, waiters := cs }

theorem State.passed_pins {pins : List Pin} (c : Claim)
    (h : ∀ (k : LaneId) (x : Route), s.lanes[k].route = some x → ∀ q ∈ pins, pinRelay q ∉ s.lanes[k].closed) :
    (s.passed l p c cs).pinsBusy none pins = false := by
  refine Bool.eq_false_iff.mpr fun hbusy => ?_
  obtain ⟨k, x, hx, q, hq, hc⟩ := State.pinsBusy_none_iff.mp hbusy
  exact h k x (State.freed_route_iff.mp hx).2 q hq ((State.freed_closed k).subst hc)

variable (hst : s.lanes[l].state = .inUse) (hp : s.ports[p].waiters = ⟨w.site, w.handle⟩ :: cs)
  (hq : s.sites[w.site].queue = ⟨w.tag, .connect w.handle w.port d e w.pins⟩ :: rest)
  (hr : s.sites[w.site].running = some ⟨.active .portWait, m⟩)
  (hpins : ∀ (k : LaneId) (x : Route), s.lanes[k].route = some x → ∀ q ∈ w.pins, pinRelay q ∉ s.lanes[k].closed)
include hst hp hq hr hpins

/-- The port's oldest waiter gets the claim, and its CONNECT the freed lane (R35, R57). -/
theorem State.removal_grants (hb : s.noBacklog) (hi : w.site ≠ i) (hw : s.laneWaiters = []) (ha : s.alone l)
    (hd : Duration.count s.ocPersist ≠ 0) (hu : (s.passed l p ⟨w.site, w.handle⟩ cs).obtained w l = u) :
    (s.laneGiven l).freeClaim p = u ∧ s.RouteGone i l u := by
  obtain ⟨hfree, ho⟩ := State.alone_freed ha
  rw [State.laneGiven_unwaited hst hw, State.freeClaim_passes (by exact hp), ← hu]
  exact ⟨State.lanePhase_obtains (s := s.passed l p ⟨w.site, w.handle⟩ cs) hq hr (State.passed_pins _ hpins) hw
    (State.chooseLane_alone hfree ha.1 ho) hd, ((State.RouteGone.freed hb i l).modPort _ _).obtained hi⟩

/-- The port's oldest waiter gets the claim and joins the lane waiters, since each free lane is live (R35, R60). -/
theorem State.removal_queues (hb : s.noBacklog) (hi : w.site ≠ i)
    (hlive : ∀ k : LaneId, k = l ∨ s.lanes[k].state = .free → s.pins.live[k] = true)
    (hu : ((s.passed l p ⟨w.site, w.handle⟩ cs).withLaneWaiters (s.laneWaiters ++ [w])).modSite w.site
      (fun x => { x with running := some ⟨.active .laneWait, m⟩ }) = u) :
    (s.laneGiven l).freeClaim p = u ∧ s.RouteGone i l u := by
  have hnone : (s.modLane l Lane.freed).chooseLane = none := State.chooseLane_live fun k hk => hlive k (State.freed_free hk)
  rw [State.laneGiven_inUse hst, State.serveLaneWaiters_none (.inr hnone), State.freeClaim_passes (by exact hp), ← hu]
  exact ⟨State.lanePhase_joins (s := s.passed l p ⟨w.site, w.handle⟩ cs) hq hr (State.passed_pins _ hpins) hnone,
    (((State.RouteGone.freed hb i l).modPort _ _).withLaneWaiters _).modSite hi _⟩

end passes

/-- A removal comes to its site's end (R67). -/
theorem exec_removes {tm : Timer} (hb : s.awake) (hr : s.lanes[l].route = some r)
    (hw : s.lanes[l].wait = some ⟨.release, tm⟩) (hx : tm.expiry ≤ s.time.now) (hcl : s.lanes[l].closed = [])
    (hst : r.state = .opening ∨ r.state = .stuck) (hu : (s.laneGiven l).freeClaim r.port = u) :
    exec (.releaseWaitExpiry l) s = (u.afterRemoval r.site).finish := by
  have hexec : exec (.releaseWaitExpiry l) s = (s.releaseExpired l).finish := if_pos hb.1
  rw [hexec, State.releaseExpired_removes hr hw hx hcl hst, State.removeRoute_eq hr, hu]

end Sys2Proof.Machine
end


section
set_option Elab.async false
/-! # The release timer's expiry (O44) -/

namespace Sys2Proof.Machine

variable {s u v : State} {i : SiteId} {l : LaneId} {r : Route}

/-! ### How the owning site's business ends, by what it has in flight (R67, R88, R18, R20, R21) -/

/-- The part's end of an event at a site without a running step that comes to `v` without follow-ups. -/
theorem State.RouteGone.ends (g : s.RouteGone i l u) (hr : s.sites[i].running = none) (hfull : s.fullReset = false)
    (hv : (u.checkTeardown i).checkClear i = v) (hvfull : v.fullReset = false) (hb : v.noBacklog) :
    (u.afterRemoval i).finish = .next v.transmit := by
  rw [State.afterRemoval_resting (by rw [g.site]; exact hr) (g.fullReset.trans hfull) hv hvfull]
  exact State.finish_noBacklog v hb

/-- A teardown that ends in `v`, the closing of the site's block behind it. -/
theorem State.RouteGone.ends_closing (g : s.RouteGone i l u) (hr : s.sites[i].running = none) (hfull : s.fullReset = false)
    (hv : u.checkTeardown i = (v.tornDown i).push (.closure i .ended)) (hvfull : v.fullReset = false) (hb : v.noBacklog)
    (hrun : v.sites[i].running = none) (hc : v.sites[i].clear = none) (ho : v.results.outbound.length < 16) :
    (u.afterRemoval i).finish = .next ((v.tornDown i).closeBlock i .ended).transmit := by
  have hclear : ((v.tornDown i).push (.closure i .ended)).sites[i].clear = none :=
    (State.tornDown_frame fun t => t.sites[i].clear).trans hc
  rw [State.afterRemoval_resting (v := (v.tornDown i).push (.closure i .ended)) (by rw [g.site]; exact hr)
    (g.fullReset.trans hfull) (by rw [hv, State.checkClear_none hclear]) (by exact State.tornDown_fullReset hvfull)]
  refine State.finish_closure .ended (hb.tornDown i) ?_ ?_
  · exact (State.tornDown_frame fun t => t.sites[i].running).trans hrun
  · rw [State.tornDown_frame fun t => t.results]; exact ho

/-- What the end of a teardown in SAFE leaves of its site. -/
theorem State.madeSafe_site (f : Failure) : (u.madeSafe i f).sites[i] =
    { u.sites[i] with state := .safe, stopCause := some f, teardown := none, abort := none } := by
  unfold State.madeSafe
  simp only [State.notice_sites, State.modSite_get]

theorem State.madeSafe_fullReset (f : Failure) : (u.madeSafe i f).fullReset = u.fullReset := by
  unfold State.madeSafe State.fullReset
  rw [State.notice_resetReq]; rfl

theorem State.madeSafe_results (f : Failure) : (u.madeSafe i f).results = u.results := by
  unfold State.madeSafe
  rw [State.notice_results]; rfl

theorem State.noBacklog.madeSafe (h : u.noBacklog) (i : SiteId) (f : Failure) : (u.madeSafe i f).noBacklog :=
  State.noBacklog.notice (s := u.modSite i _) h _

theorem State.RouteGone.release (g : s.RouteGone i l u) {tag : Byte} {h : Handle} {n : Nat}
    (halone : s.runsAlone i ⟨tag, .release h⟩ .releasing n) (hc : s.sites[i].clear = none) (hreset : s.resetReq = none) :
    (u.afterRemoval i).finish = .next ((u.doneQueued ⟨i, tag, .ok, none, 0, 0, none, []⟩).modSite i fun x =>
      { x with state := .idle }).transmit := by
  have halone' : u.runsAlone i ⟨tag, .release h⟩ .releasing n := by
    unfold State.runsAlone
    rw [g.site, g.completion]
    exact halone
  rw [State.afterRemoval_release (rest := []) halone'.1 halone'.2.1 halone'.2.2.1 (by rw [g.site]; exact hc)
    (g.reset.trans hreset)]
  exact State.endOk_alone_finish g.backlog halone'

section resting

variable (g : s.RouteGone i l u) (hr : s.sites[i].running = none) (hfull : s.fullReset = false)
include g hr hfull

section clearing

variable {c : ClearReq} (hst : s.sites[i].state = .safe) (hc : s.sites[i].clear = some c)
include hst hc

theorem State.RouteGone.clear_last (hq : s.sites[i].queue = []) (ht : s.sites[i].teardown = none)
    (hab : s.sites[i].abort = none) (hn : u.holdsRoute i = false) : (u.afterRemoval i).finish =
      .next (((u.modSite i Site.idled).reply 0x06 c.tag (siteByte i) .ok [0]).tornDown i).transmit := by
  rw [← g.site] at hr hst hc hq ht hab
  have hufull := g.fullReset.trans hfull
  have htear : u.tearing i = false := State.tearing_eq_false (by rw [hst]; decide) (by rw [hst]; decide)
  have hclear := State.checkClear_last hc ht hab hn hufull
  generalize hv : ((u.modSite i Site.idled).reply 0x06 c.tag (siteByte i) .ok [0]).tornDown i = v at hclear ⊢
  have hvfull : v.fullReset = false := hv ▸ State.tornDown_fullReset (by exact hufull)
  have hvb : v.noBacklog := hv ▸ State.noBacklog.tornDown (by exact g.backlog) i
  have hvq : v.sites[i].queue = [] := by
    rw [← hv, State.tornDown_frame fun v => v.sites[i].queue]
    exact (congrArg Site.queue (State.modSite_get _ _ _)).trans hq
  rw [State.afterRemoval_resting hr hufull (by rw [State.checkTeardown_idle htear, hclear]) (by exact hvfull)]
  exact State.finish_next hvb hvq

theorem State.RouteGone.clear_going (hh : u.holdsRoute i = true) (h : c.forced = true ∨ u.allStuck i = false) :
    (u.afterRemoval i).finish = .next u.transmit := by
  have hsite := g.site
  have htear : u.tearing i = false := State.tearing_eq_false (by rw [hsite, hst]; decide) (by rw [hsite, hst]; decide)
  refine g.ends hr hfull ?_ (g.fullReset.trans hfull) g.backlog
  rw [State.checkTeardown_idle htear, State.checkClear_going (by rw [hsite]; exact hc) hh h]

theorem State.RouteGone.clear_plain (hh : u.holdsRoute i = true) (hf : c.forced = false) (hs : u.allStuck i = true) :
    (u.afterRemoval i).finish = .next (((u.modSite i fun x =>
      { x with stopCause := some .dischargeTimeout, clear := none }).reply 0x06 c.tag (siteByte i) .dischargeTimeout
      [6]).tornDown i).transmit := by
  have hsite := g.site
  have hufull := g.fullReset.trans hfull
  have htear : u.tearing i = false := State.tearing_eq_false (by rw [hsite, hst]; decide) (by rw [hsite, hst]; decide)
  refine g.ends hr hfull ?_ (State.tornDown_fullReset (by exact hufull)) (State.noBacklog.tornDown (by exact g.backlog) i)
  rw [State.checkTeardown_idle htear, State.checkClear_plain (by rw [hsite]; exact hc) hh hf hs (by rw [hsite]; exact hst)
    hufull]

end clearing

variable (hc : s.sites[i].clear = none)
include hc

/-- A teardown goes on while a route is left that is not STUCK (R88). -/
theorem State.RouteGone.teardown_going {k : LaneId} {x : Route} (hk : k ≠ l) (hx : s.lanes[k].route = some x)
    (hi : x.site = i) (hst : x.state ≠ .stuck) : (u.afterRemoval i).finish = .next u.transmit := by
  have hroute := (g.routes k x hi).mpr ⟨hk, hx⟩
  refine g.ends hr hfull ?_ (g.fullReset.trans hfull) g.backlog
  rw [State.checkTeardown_going (State.mem_routeLanes.mpr ⟨x, hroute, hi⟩) hroute hst,
    State.checkClear_none (by rw [g.site]; exact hc)]

/-- A fault's teardown ends SAFE (R88). -/
theorem State.RouteGone.fault_ends {f : Failure} (ho : s.results.outbound.length < 16) (hst : s.sites[i].state = .safing)
    (ht : s.sites[i].teardown = some (.fault f)) (hab : s.sites[i].abort = none) (hs : u.allStuck i = true) :
    (u.afterRemoval i).finish = .next (((u.madeSafe i f).tornDown i).closeBlock i .ended).transmit := by
  have hsite := g.site
  have hufull := g.fullReset.trans hfull
  refine g.ends_closing hr hfull (State.checkTeardown_ofFault (by rw [hsite, hst]) (by rw [hsite, ht]) (by rw [hsite, hab]) hs
    g.backlog.1 hufull) ((State.madeSafe_fullReset f).trans hufull) (g.backlog.madeSafe i f) ?_ ?_ ?_
  · rw [State.madeSafe_site, hsite]; exact hr
  · rw [State.madeSafe_site, hsite]; exact hc
  · rw [State.madeSafe_results, g.outbound]; exact ho

end resting

/-! ### The end of an ABORT's and of a RUN reset's teardown -/

/-- Such a teardown ends IDLE without a route, and SAFE with one (R88). -/
theorem State.teardownOver_last (hn : u.holdsRoute i = false) : u.teardownOver i = u.modSite i Site.idled := by
  unfold State.teardownOver
  rw [hn]; rfl

theorem State.teardownOver_left (hh : u.holdsRoute i = true) : u.teardownOver i = u.madeSafe i .dischargeTimeout := if_pos hh

/-- It changes the site and the notices alone. -/
theorem State.teardownOver_keeps (hb : u.noBacklog) : (u.teardownOver i).noBacklog ∧
    (u.teardownOver i).fullReset = u.fullReset ∧ (u.teardownOver i).results = u.results ∧
    (u.teardownOver i).sites[i].running = u.sites[i].running ∧
    (u.sites[i].clear = none → (u.teardownOver i).sites[i].clear = none) := by
  cases h : u.holdsRoute i with
  | false =>
    rw [State.teardownOver_last h, State.modSite_get]
    exact ⟨hb, rfl, rfl, rfl, fun _ => rfl⟩
  | true =>
    rw [State.teardownOver_left h, State.madeSafe_site]
    exact ⟨hb.madeSafe i _, State.madeSafe_fullReset _, State.madeSafe_results _, rfl, id⟩

section torn

variable (g : s.RouteGone i l u) (hr : s.sites[i].running = none) (hfull : s.fullReset = false)
  (hc : s.sites[i].clear = none) (hst : s.sites[i].state = .aborting) (hs : u.allStuck i = true)
include g hr hfull hc hst hs

theorem State.RouteGone.abort_ends {q : AbortReq} (ho : s.results.outbound.length < 16)
    (ht : s.sites[i].teardown = some .abort) (hab : s.sites[i].abort = some q) : (u.afterRemoval i).finish =
      .next ((((u.teardownOver i).reply 0x05 q.tag (siteByte i) .ok ([byte (u.teardownOver i).sites[i].state.code,
        byte q.discarded.length] ++ q.discarded)).tornDown i).closeBlock i .ended).transmit := by
  have hsite := g.site
  obtain ⟨hob, hofull, hores, horun, hoclear⟩ := State.teardownOver_keeps (i := i) g.backlog
  refine g.ends_closing hr hfull (State.checkTeardown_ofAbort (by rw [hsite, hst]) (by rw [hsite, ht]) (by rw [hsite, hab])
    (by rw [hsite, hc]) hs g.backlog.1 (g.fullReset.trans hfull)) (hofull.trans (g.fullReset.trans hfull)) hob ?_ ?_ ?_
  · exact horun.trans (by rw [hsite, hr])
  · exact hoclear (by rw [hsite, hc])
  · rw [State.reply_results, hores, g.outbound]; exact ho

theorem State.RouteGone.reset_ends (ht : s.sites[i].teardown = some .runReset) (hab : s.sites[i].abort = none) :
    (u.afterRemoval i).finish = .next ((u.teardownOver i).tornDown i).transmit := by
  have hsite := g.site
  obtain ⟨hob, hofull, -, -, hoclear⟩ := State.teardownOver_keeps (i := i) g.backlog
  have hufull := g.fullReset.trans hfull
  have hclear : ((u.teardownOver i).tornDown i).sites[i].clear = none :=
    (State.tornDown_frame fun t => t.sites[i].clear).trans (hoclear (by rw [hsite, hc]))
  refine g.ends hr hfull ?_ (State.tornDown_fullReset (hofull.trans hufull)) (hob.tornDown i)
  rw [State.checkTeardown_ofReset (by rw [hsite, hst]) (by rw [hsite, ht]) (by rw [hsite, hab]) (by rw [hsite, hc]) hs hufull,
    State.checkClear_none hclear]

end torn

/-! ### The event -/

theorem State.endWait_modLane (f : Lane → Lane) : (s.endWait l).modLane l f = s.modLane l fun x => f { x with wait := none } :=
  State.modLane_modLane _ _ _ _

/-- Once no pin is closed, the next load opens what is closed (R66). -/
theorem Lane.opens_rest {x : Lane} (h : x.pinRelays = []) : x.opens = x.closed := if_pos h

/-- Settles O44: the next load or wait while a relay is closed, else the removal with its five hand-overs, and then the
end of what the owning site has in flight. -/
theorem releaseTimerOpensRoute : Obligations.ReleaseTimerOpensRoute := by
  intro s l t r hb hroute hwait hx i expires opens waits
  have hexpires : expires = (s.releaseExpired l).finish := if_pos hb.1
  have hlane (f : Lane → Lane) : (s.modLane l f).finish = .next (s.modLane l f).transmit :=
    State.finish_noBacklog _ (hb.2.modLane f)
  refine ⟨fun hcl hpins => ?_, fun tag m d pts rest n pt hst hqueue hrun hpt => ?_, fun hcl hst => ?_⟩
  · obtain ⟨hopening, hstuck⟩ := State.releaseExpired_makes hroute hwait hx hcl
    have hrest (x : Lane) (hp : x.pinRelays = []) : ({ x with wait := none } : Lane).opens = x.closed := Lane.opens_rest hp
    have hopens (k : LoadKind) : ((s.endWait l).modLane l (Lane.opensNext k)).finish = .next (opens k) := by
      rw [State.endWait_modLane, hlane]
      exact congrArg (fun v : State => Host.Outcome.next v.transmit)
        (State.modLane_congr (by unfold Lane.opensNext; rw [hrest _ hpins]))
    refine ⟨fun hst hq => ?_, fun hst hq hfull => ?_, fun hst => ?_⟩
    · rw [hexpires, hopening hst, State.openingStep_quiet (by exact hq)]
      exact hopens .opening
    · rw [hexpires, hopening hst, State.openingStep_live (by exact hq) (State.unbounded_of_not_full (by exact hfull)),
        State.endWait_modLane, hlane]
      exact congrArg (fun v : State => Host.Outcome.next v.transmit) (State.modLane_congr (by rw [hrest _ hpins]; rfl))
    · rw [hexpires, hstuck hst, State.hotStep, State.beginLoad_opens]
      exact hopens .hot
  · intro closing
    have htarget : s.switchTarget r.site = some (pt.pin, d) := by
      have hactive : s.active r.site = some (⟨tag, .scan m d pts⟩, .switch, n) := State.active_eq hqueue hrun
      unfold State.switchTarget
      simp only [hactive, hpt, Option.map_some]
    have hclosed : (s.endWait l).lanes[l].closed = s.lanes[l].closed := by
      unfold State.endWait
      rw [State.modLane_get]
    rw [hexpires, State.releaseExpired_switching hroute hwait hx hst htarget, State.switchClose_eq, hclosed]
    refine ⟨fun hp hd => ?_, fun hp hq => ?_, fun hp hq hfull => ?_⟩
    · rw [if_pos hp, State.endWait_startWait, State.startWait_timed hd, hlane]
    · rw [if_neg hp, State.loadWhenQuiet_quiet (by exact hq), State.endWait_modLane, hlane]
      exact congrArg (fun v : State => Host.Outcome.next v.transmit)
        (State.modLane_congr (by simp only [dropRelays_nil]; rfl))
    · rw [if_neg hp, State.loadWhenQuiet_live (by exact hq) (State.unbounded_of_not_full (by exact hfull)),
        State.endWait_modLane, hlane]
      rfl
  · intro obtained freed unclaimed alone removed idle safe left last
    have hremoved (ends : State → State)
        (h : ∀ u, s.RouteGone i l u → (u.afterRemoval i).finish = .next (ends u)) : removed ends := by
      have hgone {u : State} (hu : (s.laneGiven l).freeClaim r.port = u ∧ s.RouteGone i l u) : expires = .next (ends u) :=
        (exec_removes hb hroute hwait hx hcl hst hu.1).trans (h u hu.2)
      refine ⟨fun hret hp => ?_, fun huse => ⟨fun hw hp => ?_, fun w ws hw hi ha hd hp => ?_,
        fun c cs g d e pins rest m hp hi hqueue hrun hpins => ?_⟩⟩
      · exact hgone (State.removal_retires hb.2 i hret hp rfl)
      · exact hgone (State.removal_frees hb.2 i huse hw hp rfl)
      · exact hgone (State.removal_serves hb.2 huse hw hi ha hd hp rfl)
      · intro w granted
        refine ⟨fun hw ha hd => ?_, fun hlive => ?_⟩
        · exact hgone (State.removal_grants (w := w) huse hp hqueue hrun hpins hb.2 hi hw ha hd rfl)
        · exact hgone (State.removal_queues (w := w) huse hp hqueue hrun hpins hb.2 hi hlive rfl)
    clear_value removed
    have hheld {u : State} (g : s.RouteGone i l u) {k : LaneId} {x : Route} (hk : k ≠ l) (hroute : s.lanes[k].route = some x)
        (hi : x.site = i) : u.holdsRoute i = true := g.holdsRoute_iff.mpr ⟨k, x, hk, hroute, hi⟩
    have hnone {u : State} (hlast : last) (g : s.RouteGone i l u) : u.holdsRoute i = false := by
      refine Bool.eq_false_iff.mpr fun h => ?_
      obtain ⟨k, x, hk, hroute, hi⟩ := g.holdsRoute_iff.mp h
      exact hlast k x hk hroute hi
    have hgone {u : State} (hlast : last) (g : s.RouteGone i l u) : u.allStuck i = true :=
      g.allStuck_iff.mpr fun k x hk hroute hi => (hlast k x hk hroute hi).elim
    refine ⟨fun tag h n halone hc hreset => ?_, fun hr hfull ho =>
      ⟨fun c hst hq ht hab hc => ⟨fun hlast => hremoved _ fun u g => ?_,
        fun k x hk hroute hi => ⟨fun h => hremoved _ fun u g => ?_, fun hf hstuck => hremoved _ fun u g => ?_⟩⟩,
      fun hc => ⟨fun k x ht hk hroute hi hst => hremoved _ fun u g => ?_, fun q hst ht hab => ?_,
        fun f hst ht hab hstuck => hremoved _ fun u g => ?_, fun hst ht hab => ⟨fun hlast => hremoved _ fun u g => ?_,
        fun k x hk hroute hi hstuck => hremoved _ fun u g => ?_⟩⟩⟩⟩
    · exact hremoved _ fun u g => g.release halone hc hreset
    · rw [g.clear_last hr hfull hst hc hq ht hab (hnone hlast g)]
      rfl
    · refine g.clear_going hr hfull hst hc (hheld g hk hroute hi) (h.imp_right fun hx => ?_)
      exact Bool.eq_false_iff.mpr fun hs => hx (g.allStuck_iff.mp hs k x hk hroute hi)
    · exact g.clear_plain hr hfull hst hc (hheld g hk hroute hi) hf (g.allStuck_iff.mpr hstuck)
    · exact g.teardown_going hr hfull hc hk hroute hi hst
    · intro answered
      refine ⟨fun hlast => hremoved _ fun u g => ?_, fun k x hk hroute hi hstuck => hremoved _ fun u g => ?_⟩
      · have hcode : byte (u.modSite i Site.idled).sites[i].state.code = 0 := by rw [State.modSite_get]; rfl
        rw [g.abort_ends hr hfull hc hst (hgone hlast g) ho ht hab, State.teardownOver_last (hnone hlast g), hcode]
        rfl
      · have hcode : byte (u.madeSafe i .dischargeTimeout).sites[i].state.code = 6 := by rw [State.madeSafe_site]; rfl
        rw [g.abort_ends hr hfull hc hst (g.allStuck_iff.mpr hstuck) ho ht hab,
          State.teardownOver_left (hheld g hk hroute hi), hcode]
        rfl
    · exact g.fault_ends hr hfull hc ho hst ht hab (g.allStuck_iff.mpr hstuck)
    · rw [g.reset_ends hr hfull hc hst (hgone hlast g) ht hab, State.teardownOver_last (hnone hlast g)]
      rfl
    · rw [g.reset_ends hr hfull hc hst (g.allStuck_iff.mpr hstuck) ht hab, State.teardownOver_left (hheld g hk hroute hi)]
      rfl

end Sys2Proof.Machine
end

section
set_option Elab.async false
/-! # The lane monitors' inputs: OVER and LIVE (O47, O49) -/

namespace Sys2Proof.Machine

variable {s : State} {i : SiteId} {l : LaneId} {r : Route} {t : Option Timer} {n : Nat}

/-! ### OVER (R81, R82, R84) -/

/-- An episode starts where OVER reads high on a lane that holds a route, unless it has one or its latch is set (R81). -/
theorem State.startEpisode_starts (hst : s.lanes[l].state = .inUse ∨ s.lanes[l].state = .retiring)
    (hover : s.pins.overIn[l] = true) (hlatch : s.lanes[l].latch = false) (hep : s.lanes[l].episode = none)
    (hd : Duration.count s.ocPersist ≠ 0) :
    s.startEpisode l = s.modLane l fun x => { x with episode := some (Timer.begin s.ocPersist s.time.now) } := by
  have huse : (decide (s.lanes[l].state = .inUse) || decide (s.lanes[l].state = .retiring)) = true := by simpa using hst
  unfold State.startEpisode State.pushIfZero
  simp only [huse, hover, hlatch, hep, Bool.not_false, Option.isNone_none, Bool.and_self, if_true, if_neg hd]

/-- A lane without a route, or with its latch set, starts no episode (R81, R84). -/
theorem State.startEpisode_none (h : s.lanes[l].state = .free ∨ s.lanes[l].state = .retired ∨ s.lanes[l].latch = true) :
    s.startEpisode l = s := by
  refine if_neg (Bool.eq_false_iff.mp ?_)
  rcases h with h | h | h <;> rw [h] <;> simp

theorem State.overRises_low (h : s.pins.overIn[l] = false) :
    s.overRises l = (s.modPins fun p => { p with overIn := upd p.overIn l fun _ => true }).startEpisode l := by
  unfold State.overRises
  rw [h]; rfl

/-- An input that reads high already does not rise. -/
theorem State.overRises_high (h : s.pins.overIn[l] = true) :
    s.overRises l = s.modPins fun p => { p with overIn := upd p.overIn l fun _ => true } := by
  unfold State.overRises
  rw [if_pos h]
  unfold State.modPins
  simp only [upd_id s.pins.overIn l (fun _ => true) h.symm]

/-- Settles O49: a rise by the lane's state, its latch and what the input read before; a fall in every case. -/
theorem overInput : Obligations.OverInput := by
  intro s l hb
  have hrise : exec (.overRise l) s = (s.overRises l).finish := if_pos hb.1
  refine ⟨fun hst hlow hlatch hep hd => ?_, fun hst => ?_, inputEvent_next _ _ s hb.1 hb.2⟩
  · have hhigh : (s.modPins fun p => { p with overIn := upd p.overIn l fun _ => true }).pins.overIn[l] = true := by
      rw [State.modPins_pins, upd_get, if_pos rfl]
    rw [hrise, State.overRises_low hlow, State.startEpisode_starts (by exact hst) hhigh (by exact hlatch) (by exact hep)
      (by exact hd)]
    exact State.finish_noBacklog _ hb.2
  · have hnone : s.overRises l = s.modPins fun p => { p with overIn := upd p.overIn l fun _ => true } := by
      cases hover : s.pins.overIn[l] with
      | true => exact State.overRises_high hover
      | false => exact (State.overRises_low hover).trans (State.startEpisode_none (by exact hst))
    rw [hrise, hnone]
    exact State.finish_noBacklog _ hb.2

/-! ### LIVE (R75, R77) -/

/-- The part with a lane that reads quiet (R75). -/
def State.readsQuiet (l : LaneId) (s : State) : State := s.modPins fun p => { p with live := upd p.live l fun _ => false }

theorem State.readsQuiet_isLive (s : State) (l : LaneId) : (s.readsQuiet l).isLive l = false := by
  unfold State.readsQuiet State.isLive
  rw [State.modPins_pins, upd_get, if_pos rfl]

theorem State.liveFalls_live (h : s.isLive l = true) : s.liveFalls l = (s.readsQuiet l).quietEffects l := if_pos h

/-- An input that reads quiet already does not fall. -/
theorem State.liveFalls_quiet (h : s.isLive l = false) : s.liveFalls l = s := by
  unfold State.liveFalls
  rw [h]; rfl

/-- The load that waits for quiet begins (R77). -/
theorem State.quietEffects_load {ld : Load} (hq : s.lanes[l].quiet = some ⟨.load ld, t⟩) :
    s.quietEffects l = s.beginLoad l ld := by
  unfold State.quietEffects
  simp only [hq]

/-- The disarm that waits for quiet is complete (R80). -/
theorem State.quietEffects_disarm (hq : s.lanes[l].quiet = some ⟨.disarm, t⟩) (hr : s.lanes[l].route = some r) :
    s.quietEffects l = (s.modLane l fun x => { x with quiet := none }).disarmQuiet l r.site := by
  unfold State.quietEffects
  simp only [hq, hr]

/-- The STUCK route that waits for quiet opens (R73). -/
theorem State.quietEffects_unstick (hq : s.lanes[l].quiet = some ⟨.unstick, t⟩) : s.quietEffects l = s.enterOpening l := by
  unfold State.quietEffects
  simp only [hq]

/-- A FREE lane goes to the lane waiters (R61). -/
theorem State.quietEffects_none (hq : s.lanes[l].quiet = none) :
    s.quietEffects l = if s.lanes[l].state = .free then s.serveLaneWaiters else s := by
  unfold State.quietEffects
  simp only [hq]

/-- A disarmed route opens in a teardown and in a RELEASE (R65, R86). -/
theorem State.disarmQuiet_opens (h : s.tearing i = true ∨ ∃ (st : Step) (n : Nat), s.active i = some (st, .releasing, n)) :
    s.disarmQuiet l i = s.enterOpening l := by
  unfold State.disarmQuiet
  split
  · rfl
  · next ht =>
    obtain ⟨st, n, ha⟩ := h.resolve_left ht
    rw [ha]

/-- What opens a disarmed or STUCK route on a lane that has come to read quiet (R65, R73, R86). -/
theorem State.quietEffects_opens (hr : s.lanes[l].route = some r) (hlive : r.state ≠ .live) (hquiet : s.isLive l = false)
    (h : s.lanes[l].quiet = some ⟨.unstick, t⟩ ∨ s.lanes[l].quiet = some ⟨.disarm, t⟩ ∧
      (s.tearing r.site = true ∨ ∃ (st : Step) (n : Nat), s.active r.site = some (st, .releasing, n))) :
    s.quietEffects l = s.modLane l (Lane.opensRoute r) := by
  rcases h with hw | ⟨hw, hopens⟩
  · rw [State.quietEffects_unstick hw, State.enterOpening_of_quiet hr hlive hquiet]
  · rw [State.quietEffects_disarm hw hr, State.disarmQuiet_opens (s := s.modLane l _) (by exact hopens),
      State.enterOpening_of_quiet (r := r) (by rw [State.modLane_get]; exact hr) hlive (by exact hquiet), State.modLane_modLane]
    rfl

/-- A DISARM returns its route to READY and ends OK (R80). -/
theorem State.disarmQuiet_disarms {st : Step} (ht : s.tearing i = false) (ha : s.active i = some (st, .disarming, n)) :
    s.disarmQuiet l i = (s.setRoute l .ready).endOk i := by
  unfold State.disarmQuiet
  simp only [ht, ha, Bool.false_eq_true, if_false]

/-- Settles O47: a fall by what waits for quiet on the lane, and by who waits for a lane. -/
theorem liveInput : Obligations.LiveInput := by
  intro s l hb quiet opens opened obtained
  refine ⟨inputEvent_next _ _ s hb.1 hb.2, fun hq => ?_, fun hq => ?_⟩
  · have hfall : exec (.liveFall l) s = (s.liveFalls l).finish := if_pos hb.1
    rw [hfall, State.liveFalls_quiet hq]
    exact State.finish_noBacklog s hb.2
  · have hquiet : quiet.isLive l = false := State.readsQuiet_isLive s l
    have hfall : exec (.liveFall l) s = (quiet.quietEffects l).finish :=
      (if_pos hb.1 : _ = (s.liveFalls l).finish).trans (congrArg State.finish (State.liveFalls_live hq))
    have hopens {r : Route} (h : quiet.quietEffects l = quiet.modLane l (Lane.opensRoute r)) :
        exec (.liveFall l) s = .next (opened r) := by
      rw [hfall, h, State.finish_noBacklog _ (State.noBacklog.modLane (s := quiet) hb.2 _)]
      exact congrArg (fun v : State => Host.Outcome.next v.transmit) (State.modLane_congr rfl)
    refine ⟨fun ld t hw => ?_, fun t r hw hr hlive => ⟨fun ht => ?_, fun st rest n ht hqueue hrun => ?_, fun tag h n halone => ?_⟩,
      fun t r hw hr hlive => ?_, fun hw h => ?_, fun w ws hw hst hws ho hd => ?_⟩
    · rw [hfall, State.quietEffects_load (s := quiet) hw]
      exact State.finish_noBacklog _ hb.2
    · exact hopens (State.quietEffects_opens (s := quiet) hr hlive hquiet (.inr ⟨hw, .inl ht⟩))
    · exact hopens (State.quietEffects_opens (s := quiet) hr hlive hquiet
        (.inr ⟨hw, .inr ⟨st, n, State.active_eq hqueue hrun⟩⟩))
    · have ⟨hqueue, hrun, hst, _⟩ := halone
      have ht : s.tearing r.site = false := State.tearing_eq_false (by rw [hst]; decide) (by rw [hst]; decide)
      have hready : (quiet.modLane l fun x => { x with quiet := none }).setRoute l .ready =
          quiet.modLane l fun x => { x with quiet := none, route := some { r with state := .ready } } := by
        rw [State.setRoute_of_route (r := r) (by decide) (by rw [State.modLane_get]; exact hr),
          State.disarmRoute_of_not_live (r := r) (by rw [State.modLane_get]; exact hr) hlive, State.modLane_modLane]
      rw [hfall, State.quietEffects_disarm (s := quiet) hw hr,
        State.disarmQuiet_disarms (s := quiet.modLane l _) (by exact ht) (by exact State.active_eq hqueue hrun), hready]
      exact State.endOk_alone_finish (s := quiet.modLane l _) hb.2 halone
    · exact hopens (State.quietEffects_opens (s := quiet) hr hlive hquiet (.inl hw))
    · have hstays : quiet.quietEffects l = quiet := by
        rw [State.quietEffects_none (s := quiet) hw]
        rcases h with hst | hws
        · exact if_neg hst
        · rw [State.serveLaneWaiters_none (s := quiet) (.inl hws), ite_self]
      rw [hfall, hstays]
      exact State.finish_noBacklog _ hb.2
    · have hothers (k : LaneId) (hk : k ≠ l) (hfree : quiet.lanes[k].state = .free) : quiet.pins.live[k] = true := by
        rw [State.modPins_pins, upd_get, if_neg hk.symm]
        exact ho k hk hfree
      rw [hfall, State.quietEffects_none (s := quiet) hw, if_pos (by exact hst),
        State.serveLaneWaiters_alone (s := quiet) hws hst hquiet hothers hd]
      exact State.finish_noBacklog _ hb.2

end Sys2Proof.Machine
end


section
set_option Elab.async false
/-! # A discharge timeout in a CLEAR and in a teardown (O48) -/

namespace Sys2Proof.Machine

variable {s u : State} {i : SiteId} {l : LaneId} {r : Route} {t : Timer} {a : QuietAction} {f : Failure}

/-! ### The route that becomes STUCK (R78) -/

/-- The lane of a route that has become STUCK. -/
def Lane.sticks (r : Route) (x : Lane) : Lane := { x with quiet := none, route := some { r with state := .stuck } }

/-- The expiry leaves the route STUCK and hands over to its site's teardown, CLEAR or step (R78, R79). -/
theorem State.dischargeExpired_eq (hr : s.lanes[l].route = some r) (hq : s.lanes[l].quiet = some ⟨a, some t⟩)
    (hlive : r.state ≠ .live) (hx : t.expiry ≤ s.time.now) : s.dischargeExpired l =
      if s.tearing r.site then (s.modLane l (Lane.sticks r)).checkTeardown r.site
      else if (s.sites[r.site].clear).isSome then (s.modLane l (Lane.sticks r)).checkClear r.site
      else (s.modLane l (Lane.sticks r)).takeFault r.site .dischargeTimeout := by
  have htimer : s.lanes[l].dischargeTimer = some t := by unfold Lane.dischargeTimer; rw [hq]; rfl
  have hstuck : (s.modLane l fun x => { x with quiet := none }).setRoute l .stuck = s.modLane l (Lane.sticks r) := by
    rw [State.setRoute_of_route (r := r) (by decide) (by rw [State.modLane_get]; exact hr),
      State.disarmRoute_of_not_live (r := r) (by rw [State.modLane_get]; exact hr) hlive, State.modLane_modLane]
    rfl
  unfold State.dischargeExpired
  rw [htimer, State.expired_of_le hx, hr]
  simp only [hstuck]
  rfl

theorem State.sticks_route_iff {k : LaneId} {x : Route} : (s.modLane l (Lane.sticks r)).lanes[k].route = some x ↔
    k = l ∧ x = { r with state := .stuck } ∨ k ≠ l ∧ s.lanes[k].route = some x := by
  rw [State.modLane_lanes, upd_get]
  split
  · next h => subst h; simp [Lane.sticks, eq_comm]
  · next h => simp [Ne.symm h]

theorem State.sticks_holdsRoute : (s.modLane l (Lane.sticks r)).holdsRoute r.site = true :=
  State.holdsRoute_iff.mpr ⟨l, _, State.sticks_route_iff.mpr (.inl ⟨rfl, rfl⟩), rfl⟩

/-- Every route of the site is STUCK now where every other one is. -/
theorem State.sticks_allStuck_iff : (s.modLane l (Lane.sticks r)).allStuck r.site = true ↔
    ∀ (k : LaneId) (x : Route), k ≠ l → s.lanes[k].route = some x → x.site = r.site → x.state = .stuck := by
  rw [State.allStuck_iff]
  refine forall_congr' fun k => forall_congr' fun x => ⟨fun h hk hx => h (State.sticks_route_iff.mpr (.inr ⟨hk, hx⟩)),
    fun h hx hs => ?_⟩
  rcases State.sticks_route_iff.mp hx with ⟨-, rfl⟩ | ⟨hk, hx⟩
  · rfl
  · exact h hk hx hs

/-! ### A teardown that ends with STUCK routes (R18, R88) -/

theorem State.tearing_of (h : s.sites[i].state = .aborting ∨ s.sites[i].state = .safing) : s.tearing i = true := by
  unfold State.tearing
  rcases h with h | h <;> rw [h] <;> rfl

/-- A site that counts as torn down while a RESET waits for another (R88). -/
theorem State.siteEnded_left {q : ResetReq} (hq : s.resetReq = some q) (hp : q.phase = .teardown) (hi : i ∈ q.waiting)
    (ho : ∃ j ∈ q.waiting, j ≠ i) : s.siteEnded i = { s with resetReq := some { q with
      waiting := q.waiting.filter fun j => decide (j ≠ i), ends := q.ends.set i s.sites[i].state } } := by
  have hleft : (q.waiting.filter fun j => decide (j ≠ i)).isEmpty = false := by
    obtain ⟨j, hj, hne⟩ := ho
    exact List.isEmpty_eq_false_iff_exists_mem.mpr ⟨j, List.mem_filter.mpr ⟨hj, decide_eq_true hne⟩⟩
  have hwaits : q.waiting.contains i = true := List.contains_iff_mem.mpr hi
  unfold State.siteEnded
  simp only [hq, hp, hwaits, hleft, decide_true, Bool.and_self, if_true, Bool.false_eq_true, if_false]

theorem State.tornDown_none (h : s.resetReq = none) : s.tornDown i = s := by
  unfold State.tornDown
  rw [h]

theorem State.answerAbort_push (k : Task) : (s.push k).answerAbort i = (s.answerAbort i).push k := by
  unfold State.answerAbort
  rw [State.push_sites]
  cases s.sites[i].abort <;> rfl

theorem State.enterSafe_site : (u.enterSafe i f).sites[i] =
    { u.sites[i] with state := .safe, stopCause := some f, teardown := none } := by
  unfold State.enterSafe
  rw [State.notice_sites, State.modSite_get]

/-- An ABORT at a site made SAFE is answered with that state and the kept tags (R18). -/
theorem State.answerAbort_safe {q : AbortReq} (hab : u.sites[i].abort = some q) : (u.enterSafe i f).answerAbort i =
    (u.madeSafe i f).reply 0x05 q.tag (siteByte i) .ok ([6, byte q.discarded.length] ++ q.discarded) := by
  unfold State.answerAbort
  simp only [State.enterSafe_site, hab, State.madeSafe_eq]
  rfl

/-- Without an ABORT in flight nothing is answered. -/
theorem State.answerAbort_none (hab : u.sites[i].abort = none) : (u.enterSafe i f).answerAbort i = u.madeSafe i f := by
  have hsame : (u.enterSafe i f).modSite i (fun x => { x with abort := none }) = u.enterSafe i f :=
    State.modSite_id (by simp only [State.enterSafe_site, hab])
  rw [← State.madeSafe_eq, hsame]
  unfold State.answerAbort
  simp only [State.enterSafe_site, hab]

section stuck

variable (hs : u.allStuck i = true) (hh : u.holdsRoute i = true)
include hs hh

/-- An ABORT's teardown ends SAFE where a route stays STUCK, and the ABORT is answered (R18, R88). -/
theorem State.checkTeardown_abortStuck {q : AbortReq} (hst : u.sites[i].state = .aborting)
    (ht : u.sites[i].teardown = some .abort) (hab : u.sites[i].abort = some q) (ha : u.agenda = [])
    (hreset : u.resetReq = none) : u.checkTeardown i = ((u.madeSafe i .dischargeTimeout).reply 0x05 q.tag (siteByte i) .ok
      ([6, byte q.discarded.length] ++ q.discarded)).push (.closure i .ended) := by
  have hagenda : (u.enterSafe i .dischargeTimeout).agenda = [] := by unfold State.enterSafe; rw [State.notice_agenda]; exact ha
  unfold State.checkTeardown
  simp only [State.tearing_of (.inl hst), hs, hh, ht, Bool.and_self, if_true]
  rw [State.noteClosure_calm hagenda, State.answerAbort_push, State.answerAbort_safe hab]
  refine State.siteEnded_none ?_
  unfold State.madeSafe
  rw [State.push_resetReq, State.reply_resetReq, State.notice_resetReq]
  exact hreset

/-- A RUN reset's teardown ends SAFE where a route stays STUCK, and the site counts as torn down (R88, R89). -/
theorem State.checkTeardown_resetStuck (hst : u.sites[i].state = .aborting) (ht : u.sites[i].teardown = some .runReset)
    (hab : u.sites[i].abort = none) : u.checkTeardown i = (u.madeSafe i .dischargeTimeout).siteEnded i := by
  unfold State.checkTeardown
  simp only [State.tearing_of (.inl hst), hs, hh, ht, Bool.and_self, if_true]
  exact congrArg (State.siteEnded i) (State.answerAbort_none hab)

end stuck

end Sys2Proof.Machine
end


section
set_option Elab.async false
/-! # A step that fails at a discharge timeout (O48) -/

namespace Sys2Proof.Machine

variable {s t u : State} {i : SiteId} {l : LaneId} {r : Route} {f : Failure} {d : DoneFrame} {st : Step} {rest : List Step}
  {ph : Phase} {n : Nat}

/-! ### The hand-over of a site with STUCK routes (R85) -/

/-- An action that leaves the state at each entry of a list leaves it over the whole list. -/
theorem forEach_fixed {α : Type} {g : α → State → State} {as : List α} (h : ∀ a ∈ as, g a s = s) : forEach as g s = s := by
  induction as with
  | nil => rfl
  | cons a as ih =>
    rw [forEach_cons, h a List.mem_cons_self]
    exact ih fun b hb => h b (List.mem_cons_of_mem a hb)

theorem forEach_append {α : Type} (g : α → State → State) (as bs : List α) (s : State) :
    forEach (as ++ bs) g s = forEach bs g (forEach as g s) := List.foldl_append

/-- A STUCK route is left as it is (R86). -/
theorem State.handOver_stuck (hr : s.lanes[l].route = some r) (hst : r.state = .stuck) : s.handOver l = s := by
  unfold State.handOver
  simp only [hr, hst]

/-- A site without a LIVE route has no arm line to deassert (R37). -/
theorem State.disarmAll_none (h : ∀ (k : LaneId) (x : Route), s.lanes[k].route = some x → x.site = i → x.state ≠ .live) :
    s.disarmAll i = s := by
  refine forEach_fixed fun k hk => ?_
  obtain ⟨x, hx, hi⟩ := State.mem_routeLanes.mp hk
  exact State.disarmRoute_of_not_live hx (h k x hx hi)

/-- A site whose routes are all STUCK hands nothing over. -/
theorem State.handOverAll_stuck (hs : s.allStuck i = true) (hp : s.routelessPorts i = []) : s.handOverAll i = s := by
  have hstuck := State.allStuck_iff.mp hs
  have hdisarm : s.disarmAll i = s := State.disarmAll_none fun k x hx hi => by rw [hstuck k x hx hi]; decide
  have hroutes : forEach (s.routeLanes i) State.handOver s = s := forEach_fixed fun k hk => by
    obtain ⟨x, hx, hi⟩ := State.mem_routeLanes.mp hk
    exact State.handOver_stuck hx (hstuck k x hx hi)
  unfold State.handOverAll
  simp only [hdisarm, hroutes, hp]
  rfl

theorem State.routeLanes_nodup : (s.routeLanes i).Nodup :=
  List.Nodup.filter _ (by decide : allLanes.Nodup)

/-- Beside STUCK routes, a READY route on a quiet lane is handed over into OPENING (R86). -/
theorem State.handOverAll_beside (hr : s.lanes[l].route = some r) (hi : r.site = i) (hst : r.state = .ready)
    (hq : s.isLive l = false) (hp : s.routelessPorts i = [])
    (ho : ∀ (k : LaneId) (x : Route), k ≠ l → s.lanes[k].route = some x → x.site = i → x.state = .stuck) :
    s.handOverAll i = s.modLane l (Lane.opensRoute r) := by
  have hdisarm : s.disarmAll i = s := State.disarmAll_none fun k x hx hxi => by
    by_cases hk : k = l
    · subst hk; rw [hr] at hx; cases hx; rw [hst]; decide
    · rw [ho k x hk hx hxi]; decide
  have hopens : s.handOver l = s.modLane l (Lane.opensRoute r) := by
    unfold State.handOver
    simp only [hr, hst]
    exact State.enterOpening_of_quiet hr (by rw [hst]; decide) hq
  have howners : s.sameOwners (s.modLane l (Lane.opensRoute r)) := State.modLane_sameOwners (by rw [hr]; rfl)
  have hroutes : forEach (s.routeLanes i) State.handOver s = s.modLane l (Lane.opensRoute r) := by
    obtain ⟨as, bs, hsplit⟩ := List.append_of_mem (State.mem_routeLanes.mpr ⟨r, hr, hi⟩)
    have hnodup := State.routeLanes_nodup (s := s) (i := i)
    rw [hsplit, List.nodup_middle, List.nodup_cons, List.mem_append, not_or] at hnodup
    obtain ⟨⟨has, hbs⟩, -⟩ := hnodup
    have hother {k : LaneId} (hk : k ∈ as ++ l :: bs) (hne : k ≠ l) :
        ∃ x : Route, s.lanes[k].route = some x ∧ x.state = .stuck := by
      obtain ⟨x, hx, hxi⟩ := State.mem_routeLanes.mp (hsplit ▸ hk)
      exact ⟨x, hx, ho k x hne hx hxi⟩
    rw [hsplit, forEach_append, forEach_cons, forEach_fixed (as := as), hopens, forEach_fixed]
    · intro k hk
      have hne : k ≠ l := fun e => hbs (e ▸ hk)
      obtain ⟨x, hx, hstuck⟩ := hother (List.mem_append_right as (List.mem_cons_of_mem l hk)) hne
      exact State.handOver_stuck (r := x) (by rw [State.modLane_lanes, upd_get, if_neg hne.symm]; exact hx) hstuck
    · intro k hk
      obtain ⟨x, hx, hstuck⟩ := hother (List.mem_append_left _ hk) fun e => has (e ▸ hk)
      exact State.handOver_stuck hx hstuck
  have hports : (s.modLane l (Lane.opensRoute r)).routelessPorts i = [] := (howners.routelessPorts fun _ => rfl).trans hp
  unfold State.handOverAll
  simp only [hdisarm, hroutes, hports]
  rfl

/-! ### The running step carries the fault (R12, R17, R136) -/

/-- The part once a site's running step has been ended by a fault: its DONE in the completion queue, the site SAFING, the
reserved place of a switch given back. -/
def State.stepFailed (i : SiteId) (d : DoneFrame) (ph : Phase) (f : Failure) (s : State) : State :=
  ((s.modLink fun k => { k with completion := k.completion ++ [d] }).modSite i fun x =>
    { x with queue := [], running := none, held := false, stopCause := none, state := .safing,
             teardown := some (.fault f) }).modRes i fun x => { x with reserved := x.reserved && decide (ph ≠ .switch) }

/-- The same while its DONE is still to be handled. -/
def State.stepFailing (i : SiteId) (st : Step) (ph : Phase) (n : Nat) (f : Failure) (s : State) : State :=
  (s.modSite i fun x =>
    { x with queue := [st], running := some ⟨.ended, n⟩, held := false, stopCause := none, state := .safing,
             teardown := some (.fault f) }).modRes i fun x => { x with reserved := x.reserved && decide (ph ≠ .switch) }

theorem State.stepFailing_site : (s.stepFailing i st ph n f).sites[i] = { s.sites[i] with
    queue := [st], running := some ⟨.ended, n⟩, held := false, stopCause := none, state := .safing,
    teardown := some (.fault f) } := State.modSite_get _ _ _

/-- Its DONE completes the failure. -/
theorem State.stepFailing_done : ((s.stepFailing i st ph n f).modLink fun k =>
    { k with completion := k.completion ++ [d] }).modSite i (fun x => { x with queue := x.queue.tail, running := none }) =
      s.stepFailed i d ph f := by
  unfold State.stepFailing State.stepFailed
  simp only [State.modSite, State.modLink, State.modRes, upd_upd]
  rfl

/-- Stopped in its quiet wait a DISARM or RELEASE leaves nothing behind; a switch gives its reserved place back. -/
theorem State.stopRunning_quieting (hq : s.sites[i].queue = st :: rest) (hr : s.sites[i].running = some ⟨.active ph, n⟩)
    (hph : ph = .disarming ∨ ph = .releasing ∨ ph = .switch) :
    s.stopRunning i = s.modRes i fun x => { x with reserved := x.reserved && decide (ph ≠ .switch) } := by
  unfold State.stopRunning
  rw [State.active_eq hq hr]
  rcases hph with rfl | rfl | rfl
  · exact (State.modRes_id (by simp)).symm
  · exact (State.modRes_id (by simp)).symm
  · exact State.modRes_congr (by simp)

theorem State.carryFault_quieting (f : Failure) (hq : s.sites[i].queue = st :: rest)
    (hr : s.sites[i].running = some ⟨.active ph, n⟩) (hph : ph = .disarming ∨ ph = .releasing ∨ ph = .switch) :
    s.carryFault i f =
      (s.stepFailing i st ph n f).push (.done (makeDone i st n .failed (some f) none (rest.map Step.tag))) := by
  unfold State.carryFault
  rw [State.stopRunning_quieting hq hr hph]
  simp only [hq, hr, State.modSite_modSite]
  rw [State.finishStep_eq (st := st) (rest := []) (r := ⟨.active ph, n⟩) _ _ _ _ (by rw [State.modSite_get])
    (by rw [State.modSite_get]; exact hr), State.modSite_modSite]
  rfl

/-! ### The fault's teardown -/

theorem State.enterSafe_push (k : Task) : (s.push k).enterSafe i f = (s.enterSafe i f).push k := by
  unfold State.enterSafe
  rw [State.push_modSite, State.notice_eq, State.notice_eq]
  rfl

theorem State.enterSafe_agenda : (s.enterSafe i f).agenda = s.agenda := by
  unfold State.enterSafe
  rw [State.notice_agenda, State.modSite_agenda]

/-- A fault's teardown ends where each route is STUCK, the closing of the site's block to come (R88, R140). -/
theorem State.checkTeardown_faultStuck (hst : s.sites[i].state = .safing) (ht : s.sites[i].teardown = some (.fault f))
    (hs : s.allStuck i = true) (hc : s.closing i = false) (hreset : s.resetReq = none) :
    s.checkTeardown i = (s.enterSafe i f).push (.closure i .ended) := by
  have hclosing : (s.enterSafe i f).closing i = false := by
    unfold State.closing
    rw [State.enterSafe_agenda]
    exact hc
  unfold State.checkTeardown
  simp only [State.tearing_of (.inr hst), hs, ht, Bool.and_self, if_true]
  rw [State.noteClosure_push _ hclosing]
  refine State.siteEnded_none ?_
  unfold State.enterSafe
  rw [State.push_resetReq, State.notice_resetReq]
  exact hreset

section fails

variable (hb : u.noBacklog) (hst : u.sites[i].state = .running) (hq : u.sites[i].queue = st :: rest)
  (hr : u.sites[i].running = some ⟨.active ph, n⟩) (hph : ph = .disarming ∨ ph = .releasing ∨ ph = .switch)
  (hc : u.sites[i].carried = []) (hfree : u.link.completion.length < 16) (hp : u.routelessPorts i = [])
  (hd : makeDone i st n .failed (some f) none (rest.map Step.tag) = d)
include hb hst hq hr hph hc hfree hp hd

/-- Where each route is STUCK the site is SAFE at once (R79, R88). -/
theorem State.takeFault_stuck_finish (hs : u.allStuck i = true) (hreset : u.resetReq = none)
    (hout : u.results.outbound.length < 16) : (u.takeFault i f).finish =
      .next (((u.stepFailed i d ph f).enterSafe i f).closeBlock i .ended).transmit := by
  obtain ⟨ha, hslots, hwait, hclosed⟩ := hb
  have hsite : d.site = i := by rw [← hd]; rfl
  generalize hv : u.stepFailing i st ph n f = v
  have hvsite : v.sites[i] = _ := hv ▸ State.stepFailing_site
  have hva : v.agenda = [] := hv ▸ ha
  have hvs : (v.push (.done d)).allStuck i = true := hv ▸ hs
  have hvp : (v.push (.done d)).routelessPorts i = [] := hv ▸ hp
  have htaken : u.takeFault i f = ((v.enterSafe i f).push (.done d)).push (.closure i .ended) := by
    rw [State.takeFault_open f (.inr (.inl hst)), State.carryFault_quieting f hq hr hph, hd, hv]
    unfold State.beginTeardown
    rw [State.handOverAll_stuck hvs hvp, State.checkTeardown_faultStuck _ _ hvs _ (hv ▸ hreset), State.enterSafe_push]
    · rw [State.push_sites, hvsite]
    · rw [State.push_sites, hvsite]
    · unfold State.closing
      rw [State.push_agenda, hva]
      rfl
  have hlink {β : Type} (g : Link → β) (h : ∀ (k : Link) (w : Vector (Option NoticeEntry) 9),
      g { k with notices := w } = g k) : g (v.enterSafe i f).link = g u.link := by
    unfold State.enterSafe
    rw [State.notice_link_frame g h, ← hv]
    rfl
  have hend : (((v.enterSafe i f).modLink fun k => { k with completion := k.completion ++ [d] }).modSite i fun x =>
      { x with queue := x.queue.tail, running := none }) = (u.stepFailed i d ph f).enterSafe i f := by
    unfold State.enterSafe
    rw [State.modLink_completion_notice, State.notice_modSite, ← State.stepFailing_done (st := st) (n := n), hv]
    congr 1
    simp only [State.modSite, State.modLink, upd_upd]
  rw [htaken]
  refine State.finish_of_drain_noBacklog ((drain_done_closure .ended 4094 hsite ?_ ?_ ?_ ?_ ?_ ?_).trans ?_) ?_
  · rw [State.enterSafe_agenda]; exact hva
  · rw [hlink Link.completion fun _ _ => rfl]; exact hfree
  · rw [hlink Link.doneWaiting fun _ _ => rfl]; exact hwait
  · rw [State.enterSafe_site, hvsite]; exact hc
  · rw [State.enterSafe_site]; exact nofun
  · rw [State.enterSafe_site]; exact nofun
  · rw [hend]
  · rw [← hend, State.closeBlock_eq]
    refine ⟨State.enterSafe_agenda.trans hva, ?_, ?_, ?_⟩
    · exact (hlink Link.slots fun _ _ => rfl).trans hslots
    · exact (hlink Link.doneWaiting fun _ _ => rfl).trans hwait
    · have hres : (v.enterSafe i f).results.waiting = [] ∧ (v.enterSafe i f).results.outbound.length < 16 := by
        unfold State.enterSafe
        rw [State.notice_results, ← hv]
        exact ⟨hclosed, hout⟩
      exact closedResults_waiting hres.1 hres.2

/-- Beside a READY route on a quiet lane the site stays SAFING, and that route opens (R79, R86). -/
theorem State.takeFault_beside_finish (hroute : u.lanes[l].route = some r) (hi : r.site = i) (hready : r.state = .ready)
    (hquiet : u.isLive l = false)
    (ho : ∀ (k : LaneId) (x : Route), k ≠ l → u.lanes[k].route = some x → x.site = i → x.state = .stuck) :
    (u.takeFault i f).finish = .next ((u.stepFailed i d ph f).modLane l (Lane.opensRoute r)).transmit := by
  obtain ⟨ha, hslots, hwait, hclosed⟩ := hb
  have hsite : d.site = i := by rw [← hd]; rfl
  generalize hv : u.stepFailing i st ph n f = v
  have hvsite : v.sites[i] = _ := hv ▸ State.stepFailing_site
  have htaken : u.takeFault i f = (v.modLane l (Lane.opensRoute r)).push (.done d) := by
    rw [State.takeFault_open f (.inr (.inl hst)), State.carryFault_quieting f hq hr hph, hd, hv]
    subst hv
    unfold State.beginTeardown
    rw [State.handOverAll_beside (s := (u.stepFailing i st ph n f).push (.done d)) hroute hi hready hquiet hp ho]
    refine State.checkTeardown_going (l := l) (r := { r with state := .opening }) ?_ (by rw [State.modLane_get]; rfl) nofun
    exact State.mem_routeLanes.mpr ⟨{ r with state := .opening }, by rw [State.modLane_get]; rfl, hi⟩
  have hend : (((v.modLane l (Lane.opensRoute r)).modLink fun k => { k with completion := k.completion ++ [d] }).modSite i
      fun x => { x with queue := x.queue.tail, running := none }) =
      (u.stepFailed i d ph f).modLane l (Lane.opensRoute r) := by
    rw [← State.stepFailing_done (st := st) (n := n), hv]
    rfl
  rw [htaken]
  subst hv
  refine State.finish_of_drain_noBacklog
    ((drain_done_stays 4095 hsite (by exact ha) (by exact hfree) (by exact hwait) ?_ ?_).trans hend) ?_
  · exact (congrArg Site.carried hvsite).trans hc
  · exact congrArg Site.state hvsite
  · exact ⟨ha, hslots, hwait, hclosed⟩

end fails

end Sys2Proof.Machine
end


section
set_option Elab.async false
/-! # An overcurrent episode's expiry (O48) -/

namespace Sys2Proof.Machine

variable {s u : State} {i : SiteId} {l : LaneId} {r : Route} {t : Timer} {f : Failure} {tag : Byte} {d : Duration}
  {rest : List Step} {n : Nat}

/-! ### The count of overcurrent faults (R83, R153) -/

/-- What the figures of HEALTH and the store's writes leave, the count of overcurrent faults leaves. -/
theorem State.countOvercurrent_frame {β : Type} (g : State → β)
    (hrecord : ∀ f : Health → Health, g (s.modHealth f) = g s := by exact fun _ => rfl)
    (hstore : ∀ (f : Store → Store) (t : State), (f t.store).config = t.store.config → g (t.modStore f) = g t := by
      exact fun _ _ _ => rfl)
    (hwear : ∀ (l : LaneId) (t : State), g (t.modWear l fun x => { x with unsaved := 0 }) = g t := by exact fun _ _ => rfl) :
    g s.countOvercurrent = g s :=
  (State.healthDue_frame g hstore hwear _ _).trans (hrecord _)

theorem State.countOvercurrent_record (s : State) : s.countOvercurrent.health.record =
    { s.health.record with ocFaults := satAdd s.health.record.ocFaults 1 } :=
  State.healthDue_frame (fun v => v.health.record) (fun _ _ _ => rfl) (fun _ _ => rfl) _ _

/-- The lane that has faulted: its episode has ended, its latch is set (R83). -/
def Lane.faulted (x : Lane) : Lane := { x with episode := none, latch := true }

/-- The part once a lane has faulted, before its site takes the fault (R83). -/
def State.laneFaults (l : LaneId) (r : Route) (start : Nat) (s : State) : State :=
  ((s.modLane l Lane.faulted).countOvercurrent).notice (.laneFault l r.site r.handle r.port start s.time.now)

theorem State.laneFaults_withoutHealth (s : State) (l : LaneId) (r : Route) (n : Nat) :
    (s.laneFaults l r n).withoutHealth = (s.modLane l Lane.faulted).withoutHealth := by
  unfold State.laneFaults
  rw [State.notice_withoutHealth]
  exact State.countOvercurrent_frame State.withoutHealth (fun _ => rfl) (fun f t h => t.modStore_withoutHealth f h)

theorem State.laneFaults_lanes (s : State) (l : LaneId) (r : Route) (n : Nat) :
    (s.laneFaults l r n).lanes = (s.modLane l Lane.faulted).lanes := by
  unfold State.laneFaults
  rw [State.notice_lanes]
  exact State.countOvercurrent_frame State.lanes

/-- A lane fault leaves all that neither HEALTH's work nor the lane's monitor holds. -/
theorem State.laneFaults_frame {β : Type} (g : State → β) (hg : ∀ u : State, g u.withoutHealth = g u := by exact fun _ => rfl)
    (hlane : g (s.modLane l Lane.faulted) = g s := by rfl) : g (s.laneFaults l r n) = g s :=
  (State.eq_of_withoutHealth g (s.laneFaults_withoutHealth l r n) hg).trans hlane

theorem State.laneFaults_sameOwners : s.sameOwners (s.laneFaults l r n) := by
  intro k
  rw [State.laneFaults_lanes]
  exact State.modLane_sameOwners rfl k

/-- The expiry of an episode faults its lane, and the site of its route takes the fault (R83). -/
theorem State.ocExpired_eq (hep : s.lanes[l].episode = some t) (hx : t.expiry ≤ s.time.now) (hr : s.lanes[l].route = some r) :
    s.ocExpired l = (s.laneFaults l r t.start).takeFault r.site .overcurrent := by
  generalize hu : (s.modLane l Lane.faulted).countOvercurrent = u
  have hroute : u.lanes[l].route = some r := by
    rw [← hu, State.countOvercurrent_frame State.lanes, State.modLane_get]
    exact hr
  have hnow : u.time = s.time := by rw [← hu, State.countOvercurrent_frame State.time, State.modLane_time]
  unfold State.ocExpired State.laneFaults
  unfold Lane.faulted at hu
  simp only [hep, State.expired_of_le hx, hu, hroute, hnow]
  rw [← hu]
  rfl

/-- A site in a teardown or SAFE absorbs a fault (R13). -/
theorem State.takeFault_absorbed (h : s.sites[i].state = .aborting ∨ s.sites[i].state = .safing ∨ s.sites[i].state = .safe) :
    s.takeFault i f = s := by
  unfold State.takeFault
  rcases h with h | h | h <;> rw [h]

/-- The one route of a site, LIVE on a live lane, is disarmed behind its bounded quiet wait, also while a RUN reset is in flight
(R71, R77, R86). -/
theorem State.handOverAll_disarms (hl : s.routeLanes i = [l]) (hp : s.routelessPorts i = []) (hr : s.lanes[l].route = some r)
    (hst : r.state = .live) (hq : s.isLive l = true) (hb : s.unbounded l = false) :
    s.handOverAll i = (s.modPort r.port fun x => { x with arm := false }).modLane l fun x =>
      { x with route := some { r with state := .quieting },
               quiet := some ⟨.disarm, some (Timer.begin s.dischargeTimeout s.time.now)⟩ } := by
  refine State.handOverAll_one hl ?_ (State.modLane_sameOwners (by rw [State.modPort_lanes, hr]; rfl)) (fun p => ?_) hp
  · have hpins : ((s.modPort r.port fun x => { x with arm := false }).disarm l).isLive l = true := by
      rw [State.disarm_of_live (s := s.modPort _ _) hr hst]
      exact hq
    rw [State.disarmRoute_of_live hr hst]
    unfold State.handOver
    simp only [State.modPort_lanes, hr, hst, hpins, if_true]
    rw [State.disarm_startQuiet (s := s.modPort _ _) hr hst hb, State.modPort_modPort]
    rfl
  · rw [State.modLane_ports, State.modPort_ports, upd_get]
    split
    · next e => subst e; rfl
    · rfl

theorem State.push_modPort (k : Task) (p : PortId) (g : Port → Port) : (s.push k).modPort p g = (s.modPort p g).push k := rfl

/-- A fault at a site that runs a WAIT and whose one route is LIVE on a live lane: the WAIT fails, and the route is disarmed
behind its quiet wait (R12, R37, R86). -/
theorem State.takeFault_wait_finish (hb : u.noBacklog) (hst : u.sites[i].state = .running)
    (hq : u.sites[i].queue = ⟨tag, .wait d⟩ :: rest) (hr : u.sites[i].running = some ⟨.active .waiting, n⟩)
    (hc : u.sites[i].carried = []) (hfree : u.link.completion.length < 16) (hl : u.routeLanes i = [l])
    (hp : u.routelessPorts i = []) (hroute : u.lanes[l].route = some r) (hlive : r.state = .live) (hpins : u.isLive l = true)
    (hfull : u.fullReset = false) : (u.takeFault i f).finish = .next ((((u.modLink fun k =>
        { k with completion := k.completion ++ [⟨i, tag, .failed, some f, 0, 0, none, rest.map Step.tag⟩] }).modSite i fun x =>
        { x with queue := [], running := none, held := false, waitTimer := none, stopCause := none, state := .safing,
                 teardown := some (.fault f) }).modPort r.port fun x => { x with arm := false }).modLane l fun x =>
        { x with route := some { r with state := .quieting },
                 quiet := some ⟨.disarm, some (Timer.begin u.dischargeTimeout u.time.now)⟩ }).transmit := by
  obtain ⟨ha, hslots, hwait, hclosed⟩ := hb
  generalize hD : (⟨i, tag, .failed, some f, 0, 0, none, rest.map Step.tag⟩ : DoneFrame) = D
  have hsite : D.site = i := by rw [← hD]
  have hi : r.site = i := State.site_of_routeLanes hl hroute
  rw [State.takeFault_open f (.inr (.inl hst)), State.carryFault_wait f hq hr, hD]
  unfold State.beginTeardown
  rw [State.handOverAll_disarms (s := (u.modSite i _).push _) hl hp hroute hlive hpins (State.unbounded_of_not_full hfull),
    State.checkTeardown_going (l := l) (r := { r with state := .quieting }) (State.mem_routeLanes.mpr
      ⟨{ r with state := .quieting }, by rw [State.modLane_get], hi⟩) (by rw [State.modLane_get]) nofun]
  rw [State.push_modPort, State.push_modLane]
  refine State.finish_of_drain_noBacklog ((drain_done_stays 4095 hsite ?_ ?_ ?_ ?_ ?_).trans ?_)
    ⟨ha, hslots, hwait, hclosed⟩
  · exact ha
  · exact hfree
  · exact hwait
  · exact (congrArg Site.carried (State.modSite_get _ _ _)).trans hc
  · exact congrArg Site.state (State.modSite_get _ _ _)
  · simp only [State.modSite, State.modLink, State.modLane, State.modPort, upd_upd]
    rfl

/-- A fault at a site at rest whose one route is READY on a quiet lane: the route enters OPENING (R12, R86). -/
theorem State.takeFault_rest_finish (hb : u.noBacklog)
    (hst : u.sites[i].state = .idle ∨ u.sites[i].state = .held ∨ u.sites[i].state = .stopped)
    (hq : u.sites[i].queue = []) (hr : u.sites[i].running = none) (hl : u.routeLanes i = [l]) (hp : u.routelessPorts i = [])
    (hroute : u.lanes[l].route = some r) (hready : r.state = .ready) (hpins : u.isLive l = false) :
    (u.takeFault i f).finish = .next ((u.modSite i fun x =>
      { x with held := false, stopCause := none, state := .safing, teardown := some (.fault f) }).modLane l
      (Lane.opensRoute r)).transmit := by
  rw [State.takeFault_open f (by tauto), State.carryFault_none f hq hr,
    State.beginTeardown_opens (s := u.modSite i _) hl hp hroute hready hpins]
  exact State.finish_noBacklog _ hb

end Sys2Proof.Machine
end


section
set_option Elab.async false
/-! # Discharge timeouts and overcurrent faults (O48) -/

namespace Sys2Proof.Machine

variable {s u : State} {i : SiteId} {l : LaneId} {r : Route} {t : Timer} {f : Failure}

/-! ### The end of a teardown at a site without a running step -/

theorem State.madeSafe_running : (u.madeSafe i f).sites[i].running = u.sites[i].running := by rw [State.madeSafe_site]

/-- The part with a site made SAFE, the closing of its block to come (R88, R140). -/
theorem State.madeSafe_finish (hb : u.noBacklog) (hr : u.sites[i].running = none) (ho : u.results.outbound.length < 16) :
    ((u.madeSafe i f).push (.closure i .ended)).finish = .next ((u.madeSafe i f).closeBlock i .ended).transmit :=
  State.finish_closure .ended (hb.madeSafe i f) (State.madeSafe_running.trans hr) (by rw [State.madeSafe_results]; exact ho)

section expires

variable {a : QuietAction} (hb : s.awake) (hroute : s.lanes[l].route = some r) (hw : s.lanes[l].quiet = some ⟨a, some t⟩)
  (hlive : r.state ≠ .live) (hx : t.expiry ≤ s.time.now)
include hb hroute hw hlive hx

/-- In a teardown the STUCK route is the teardown's business (R79). -/
theorem exec_dischargeTimerExpiry_tearing (ht : s.tearing r.site = true) : exec (.dischargeTimerExpiry l) s =
    ((s.modLane l (Lane.sticks r)).checkTeardown r.site).finish := by
  refine (if_pos hb.1 : _ = (s.dischargeExpired l).finish).trans (congrArg State.finish ?_)
  rw [State.dischargeExpired_eq hroute hw hlive hx, if_pos ht]

/-- In a CLEAR it is the CLEAR's (R79). -/
theorem exec_dischargeTimerExpiry_clearing (ht : s.tearing r.site = false) (hc : (s.sites[r.site].clear).isSome = true) :
    exec (.dischargeTimerExpiry l) s = ((s.modLane l (Lane.sticks r)).checkClear r.site).finish := by
  refine (if_pos hb.1 : _ = (s.dischargeExpired l).finish).trans (congrArg State.finish ?_)
  rw [State.dischargeExpired_eq hroute hw hlive hx, ht, if_neg (by decide), if_pos hc]

/-- In a step it is a fault of the site (R79, R12). -/
theorem exec_dischargeTimerExpiry_step (ht : s.tearing r.site = false) (hc : s.sites[r.site].clear = none) :
    exec (.dischargeTimerExpiry l) s = ((s.modLane l (Lane.sticks r)).takeFault r.site .dischargeTimeout).finish := by
  refine (if_pos hb.1 : _ = (s.dischargeExpired l).finish).trans (congrArg State.finish ?_)
  rw [State.dischargeExpired_eq hroute hw hlive hx, ht, hc]
  rfl

end expires

/-- The lane of a route that enters OPENING by the load of its pins (R66). -/
theorem Lane.opensRoute_pins {x : Lane} (h : x.pinRelays ≠ []) : x.opensRoute r =
    { x with route := some { r with state := .opening }, closed := dropRelays x.pinRelays x.closed,
             load := some ⟨.opening, [], x.pinRelays⟩, quiet := none } := by
  unfold Lane.opensRoute Lane.opensNext Lane.opens
  rw [if_neg h]

/-- Settles O48: the timeout by what its site has in flight and by the site's other routes; the overcurrent fault by the
state of the site. -/
theorem dischargeAndOvercurrent : Obligations.DischargeAndOvercurrent := by
  refine ⟨fun s l t a r hb hroute hw hlive hx => ?_, fun s l t r hb hep hx hroute => ?_, fun s => ?_⟩
  · intro i others stuck
    have hsb : stuck.noBacklog := hb.2
    have hheld : stuck.holdsRoute i = true := State.sticks_holdsRoute
    have hleft : stuck.allStuck i = true ↔ others fun _ u => u.state = .stuck := State.sticks_allStuck_iff
    have hkept {k : LaneId} {u : Route} (hk : k ≠ l) (hu : s.lanes[k].route = some u) : stuck.lanes[k].route = some u :=
      State.sticks_route_iff.mpr (.inr ⟨hk, hu⟩)
    refine ⟨fun c hst hc hf => ?_, fun k u ht hk hu hi hst => ?_, fun hs hr ho => ?_,
      fun st rest ph n hst hq hr hph hc hclear hfree hp => ?_⟩
    · have ht : s.tearing i = false := State.tearing_eq_false (by rw [hst]; decide) (by rw [hst]; decide)
      rw [exec_dischargeTimerExpiry_clearing hb hroute hw hlive hx ht (Option.isSome_of_mem hc)]
      refine ⟨fun k u hk hu hi hne => ?_, fun hs hfull => ?_⟩
      · have hgoing : stuck.allStuck i = false := Bool.eq_false_iff.mpr fun h => hne (hleft.mp h k u hk hu hi)
        exact (congrArg State.finish (State.checkClear_going (by exact hc) hheld (.inr hgoing))).trans
          (State.finish_noBacklog stuck hsb)
      · refine (congrArg State.finish
          (State.checkClear_plain (by exact hc) hheld hf (hleft.mpr hs) (by exact hst) (by exact hfull))).trans ?_
        exact State.finish_noBacklog _ (State.noBacklog.tornDown (by exact hsb) i)
    · rw [exec_dischargeTimerExpiry_tearing hb hroute hw hlive hx ht]
      refine (congrArg State.finish ?_).trans (State.finish_noBacklog stuck hsb)
      exact State.checkTeardown_going (State.mem_routeLanes.mpr ⟨u, hkept hk hu, hi⟩) (hkept hk hu) hst
    · intro safe
      have hexec (h : s.sites[i].state = .aborting ∨ s.sites[i].state = .safing) : exec (.dischargeTimerExpiry l) s =
          (stuck.checkTeardown i).finish :=
        exec_dischargeTimerExpiry_tearing hb hroute hw hlive hx (State.tearing_of h)
      refine ⟨fun q hst ht hab hreset => ?_, fun f hst ht hab hreset => ?_, fun q hst ht hab hreset hphase hi hothers => ?_⟩
      · rw [hexec (.inl hst), State.checkTeardown_abortStuck (hleft.mpr hs) hheld (by exact hst) (by exact ht) (by exact hab)
          hsb.1 (by exact hreset)]
        refine State.finish_closure .ended (by exact hsb.madeSafe i _) ?_ ?_
        · exact State.madeSafe_running.trans hr
        · rw [State.reply_results, State.madeSafe_results]; exact ho
      · have hnone : (stuck.madeSafe i f).tornDown i = stuck.madeSafe i f := State.tornDown_none (by
          unfold State.madeSafe; rw [State.notice_resetReq]; exact hreset)
        rw [hexec (.inr hst), State.checkTeardown_ofFault (by exact hst) (by exact ht) (by exact hab) (hleft.mpr hs) hsb.1
          (by unfold State.fullReset; rw [show stuck.resetReq = none from hreset]), hnone]
        exact State.madeSafe_finish hsb hr ho
      · have hsafe : (stuck.madeSafe i .dischargeTimeout).resetReq = some q := by
          unfold State.madeSafe; rw [State.notice_resetReq]; exact hreset
        rw [hexec (.inl hst), State.checkTeardown_resetStuck (hleft.mpr hs) hheld (by exact hst) (by exact ht) (by exact hab),
          State.siteEnded_left hsafe hphase hi hothers, State.madeSafe_site]
        exact State.finish_noBacklog _ (by exact hsb.madeSafe i _)
    · intro figures failed
      have ht : s.tearing i = false := State.tearing_eq_false (by rw [hst]; decide) (by rw [hst]; decide)
      have howners : s.sameOwners stuck := State.modLane_sameOwners (by rw [hroute]; rfl)
      have hports : stuck.routelessPorts i = [] := (howners.routelessPorts fun _ => rfl).trans hp
      have hdone : makeDone i st n .failed (some .dischargeTimeout) none (rest.map Step.tag) =
          ⟨i, st.tag, .failed, some .dischargeTimeout, figures.1, figures.2, none, rest.map Step.tag⟩ := by
        rcases st with ⟨g, _ | _ | _ | _ | _ | _ | _ | _ | _⟩ <;> rfl
      rw [exec_dischargeTimerExpiry_step hb hroute hw hlive hx ht hclear]
      refine ⟨fun hs hreset ho => ?_, fun k u hk hu hi hready hquiet hpins hs => ?_⟩
      · exact State.takeFault_stuck_finish (u := stuck) hsb hst hq hr hph hc hfree hports hdone (hleft.mpr hs) hreset ho
      · have hlane : stuck.lanes[k] = s.lanes[k] := by rw [State.modLane_lanes, upd_get, if_neg hk.symm]
        refine (State.takeFault_beside_finish (u := stuck) hsb hst hq hr hph hc hfree hports hdone (hkept hk hu) hi hready
          hquiet fun m y hm hy hyi => ?_).trans ?_
        · rcases State.sticks_route_iff.mp hy with ⟨-, rfl⟩ | ⟨hml, hy⟩
          · rfl
          · exact absurd (hs m y hml hy hyi) hm
        · refine congrArg (fun v : State => Host.Outcome.next v.transmit) (State.modLane_congr ?_)
          exact Lane.opensRoute_pins (by rw [← hlane] at hpins; exact hpins)
  · intro i faulted safing
    have hexec : exec (.ocPersistExpiry l) s = (faulted.takeFault i .overcurrent).finish :=
      (if_pos hb.1 : _ = (s.ocExpired l).finish).trans (congrArg State.finish (State.ocExpired_eq hep hx hroute))
    have hkeep {β : Type} (g : State → β) (hg : ∀ u : State, g u.withoutHealth = g u := by exact fun _ => rfl)
        (hlane : g (s.modLane l Lane.faulted) = g s := by rfl) : g faulted = g s := State.laneFaults_frame g hg hlane
    have hfb : faulted.noBacklog :=
      State.noBacklog_of_withoutHealth (s.laneFaults_withoutHealth l r t.start) (by exact hb.2.modLane _)
    have hsite : faulted.sites[i] = s.sites[i] := hkeep fun u => u.sites[i]
    have hlane : faulted.lanes[l] = s.lanes[l].faulted := by
      rw [show faulted.lanes = _ from s.laneFaults_lanes l r t.start, State.modLane_get]
    have hfroute : faulted.lanes[l].route = some r := by rw [hlane]; exact hroute
    have howners : s.sameOwners faulted := State.laneFaults_sameOwners
    have hports : faulted.routelessPorts i = s.routelessPorts i :=
      howners.routelessPorts fun p => hkeep fun u => u.ports[p].claim
    rw [hexec]
    refine ⟨fun hst => ?_, fun hl hp => ⟨fun tag d rest n hst hq hr hc hfree hlive hpins hfull => ?_,
      fun hst hq hr hready hquiet hpins => ?_⟩⟩
    · rw [State.takeFault_absorbed (by rw [hsite]; exact hst)]
      exact State.finish_noBacklog faulted hfb
    · have htime : faulted.dischargeTimeout = s.dischargeTimeout := hkeep State.dischargeTimeout
      have hnow : faulted.time.now = s.time.now := hkeep fun u => u.time.now
      have hend := State.takeFault_wait_finish (u := faulted) (f := .overcurrent) hfb (by rw [hsite]; exact hst)
        (by rw [hsite]; exact hq) (by rw [hsite]; exact hr) (by rw [hsite]; exact hc)
        (by rw [hkeep fun u => u.link.completion]; exact hfree) (howners.routeLanes.trans hl) (hports.trans hp) hfroute hlive
        ((hkeep (State.isLive l)).trans hpins) ((hkeep State.fullReset).trans hfull)
      rw [htime, hnow] at hend
      exact hend
    · rw [State.takeFault_rest_finish (u := faulted) hfb (by rw [hsite]; exact hst) (by rw [hsite]; exact hq)
        (by rw [hsite]; exact hr) (howners.routeLanes.trans hl) (hports.trans hp) hfroute hready
        ((hkeep (State.isLive l)).trans hquiet)]
      refine congrArg (fun v : State => Host.Outcome.next v.transmit) (State.modLane_congr ?_)
      exact Lane.opensRoute_pins (by
        rw [show (faulted.modSite i safing).lanes[l] = _ from hlane]; exact hpins)
  · exact ⟨s.countOvercurrent_record, State.countOvercurrent_frame State.lanes, State.countOvercurrent_frame State.sites,
      State.countOvercurrent_frame State.ports, State.countOvercurrent_frame State.results,
      State.countOvercurrent_frame State.link⟩

end Sys2Proof.Machine
end

section
set_option Elab.async false
/-! # Queries of calibration, configuration and relay counts (O19) -/

namespace Sys2Proof.Machine

variable {s : State} {tag site : Byte}

/-- A byte that names a number is below its range's end. -/
theorem toNat_lt_of_fin?_some {n : Nat} {b : Byte} {k : Fin n} (h : fin? n b = some k) : b.toNat < n := by
  by_contra hge
  rw [fin?_eq_none_iff.mpr (Nat.not_lt.mp hge)] at h
  cases h

/-! ### CAL_GET (R113) -/

theorem State.takeCalGet_of_range (r : Range) :
    s.takeCalGet (byte r.val) ⟨tag, partByte⟩ = s.answer 0x0D ⟨tag, partByte⟩ (s.calData r) := by
  unfold State.takeCalGet
  rw [if_neg (not_not.mpr rfl), fin?_byte (by decide)]

theorem State.takeCalGet_badField {b : Byte} (h : 5 < b.toNat) :
    s.takeCalGet b ⟨tag, partByte⟩ = s.refuse 0x0D ⟨tag, partByte⟩ .badField := by
  unfold State.takeCalGet
  rw [if_neg (not_not.mpr rfl), fin?_eq_none_iff.mpr h]

theorem State.takeCalGet_badSite (h : site ≠ partByte) (b : Byte) :
    s.takeCalGet b ⟨tag, site⟩ = s.refuse 0x0D ⟨tag, site⟩ .badSite := if_pos h

/-! ### CONFIG_GET (R181) -/

/-- The items from one on, after item 15 those from item 0. -/
theorem State.takeConfigGet_of_items (a : Fin 16) {n : Byte} (hn : 1 ≤ n.toNat) (hmax : n.toNat ≤ 16) :
    s.takeConfigGet (byte a.val) n ⟨tag, partByte⟩ = s.answer 0x0F ⟨tag, partByte⟩ ([byte a.val, n] ++
      ((List.range n.toNat).map fun k => bytes32 s.store.config[(Fin.ofNat 16 (a.val + k))]).flatten) := by
  have hcount : ¬(n.toNat = 0 ∨ 16 < n.toNat) := by omega
  unfold State.takeConfigGet itemIndex
  rw [if_neg (not_not.mpr rfl), fin?_byte (by decide)]
  exact if_neg hcount

theorem State.takeConfigGet_badField {a n : Byte} (h : 15 < a.toNat ∨ n = 0 ∨ 16 < n.toNat) :
    s.takeConfigGet a n ⟨tag, partByte⟩ = s.refuse 0x0F ⟨tag, partByte⟩ .badField := by
  unfold State.takeConfigGet itemIndex
  rw [if_neg (not_not.mpr rfl)]
  cases hitem : fin? 16 a with
  | none => rfl
  | some i =>
    have ha : ¬15 < a.toNat := Nat.not_lt.mpr (Nat.le_of_lt_succ (toNat_lt_of_fin?_some hitem))
    have hcount : n.toNat = 0 ∨ 16 < n.toNat := (h.resolve_left ha).imp_left BitVec.toNat_eq.mp
    exact if_pos hcount

theorem State.takeConfigGet_badSite (h : site ≠ partByte) (a n : Byte) :
    s.takeConfigGet a n ⟨tag, site⟩ = s.refuse 0x0F ⟨tag, site⟩ .badSite := if_pos h

/-! ### COUNT_GET (R162) -/

theorem State.takeCountGet_of_relays (l : LaneId) {first : BitVec 16} {n : Byte} (hn : 1 ≤ n.toNat)
    (hmax : n.toNat ≤ 128) (hlast : first.toNat + n.toNat ≤ 268) : s.takeCountGet (byte l.val) first n ⟨tag, partByte⟩ =
      s.answer 0x12 ⟨tag, partByte⟩ ([byte l.val] ++ bytes16 first ++ [n] ++ nat32 (s.health.lanes[l]).unsaved
        ++ [flag (s.store.pendingWrites.contains (laneItem l))]
        ++ countBytes s.health.lanes[l] first.toNat n.toNat) := by
  have hrelays : ¬(267 < first.toNat ∨ n.toNat = 0 ∨ 128 < n.toNat ∨ 268 < first.toNat + n.toNat) := by omega
  unfold State.takeCountGet
  rw [if_neg (not_not.mpr rfl), fin?_byte (by decide)]
  exact if_neg hrelays

theorem State.takeCountGet_badField {b : Byte} {first : BitVec 16} {n : Byte}
    (h : 15 < b.toNat ∨ 267 < first.toNat ∨ n = 0 ∨ 128 < n.toNat ∨ 268 < first.toNat + n.toNat) :
    s.takeCountGet b first n ⟨tag, partByte⟩ = s.refuse 0x12 ⟨tag, partByte⟩ .badField := by
  unfold State.takeCountGet
  rw [if_neg (not_not.mpr rfl)]
  cases hlane : fin? 16 b with
  | none => rfl
  | some l =>
    have hb : ¬15 < b.toNat := Nat.not_lt.mpr (Nat.le_of_lt_succ (toNat_lt_of_fin?_some hlane))
    have hrelays : 267 < first.toNat ∨ n.toNat = 0 ∨ 128 < n.toNat ∨ 268 < first.toNat + n.toNat :=
      (h.resolve_left hb).imp_right fun hrest => hrest.imp_left BitVec.toNat_eq.mp
    exact if_pos hrelays

theorem State.takeCountGet_badSite (h : site ≠ partByte) (b : Byte) (first : BitVec 16) (n : Byte) :
    s.takeCountGet b first n ⟨tag, site⟩ = s.refuse 0x12 ⟨tag, site⟩ .badSite := if_pos h

/-! ### The answers -/

theorem State.arrive_calData (r : Range) (s : State) : s.arrive.calData r = s.calData r := by
  unfold State.calData
  rw [State.arrive_meter]

/-- Settles O19: each request by the case of its fields, with the values that the arrival of its frame leaves as they are. -/
theorem calConfigAndCountAnswers : Obligations.CalConfigAndCountAnswers := by
  intro tag s hr
  refine ⟨fun r => ?_, fun a n hn hmax => ?_, fun a n h => ?_, fun l first n hn hmax hlast => ?_, fun b h => ?_,
    fun b first n h => ?_, fun site b n first h => ⟨?_, ?_, ?_⟩⟩
  · refine request_refused (r := .calGet (byte r.val)) hr trivial ((State.takeCalGet_of_range r).trans ?_)
    rw [State.arrive_calData]
    rfl
  · refine request_refused (r := .configGet (byte a.val) n) hr trivial ((State.takeConfigGet_of_items a hn hmax).trans ?_)
    rw [State.arrive_store]
    rfl
  · exact request_refused (r := .configGet a n) hr trivial (State.takeConfigGet_badField h)
  · refine request_refused (r := .countGet (byte l.val) first n) hr trivial
      ((State.takeCountGet_of_relays l hn hmax hlast).trans ?_)
    rw [State.arrive_store, State.arrive_health]
    rfl
  · exact request_refused (r := .calGet b) hr trivial (State.takeCalGet_badField h)
  · exact request_refused (r := .countGet b first n) hr trivial (State.takeCountGet_badField h)
  · exact request_refused (r := .calGet b) hr trivial (State.takeCalGet_badSite h b)
  · exact request_refused (r := .configGet b n) hr trivial (State.takeConfigGet_badSite h b n)
  · exact request_refused (r := .countGet b first n) hr trivial (State.takeCountGet_badSite h b first n)

end Sys2Proof.Machine
end


section
set_option Elab.async false
/-! # The meter's timers (O51) -/

namespace Sys2Proof.Machine

variable {s : State} {a : Acquisition}

/-- A sample in a pass, with the clip stage as the nearest value from −C to +C (R99 to R101). -/
theorem takeSample_eq (hclip : 0 ≤ a.clip) (x : Int) (now : Nat) (uncertain : Bool) :
    takeSample a x now uncertain = { a with
      taken := a.taken + 1
      sum := a.sum + (max (-a.clip) (min a.clip x) - if a.raw then 0 else a.cal[a.range].z)
      clipped := a.clipped + if x < -a.clip ∨ a.clip < x then 1 else 0
      last := now
      lastUncertain := uncertain } := by
  unfold takeSample
  rw [clipSample_eq hclip, isClipped_toNat]
  rfl

/-- Before the last sample of a pass the sample timer starts again (R99). -/
theorem State.afterSample_more (h : a.taken < 2 ^ a.aperture.val) : s.afterSample a =
    s.modMeter fun m => { m with acq := some { a with timer := Timer.begin a.interval s.time.now } } := if_pos h

theorem State.rangeSwitchExpired_eq (hacq : s.meter.acq = some a) (hsw : a.switching = true)
    (hx : a.timer.expiry ≤ s.time.now) :
    s.rangeSwitchExpired = s.modMeter fun m => { m with acq := some (beginPass s.time.now a) } := by
  unfold State.rangeSwitchExpired
  simp only [hacq, hsw, State.expired_of_le hx, Option.isSome_some, Bool.and_self, if_true]

/-- Settles O51: METER takes the sample, or begins the pass, and nothing follows at the event. -/
theorem meterTimers : Obligations.MeterTimers := by
  refine ⟨fun s a v hb hacq hsw hx hmore hclip => ?_, fun s a hb hacq hsw hx => ?_⟩
  · intro now b
    have hexec : exec (.sampleTimerExpiry v) s = (s.sampleExpired v).finish := if_pos hb.1
    have hsample : s.sampleExpired v = s.modMeter fun m => { m with acq := some b } := by
      rw [State.sampleExpired_eq hacq hsw hx, takeSample_eq hclip, State.afterSample_more (by exact hmore)]
    rw [hexec, hsample]
    exact State.finish_noBacklog _ hb.2
  · intro b
    have hexec : exec .rangeSwitchExpiry s = s.rangeSwitchExpired.finish := if_pos hb.1
    rw [hexec, State.rangeSwitchExpired_eq hacq hsw hx]
    exact State.finish_noBacklog _ hb.2

end Sys2Proof.Machine
end


section
set_option Elab.async false
/-! # The meter's stages (O6, O7) -/

namespace Sys2Proof.Machine

/-! ### The mean stage (R102) -/

theorem meanStage_one (s : Int) : meanStage 1 s = s := if_pos rfl

theorem meanStage_even (h : Nat) (s : Int) : meanStage (2 * h) s = (s + (2 * h / 2 : Nat)) / (2 * h : Nat) := by
  have hodd : 2 * h ≠ 1 := by omega
  unfold meanStage
  rw [if_neg hodd]
  exact Int.fdiv_eq_ediv_of_nonneg _ (Int.natCast_nonneg _)

/-- The mean of an even number of samples is within half a count of S / N, and the half below is left out. -/
theorem meanStage_even_nearest {h : Nat} (hpos : 0 < h) (s : Int) :
    2 * s - (2 * h : Nat) < 2 * meanStage (2 * h) s * (2 * h : Nat) ∧
      2 * meanStage (2 * h) s * (2 * h : Nat) ≤ 2 * s + (2 * h : Nat) := by
  have hN : (0 : Int) < (2 * h : Nat) := by omega
  rw [meanStage_even, Nat.mul_div_cancel_left h (by decide), mul_assoc]
  have hlow := Int.ediv_mul_le (s + h) hN.ne'
  have hhigh := Int.lt_ediv_add_one_mul_self (s + h) hN
  rw [add_mul, one_mul] at hhigh
  omega

/-- An integer within half of S / N keeps the bounds of S / N. -/
theorem bounds_of_nearest {N : Nat} {s m C : Int} (hN : 0 < N) (hlow : 2 * s - N < 2 * m * N)
    (hhigh : 2 * m * N ≤ 2 * s + N) (hs : -C * N ≤ s) (hs' : s ≤ C * N) : -C ≤ m ∧ m ≤ C := by
  have hN' : (0 : Int) < N := Int.natCast_pos.mpr hN
  have habove : (-2 * C - 1) * N < 2 * m * N := by linarith
  have hbelow : 2 * m * N ≤ (2 * C + 1) * N := by linarith
  have := lt_of_mul_lt_mul_right habove hN'.le
  have := le_of_mul_le_mul_right hbelow hN'
  omega

/-! ### The gain stage (R103) -/

theorem gainStage_neg (m : Int) (g : Nat) : gainStage (-m) g = -gainStage m g := by
  unfold gainStage
  simp only [neg_mul, Int.natAbs_neg, Left.neg_neg_iff]
  split_ifs <;> omega

theorem gainStage_of_nonneg {m : Int} (hm : 0 ≤ m) (g : Nat) : gainStage m g = (m * g + 16384) / 32768 := by
  have hp : 0 ≤ m * g := mul_nonneg hm (Int.natCast_nonneg g)
  unfold gainStage
  simp only [if_neg (not_lt.mpr hp)]
  omega

theorem gainStage_one_of_nonneg {m : Int} (hm : 0 ≤ m) : gainStage m 32768 = m := by
  rw [gainStage_of_nonneg hm]
  omega

theorem gainStage_bounds_of_nonneg {m : Int} {g : Nat} (hm : 0 ≤ m) (hmax : m ≤ 139263) (hg : g ≤ 49151) :
    0 ≤ gainStage m g ∧ gainStage m g ≤ 208890 := by
  have hp : 0 ≤ m * g := mul_nonneg hm (Int.natCast_nonneg g)
  have hpmax : m * g ≤ 139263 * 49151 := mul_le_mul hmax (by omega) (Int.natCast_nonneg g) (by decide)
  rw [gainStage_of_nonneg hm]
  omega

/-- Settles O6: the mean for N = 1 and for an even N, the gain of a negative mean from that of its opposite. -/
theorem meterRounding : Obligations.MeterRounding := by
  refine ⟨fun a s _ => ?_, fun m g => ?_, fun a => ⟨fun hraw => ?_, fun hraw => ?_, rfl⟩⟩
  · have hnearest : 2 * s - (2 ^ a : Nat) < 2 * meanStage (2 ^ a) s * (2 ^ a : Nat) ∧
        2 * meanStage (2 ^ a) s * (2 ^ a : Nat) ≤ 2 * s + (2 ^ a : Nat) := by
      cases a with
      | zero => rw [pow_zero, meanStage_one]; omega
      | succ b => rw [pow_succ']; exact meanStage_even_nearest (Nat.two_pow_pos b) s
    refine ⟨fun hzero => ?_, fun hone => ?_, hnearest.1, hnearest.2,
      bounds_of_nearest (Nat.two_pow_pos a) hnearest.1 hnearest.2⟩
    · rw [hzero, pow_zero, meanStage_one]
    · obtain ⟨b, rfl⟩ := Nat.exists_eq_add_of_le' hone
      rw [pow_succ']
      exact meanStage_even _ s
  · refine ⟨gainStage_neg m g, fun hm => ?_, ?_, fun hmin hmax hg => ?_⟩
    · have hp : 0 ≤ m * g := mul_nonneg hm (Int.natCast_nonneg g)
      rw [gainStage_of_nonneg hm]
      omega
    · rcases le_total 0 m with hm | hm
      · exact gainStage_one_of_nonneg hm
      · rw [← neg_neg m, gainStage_neg, gainStage_one_of_nonneg (neg_nonneg.mpr hm)]
    · rcases le_total 0 m with hm | hm
      · have := gainStage_bounds_of_nonneg hm hmax hg
        omega
      · have := gainStage_bounds_of_nonneg (neg_nonneg.mpr hm) (by omega) hg
        rw [gainStage_neg] at this
        omega
  · exact if_pos hraw
  · exact if_neg (Bool.eq_false_iff.mp hraw)

/-! ### The verdict (R105) -/

section
variable {l : Limits} {v : Int}

theorem verdictOf_low (h : v < l.lo.toInt) : verdictOf 0 (some l) v = .low := if_pos h

theorem verdictOf_high (hlo : l.lo.toInt ≤ v) (h : l.hi.toInt < v) : verdictOf 0 (some l) v = .high :=
  (if_neg (not_lt.mpr hlo)).trans (if_pos h)

theorem verdictOf_marginal (hlo : l.lo.toInt ≤ v) (hhi : v ≤ l.hi.toInt)
    (h : v < l.lo.toInt + l.gb.toNat ∨ l.hi.toInt - l.gb.toNat < v) : verdictOf 0 (some l) v = .marginal :=
  (if_neg (not_lt.mpr hlo)).trans ((if_neg (not_lt.mpr hhi)).trans (if_pos h))

theorem verdictOf_pass (hlo : l.lo.toInt ≤ v) (hhi : v ≤ l.hi.toInt)
    (h : ¬(v < l.lo.toInt + l.gb.toNat ∨ l.hi.toInt - l.gb.toNat < v)) : verdictOf 0 (some l) v = .pass :=
  (if_neg (not_lt.mpr hlo)).trans ((if_neg (not_lt.mpr hhi)).trans (if_neg h))

end

/-- Settles O7: the conditions of the table in their order, of which one alone decides. -/
theorem verdictTable : Obligations.VerdictTable := by
  refine ⟨fun k lim v hk => if_pos hk, fun v => rfl, fun l v => ?_⟩
  rcases lt_or_ge v l.lo.toInt with hlow | hlo
  · rw [verdictOf_low hlow]
    exact ⟨iff_of_true rfl hlow, iff_of_false nofun (by omega), iff_of_false nofun (by omega),
      iff_of_false nofun (by omega)⟩
  rcases lt_or_ge l.hi.toInt v with hhigh | hhi
  · rw [verdictOf_high hlo hhigh]
    exact ⟨iff_of_false nofun (by omega), iff_of_true rfl ⟨hlo, hhigh⟩, iff_of_false nofun (by omega),
      iff_of_false nofun (by omega)⟩
  by_cases hguard : v < l.lo.toInt + l.gb.toNat ∨ l.hi.toInt - l.gb.toNat < v
  · rw [verdictOf_marginal hlo hhi hguard]
    exact ⟨iff_of_false nofun (by omega), iff_of_false nofun (by omega), iff_of_true rfl ⟨hlo, hhi, hguard⟩,
      iff_of_false nofun (by omega)⟩
  · rw [verdictOf_pass hlo hhi hguard]
    exact ⟨iff_of_false nofun (by omega), iff_of_false nofun (by omega), iff_of_false nofun (by omega),
      iff_of_true rfl (by omega)⟩

end Sys2Proof.Machine
end


section
set_option Elab.async false
/-! # Result blocks and FLUSH (O45) -/

namespace Sys2Proof.Machine

variable {s u v : State} {i j : SiteId} {tag : Byte} {c e : Cause} {rest : List Step} {ph : Phase} {n : Nat}

/-! ### Closing a block (R138) -/

/-- The site's next sequence is taken by the block that closes, and advances (R138). -/
def SiteResults.numbered (x : SiteResults) : SiteResults := { x with nextSeq := x.nextSeq + 1, lastSeq := some x.nextSeq }

/-- A block that closes with room for it and nobody before it joins the outbound queue (R138). -/
theorem State.closeBlock_joins {cap : Nat} {rs : List Reading} (hpos : s.results.sites[i].pos = .opened cap rs)
    (hrs : rs ≠ []) (hroom : s.results.outbound.length < 16) (hw : s.results.waiting = []) : s.closeBlock i c =
      { s with results :=
        { sites := upd (upd s.results.sites i SiteResults.numbered) i fun x => { x with pos := .empty },
          outbound := s.results.outbound ++ [⟨i, s.results.sites[i].nextSeq, c, rs⟩], waiting := [] } } := by
  obtain ⟨x, xs, rfl⟩ := List.exists_cons_of_ne_nil hrs
  rw [State.closeBlock_eq, closedResults, hpos]
  simp only [hw, hroom, Config.outboundDepth, decide_true, List.isEmpty_nil, Bool.and_self, if_true, upd_upd]
  rfl

/-- A block that closes without room, or behind others, joins the waiting list, and its site is CLOSED_WAITING (R138). -/
theorem State.closeBlock_waits {cap : Nat} {rs : List Reading} (hpos : s.results.sites[i].pos = .opened cap rs)
    (hrs : rs ≠ []) (h : 16 ≤ s.results.outbound.length ∨ s.results.waiting ≠ []) : s.closeBlock i c =
      { s with results :=
        { sites := upd (upd s.results.sites i SiteResults.numbered) i fun x => { x with pos := .closedWaiting },
          outbound := s.results.outbound,
          waiting := s.results.waiting ++ [⟨i, s.results.sites[i].nextSeq, c, rs⟩] } } := by
  obtain ⟨x, xs, rfl⟩ := List.exists_cons_of_ne_nil hrs
  have hfull : (decide (s.results.outbound.length < Config.outboundDepth) && s.results.waiting.isEmpty) = false := by
    rw [Bool.and_eq_false_iff, decide_eq_false_iff_not, List.isEmpty_eq_false_iff, Nat.not_lt]
    exact h
  rw [State.closeBlock_eq, closedResults, hpos]
  simp only [hfull, Bool.false_eq_true, if_false, upd_upd]
  rfl

/-- A position without a record is left alone (R138). -/
theorem State.closeBlock_unrecorded
    (h : ∀ (cap : Nat) (rs : List Reading), s.results.sites[i].pos = .opened cap rs → rs = []) : s.closeBlock i c = s := by
  rw [State.closeBlock_eq, closedResults]
  split
  · next hpos => cases h _ _ hpos
  · rfl

theorem State.closeBlock_mayBegin : (s.closeBlock i c).mayBegin = s.mayBegin := by rw [State.closeBlock_eq]; rfl

/-! ### Two blocks that close at one event (log entry 36) -/

/-- A transmitter that may not begin a frame leaves the end of an event to the follow-ups (R194). -/
theorem State.finish_of_drain_quiet (hd : drain Config.cascadeBound s = v) (ha : v.agenda = []) (hm : v.mayBegin = false) :
    s.finish = .next v := by
  have hsettle : s.settle = v := by
    unfold State.settle State.pump
    rw [hd, hm, if_neg (by decide), drain_nil _ _ ha]
  unfold State.finish
  rw [hsettle, if_pos ha]

/-- A second site's closing is noted beside the first, whose order in the agenda is that of the sites. -/
theorem State.noteClosure_noteClosure (hij : i ≠ j) (ha : s.agenda = []) :
    (s.noteClosure i c).noteClosure j e = { s with agenda := insertTask (.closure j e) [.closure i c] } := by
  have hother : (s.push (.closure i c)).closing j = false := by simp [State.closing, ha, Task.closes, hij]
  rw [State.noteClosure_calm ha, State.noteClosure_push e hother]
  simp only [State.push, ha, insertTask_nil]

/-- The lower site's block closes first (R138). -/
theorem State.finish_closures (ha : s.agenda = []) (hm : s.mayBegin = false) (hi : s.sites[i].running = none)
    (hj : s.sites[j].running = none) :
    ({ s with agenda := [.closure i c, .closure j e] } : State).finish = .next ((s.closeBlock i c).closeBlock j e) := by
  refine State.finish_of_drain_quiet ?_ ?_ ?_
  · rw [show Config.cascadeBound = 4094 + 1 + 1 from rfl,
      drain_closure (i := i) (c := c) (ts := [.closure j e]) (4094 + 1) rfl (by exact hi),
      drain_closure (i := j) (c := e) (ts := []) 4094 (by rw [State.closeBlock_eq]) (by rw [State.closeBlock_eq]; exact hj)]
    rw [drain_nil _ _ (by rw [State.closeBlock_eq])]
    simp only [State.closeBlock_eq]
    cases s; simp only at ha; subst ha; rfl
  · simp only [State.closeBlock_eq]; exact ha
  · rw [State.closeBlock_mayBegin, State.closeBlock_mayBegin, hm]

/-! ### Placing a reading (R137) -/

/-- A reading in a site without a block opens one with BLOCK_FILL, which closes at once where it holds one record. -/
theorem State.place_empty {r : Reading} (hres : s.results.sites[i].reserved = true)
    (hpos : s.results.sites[i].pos = .empty) : s.place i r =
      if s.blockFill ≤ 1 then
        (s.modRes i fun x => { x with pos := .opened s.blockFill [r], reserved := false }).noteClosure i .fill
      else s.modRes i fun x => { x with pos := .opened s.blockFill [r], reserved := false } := by
  unfold State.place
  simp only [hres, hpos, if_true]

/-- A reading joins its site's open block, which closes at its capacity. -/
theorem State.place_opened {r : Reading} {cap : Nat} {rs : List Reading} (hres : s.results.sites[i].reserved = true)
    (hpos : s.results.sites[i].pos = .opened cap rs) : s.place i r =
      if cap ≤ rs.length + 1 then
        (s.modRes i fun x => { x with pos := .opened cap (rs ++ [r]), reserved := false }).noteClosure i .fill
      else s.modRes i fun x => { x with pos := .opened cap (rs ++ [r]), reserved := false } := by
  unfold State.place
  simp only [hres, hpos, if_true]

/-! ### A RESULT frame begins, and the oldest waiting block enters (R139) -/

/-- A frame has ended that does not end a FULL reset (R184). -/
theorem State.frameSent_eq {x : TxFrame} (htx : s.link.tx = some x)
    (hx : ∀ r : Reply, x = .reply r → r.fullReset = false) : s.frameSent = s.modLink fun k => { k with tx := none } := by
  unfold State.frameSent
  simp only [htx]
  cases x with
  | reply r => simp only [hx r rfl, Bool.false_eq_true, if_false]
  | _ => rfl

/-- A result block is sent when nothing else is to be sent (R194). -/
theorem State.nextFrame_result {b : Block} {bs : List Block} (hr : s.link.replies = []) (hc : s.link.completion = [])
    (hn : ∀ m : Fin 9, s.link.notices[m] = none) (ho : s.results.outbound = b :: bs) : s.nextFrame = some (.result b) := by
  have hfirst : s.firstNotice = none := List.findSome?_eq_none_iff.mpr fun m _ => hn m
  unfold State.nextFrame
  simp only [hr, hc, hfirst, ho]

/-- The part once the frame of block `b` has begun and block `w`, the oldest that waited, has the place (R139, R194). -/
def State.blockAdmitted (b w : Block) (bs ws : List Block) (s : State) : State :=
  ({ s with results := { sites := upd s.results.sites w.site fun y => { y with pos := .empty },
                         outbound := bs ++ [w], waiting := ws } } : State).modLink fun k => { k with tx := some (.result b) }

/-- The admission of a block leaves its site's last closed sequence. -/
theorem State.blockAdmitted_lastSeq (s : State) (b w : Block) (bs ws : List Block) :
    (s.blockAdmitted b w bs ws).results.sites[w.site].lastSeq = s.results.sites[w.site].lastSeq := by
  unfold State.blockAdmitted
  rw [State.modLink_results, upd_get, if_pos rfl]

/-- The transmitter goes from one frame to a RESULT frame: what is left are the waiters of the admitted block's site. -/
theorem State.frameSent_settle_result {x : TxFrame} {b w : Block} {bs ws : List Block} (hl : s.linkUp = true)
    (ha : s.agenda = []) (hrts : s.pins.rts = true) (htx : s.link.tx = some x)
    (hx : ∀ r : Reply, x = .reply r → r.fullReset = false) (hr : s.link.replies = []) (hc : s.link.completion = [])
    (hn : ∀ m : Fin 9, s.link.notices[m] = none) (ho : s.results.outbound = b :: bs) (hw : s.results.waiting = w :: ws)
    (hroom : bs.length < 16) :
    s.frameSent.settle = drain Config.cascadeBound ((s.blockAdmitted b w bs ws).serveWaiting w.site) := by
  have hbegin : (s.modLink fun k => { k with tx := none }).mayBegin = true := by
    unfold State.mayBegin
    rw [Bool.and_eq_true, Bool.and_eq_true]
    exact ⟨⟨hl, rfl⟩, hrts⟩
  have hadmit : ((s.modLink fun k => { k with tx := none }).beginFrame (.result b)).admitBlock =
      (s.blockAdmitted b w bs ws).serveWaiting w.site := by
    unfold State.admitBlock State.beginFrame
    simp only [State.modLink_results, ho, hw, List.tail_cons, Config.outboundDepth, if_pos hroom]
    rfl
  unfold State.settle
  rw [State.frameSent_eq htx hx, drain_nil _ (s.modLink fun k => { k with tx := none }) ha]
  unfold State.pump
  rw [if_pos hbegin, State.nextFrame_result (by exact hr) (by exact hc) (by exact hn) (by exact ho)]
  exact congrArg (drain Config.cascadeBound) hadmit

/-- The room waiter of a site is given room (R135). -/
theorem State.serveWaiting_room {st : Step} (hq : s.sites[i].queue = st :: rest)
    (hr : s.sites[i].running = some ⟨.active .blockWait, n⟩) : s.serveWaiting i = s.giveRoom i := by
  unfold State.serveWaiting
  rw [State.active_eq hq hr]

/-- The flush waiter of a site completes (R141). -/
theorem State.serveWaiting_flush {st : Step} (hq : s.sites[i].queue = st :: rest)
    (hr : s.sites[i].running = some ⟨.active .flushWait, n⟩) : s.serveWaiting i = s.endOk i := by
  unfold State.serveWaiting
  rw [State.active_eq hq hr]

/-! ### A FLUSH ends (R141, R142) -/

/-- The DONE of a FLUSH that ended OK: it reports the last closed sequence (R142). -/
def flushDone (i : SiteId) (tag : Byte) (seq : Option (BitVec 16)) : DoneFrame := ⟨i, tag, .ok, none, 0, 0, seq, []⟩

/-- The part once a FLUSH that ran alone has ended (R9, R10, R142). -/
def State.flushEnded (i : SiteId) (tag : Byte) (s : State) : State :=
  (s.doneQueued (flushDone i tag s.results.sites[i].lastSeq)).modSite i fun x => { x with state := .idle }

/-- A FLUSH that runs alone ends OK before what else the event brings, and its site is IDLE. -/
theorem drain_endOk_flush {ts : List Task} (k : Nat) (ha : s.agenda = ts)
    (hts : ∀ d : DoneFrame, insertTask (.done d) ts = .done d :: ts) (hw : s.link.doneWaiting = [])
    (halone : s.runsAlone i ⟨tag, .flush⟩ ph n) : drain (k + 1) (s.endOk i) = drain k (s.flushEnded i tag) := by
  obtain ⟨hq, hr, hst, hheld, hc, hfree⟩ := halone
  unfold State.flushEnded
  generalize hD : flushDone i tag s.results.sites[i].lastSeq = D
  have hsite : D.site = i := by rw [← hD]; rfl
  have hdone : s.endOk i = (s.modSite i fun x => { x with running := some ⟨.ended, n⟩ }).push (.done D) := by
    rw [← hD]; exact State.finishStep_eq _ _ _ _ hq hr
  have hpop : ({ s.endOk i with agenda := ts } : State) = s.modSite i fun x => { x with running := some ⟨.ended, n⟩ } := by
    rw [hdone, ← ha]; rfl
  subst hsite
  rw [drain_cons k _ (.done D) ts (by rw [hdone, State.push_agenda, State.modSite_agenda, ha, hts]), hpop]
  refine congrArg (drain k) ((State.handleDone_room (by exact hfree) (by exact hw) ?_).trans ?_)
  · rw [State.modSite_get]; exact hc
  · rw [State.siteMovesOn_empty]
    · unfold State.doneQueued
      rw [State.modSite_modLink, State.modSite_modSite, State.modSite_modSite, State.modSite_modSite]
      exact State.modSite_congr (by simp only [State.modLink_sites, hq, List.tail_cons])
    all_goals simp only [State.modSite_get, State.modLink_sites]
    · exact hst
    · exact hheld
    · rw [hq]; rfl

/-- A FLUSH that closed its site's block waits where the block waits, and else completes (R141). -/
theorem State.closeNow_flush {st : Step} (hq : s.sites[i].queue = st :: rest)
    (hr : s.sites[i].running = some ⟨.active .flushWait, n⟩) : s.closeNow i c =
      if (s.closeBlock i c).results.sites[i].pos = .closedWaiting then s.closeBlock i c else (s.closeBlock i c).endOk i := by
  have hserve : (s.closeBlock i c).serveWaiting i = (s.closeBlock i c).endOk i :=
    State.serveWaiting_flush (st := st) (rest := rest) (n := n) (by rw [State.closeBlock_eq]; exact hq)
      (by rw [State.closeBlock_eq]; exact hr)
  unfold State.closeNow
  simp only [hserve]

/-! ### A FLUSH starts (R141) -/

/-- A FLUSH once it has closed its site's block: it waits where that block waits, and else has ended (R141). -/
def State.flushed (i : SiteId) (tag : Byte) (s : State) : State :=
  if s.results.sites[i].pos = .closedWaiting then s else s.flushEnded i tag

theorem State.flushed_agenda : (s.flushed i tag).agenda = s.agenda := by unfold State.flushed; split <;> rfl

theorem State.flushed_slots : (s.flushed i tag).link.slots = s.link.slots := by unfold State.flushed; split <;> rfl

theorem State.flushed_replies : (s.flushed i tag).link.replies = s.link.replies := by
  unfold State.flushed; split <;> rfl

/-- With the look at the next frame alone behind it, a FLUSH that has closed its site's block comes to its end or waits. -/
theorem drain_flushed (k : Nat) (ha : s.agenda = [.dispatch]) (hs : s.link.slots = []) (hw : s.link.doneWaiting = [])
    (halone : s.runsAlone i ⟨tag, .flush⟩ ph n) :
    drain (k + 2) (if s.results.sites[i].pos = .closedWaiting then s else s.endOk i) =
      { s.flushed i tag with agenda := [] } := by
  unfold State.flushed
  split_ifs
  · exact drain_dispatch (k + 1) ha hs
  · have hlast (d : DoneFrame) : insertTask (.done d) [.dispatch] = [.done d, .dispatch] := by
      rw [insertTask_cons, if_pos (by have := d.site.isLt; simp only [Task.rank]; omega)]
    rw [drain_endOk_flush (k + 1) ha hlast hw halone]
    exact drain_dispatch k ha hs

/-- The phase that a step leaves as it ends has no part in its end. -/
theorem State.setPhase_endOk {st : Step} {p : Progress} (hq : s.sites[i].queue = st :: rest)
    (hr : s.sites[i].running = some ⟨p, n⟩) (ph : Phase) : (s.setPhase i ph).endOk i = s.endOk i := by
  have hrun : (s.setPhase i ph).sites[i].running = some ⟨.active ph, n⟩ := by
    unfold State.setPhase
    rw [State.modSite_get, hr]; rfl
  unfold State.endOk
  rw [State.finishStep_eq _ _ _ _ hq hr, State.finishStep_eq (s := s.setPhase i ph) (st := st) (rest := rest) _ _ _ _
    (by unfold State.setPhase; rw [State.modSite_get]; exact hq) hrun]
  unfold State.setPhase
  rw [State.modSite_modSite]
  rfl

/-- A FLUSH at a site without an open block waits where a closed one waits, and else ends (R141). -/
theorem State.startFlush_unopened {st : Step} {p : Progress} (hq : s.sites[i].queue = st :: rest)
    (hr : s.sites[i].running = some ⟨p, n⟩)
    (hpos : ¬∃ (cap : Nat) (rs : List Reading), s.results.sites[i].pos = .opened cap rs) : s.startFlush i =
      if s.results.sites[i].pos = .closedWaiting then s.setPhase i .flushWait else (s.setPhase i .flushWait).endOk i := by
  unfold State.startFlush
  split
  · next h => exact absurd ⟨_, _, h⟩ hpos
  · next h => rw [if_pos h]
  · next h => rw [h, if_neg (by decide), State.setPhase_endOk hq hr]

/-- A FLUSH at a site with an open block notes its closing and waits for it (R141). -/
theorem State.startFlush_opened {cap : Nat} {rs : List Reading} (hpos : s.results.sites[i].pos = .opened cap rs)
    (hc : s.closing i = false) : s.startFlush i = (s.setPhase i .flushWait).push (.closure i .flush) := by
  unfold State.startFlush
  simp only [hpos, State.noteClosure_push _ hc]
  rfl

/-- A FLUSH that starts behind a request's reply: it closes its site's block, and waits or ends (R141, R142). -/
theorem drain_startFlush (k : Nat) (ha : s.agenda = [.dispatch]) (hs : s.link.slots = []) (hw : s.link.doneWaiting = [])
    (halone : s.runsAlone i ⟨tag, .flush⟩ .starting 0) : drain (k + 3) (s.startFlush i) =
      { ((s.setPhase i .flushWait).closeBlock i .flush).flushed i tag with agenda := [] } := by
  have ⟨hq, hr, hst, hheld, hc, hfree⟩ := halone
  have hwait : (s.setPhase i .flushWait).runsAlone i ⟨tag, .flush⟩ .flushWait 0 := by
    rw [State.setPhase_eq hr]
    unfold State.runsAlone
    rw [State.modSite_get]
    exact ⟨hq, rfl, hst, hheld, hc, hfree⟩
  by_cases hopen : ∃ (cap : Nat) (rs : List Reading), s.results.sites[i].pos = .opened cap rs
  · obtain ⟨cap, rs, hpos⟩ := hopen
    have ⟨hvq, hvr, _⟩ := hwait
    have hfirst : s.closing i = false := by unfold State.closing; rw [ha]; rfl
    have hagenda : ((s.setPhase i .flushWait).push (.closure i .flush)).agenda = [.closure i .flush, .dispatch] := by
      rw [State.push_agenda, show (s.setPhase i .flushWait).agenda = [.dispatch] from ha, insertTask_cons,
        if_pos (by have := i.isLt; simp only [Task.rank]; omega)]
    have hpop : ({ (s.setPhase i .flushWait).push (.closure i .flush) with agenda := [.dispatch] } : State) =
        s.setPhase i .flushWait := by rw [← ha]; rfl
    rw [State.startFlush_opened hpos hfirst, drain_cons _ _ _ _ hagenda, hpop]
    refine (congrArg (drain (k + 2)) (State.closeNow_flush hvq hvr)).trans
      (drain_flushed (ph := .flushWait) (n := 0) k ?_ ?_ ?_ ?_)
    all_goals rw [State.closeBlock_eq]
    · exact ha
    · exact hs
    · exact hw
    · exact hwait
  · have hclose : (s.setPhase i .flushWait).closeBlock i .flush = s.setPhase i .flushWait :=
      State.closeBlock_unrecorded fun cap rs h => absurd ⟨cap, rs, h⟩ hopen
    rw [State.startFlush_unopened hq hr hopen, hclose]
    exact drain_flushed (s := s.setPhase i .flushWait) (k + 1) ha hs hw hwait

/-- The head step of a site's queue is a FLUSH, and nothing stands behind it (R9). -/
theorem drain_startHead_flush (k : Nat) (ha : s.agenda = [.dispatch]) (hs : s.link.slots = [])
    (hw : s.link.doneWaiting = []) (hfree : s.link.completion.length < 16) (hq : s.sites[i].queue = [⟨tag, .flush⟩])
    (hh : s.sites[i].held = false) (hc : s.sites[i].carried = [])
    (hu : (s.modSite i fun x => { x with state := .running, running := some ⟨.active .flushWait, 0⟩ }) = u) :
    drain (k + 3) (s.startHead i) = { (u.closeBlock i .flush).flushed i tag with agenda := [] } := by
  generalize hv : s.modSite i (fun x => { x with state := .running, running := some ⟨.active .starting, 0⟩ }) = v
  have hsite : v.sites[i] = { s.sites[i] with state := .running, running := some ⟨.active .starting, 0⟩ } := by
    rw [← hv, State.modSite_get]
  have hstart : s.startHead i = v.startFlush i := by
    unfold State.startHead
    rw [hq, ← hv]
  have hrun : v.sites[i].running = some ⟨.active .starting, 0⟩ := by rw [hsite]
  have halone : v.runsAlone i ⟨tag, .flush⟩ .starting 0 := by
    unfold State.runsAlone
    rw [hsite]
    exact ⟨hq, rfl, rfl, hh, hc, hv ▸ hfree⟩
  have hwaits : v.setPhase i .flushWait = u := by
    rw [State.setPhase_eq hrun, ← hv, ← hu, State.modSite_modSite]
  rw [hstart, drain_startFlush k (hv ▸ ha) (hv ▸ hs) (hv ▸ hw) halone, hwaits]

/-! ### STEP FLUSH (R5, R141) -/

/-- A FLUSH passes the checks of R5 at an IDLE site with a reach and an empty queue. -/
theorem State.acceptStep_flush (hr : s.sites[i].reach.range ≠ none) (hst : s.sites[i].state = .idle)
    (hq : s.sites[i].queue = []) : s.acceptStep i tag .flush = .ok .flush := by
  rw [State.acceptStep_fields]
  · rfl
  · exact Option.isNone_eq_false_iff.mpr (Option.isSome_iff_ne_none.mpr hr)
  · rw [hst]; rfl
  · rw [hq]; decide
  · rw [hq]; rfl

/-- What a STEP comes to that starts the head of its site's queue, by what that start and its follow-ups leave. -/
theorem exec_step_of_drain {c : Instr} {r : StepReq} {b : StepBody} (hc : stepCommand c = some (tag, siteByte i, r))
    (hw : c.wellFormed = true) (hr : s.ready) (hf : s.fullReset = false) (hok : s.acceptStep i tag r = .ok b)
    (hst : s.sites[i].state = .idle ∨ s.sites[i].state = .running) (hh : s.sites[i].held = false)
    (hrun : s.sites[i].running = none)
    (hu : (((s.arrive.modSite i fun x => { x with queue := x.queue ++ [⟨tag, b⟩] }).reply 0x02 tag (siteByte i) .ok
      []).modLink fun k => { k with marker := some (0x02, siteByte i) }) = u)
    (hd : drain 4094 ((u.push .dispatch).startHead i) = v) (ha : v.agenda = []) (hs : v.link.slots = [])
    (hrep : v.link.replies ≠ []) : exec c s = .next v.transmit := by
  have htake := State.takeStep_accepted (s := s.arrive) (i := i) (tag := tag) (r := r) (b := b) (by simpa using hf)
    (by simpa using hok)
  rw [exec_stepCommand hc]
  refine request_of_drain hr (requestFits_of_stepCommand hc hw) ((request_drain_next (i := i) htake ?_ ?_).trans ?_) ha hs
    hrep
  · simpa using hr.2.2.1
  · refine State.mayStart_of ?_ ?_ ?_ ?_
    all_goals rw [State.reply_sites, State.modSite_get, State.arrive_sites]
    · exact hst
    · exact hh
    · exact hrun
    · exact List.append_ne_nil_of_right_ne_nil _ (List.cons_ne_nil _ _)
  · subst hu; exact hd

/-- A look at the next frame that has come and gone leaves no trace. -/
theorem State.flushed_dispatched (ha : s.agenda = []) :
    ({ ((s.push .dispatch).closeBlock i c).flushed i tag with agenda := [] } : State) = (s.closeBlock i c).flushed i tag := by
  rw [State.closeBlock_eq, State.closeBlock_eq, State.push_results]
  generalize closedResults i c s.results = r
  unfold State.flushed
  cases s; simp only at ha; subst ha
  by_cases hpos : r.sites[i].pos = .closedWaiting
  · rw [if_pos (by exact hpos), if_pos (by exact hpos)]; rfl
  · rw [if_neg (by exact hpos), if_neg (by exact hpos)]; rfl

/-- STEP FLUSH at an idle site: behind its reply it closes the site's block, and waits or ends (R141, R142). -/
theorem exec_stepFlush (hr : s.ready) (hf : s.fullReset = false) (hw : s.link.doneWaiting = [])
    (hfree : s.link.completion.length < 16) (hreach : s.sites[i].reach.range ≠ none) (hst : s.sites[i].state = .idle)
    (hq : s.sites[i].queue = []) (hrun : s.sites[i].running = none) (hh : s.sites[i].held = false)
    (hc : s.sites[i].carried = [])
    (hu : (((s.arrive.modSite i fun x =>
        { x with state := .running, queue := [⟨tag, .flush⟩], running := some ⟨.active .flushWait, 0⟩ }).reply 0x02 tag
        (siteByte i) .ok []).modLink fun k => { k with marker := some (0x02, siteByte i) }) = u) :
    exec (.stepFlush tag (siteByte i)) s = .next ((u.closeBlock i .flush).flushed i tag).transmit := by
  have hag : s.arrive.agenda = [] := by rw [State.arrive_agenda, hr.2.2.1]
  have hjoined : (s.arrive.modSite i fun x => { x with queue := x.queue ++ [⟨tag, .flush⟩] }) =
      s.arrive.modSite i fun x => { x with queue := [⟨tag, .flush⟩] } :=
    State.modSite_congr (by simp only [State.arrive_sites, hq, List.nil_append])
  generalize hv : ((s.arrive.modSite i fun x => { x with queue := [⟨tag, .flush⟩] }).reply 0x02 tag (siteByte i) .ok
    []).modLink (fun k => { k with marker := some (0x02, siteByte i) }) = v
  have hsite : (v.push .dispatch).sites[i] = { s.sites[i] with queue := [⟨tag, .flush⟩] } := by
    rw [← hv, State.push_sites, State.modLink_sites, State.reply_sites, State.modSite_get, State.arrive_sites]
  have hruns : ((v.push .dispatch).modSite i fun x =>
      { x with state := .running, running := some ⟨.active .flushWait, 0⟩ }) = u.push .dispatch := by
    rw [← hv, ← hu]
    simp only [State.reply, State.replyWith, State.modLink, State.modSite, State.push, upd_upd]
  have hend : drain 4094 ((v.push .dispatch).startHead i) = (u.closeBlock i .flush).flushed i tag := by
    refine (drain_startHead_flush 4091 ?_ ?_ ?_ ?_ ?_ ?_ ?_ hruns).trans
      (State.flushed_dispatched (by rw [← hu]; exact hag))
    · rw [State.push_agenda, show v.agenda = [] by rw [← hv]; exact hag, insertTask_nil]
    · rw [← hv]; simp
    · rw [← hv]; simpa using hw
    · rw [← hv]; simpa using hfree
    · rw [hsite]
    · rw [hsite]; exact hh
    · rw [hsite]; exact hc
  refine exec_step_of_drain rfl rfl hr hf (State.acceptStep_flush hreach hst hq) (.inl hst) hh hrun (by rw [hjoined, hv])
    hend ?_ ?_ ?_
  · rw [State.flushed_agenda, State.closeBlock_eq, ← hu]; exact hag
  · rw [State.flushed_slots, State.closeBlock_eq, ← hu]; simp
  · rw [State.flushed_replies, State.closeBlock_eq, ← hu]; simp

/-- A site whose only step has come and gone is as it was (R9, R10). -/
theorem Site.rested_eq {x : Site} (hst : x.state = .idle) (hq : x.queue = []) (hr : x.running = none) :
    { x with state := .idle, queue := [], running := none } = x := by
  cases x; simp only at hst hq hr; subst hst hq hr; rfl

/-- Settles O45: the closing and the placing by the site's position, then the waiters of a block that is admitted, and
FLUSH. -/
theorem resultBlocks : Obligations.ResultBlocks := by
  refine ⟨fun s i c => ⟨fun cap rs hpos hrs => ?_, State.closeBlock_unrecorded, State.noteClosure_push c,
      State.noteClosure_noted c⟩,
    fun s i j c e hij ha hm hi hj => ?_, fun s i r hres => ⟨fun hpos => ?_, fun cap rs hpos => ?_⟩,
    fun s x b w bs ws hp hl ha hs hd hrts htx hx hr hc hn ho hw hroom => ?_,
    fun tag i s hr hf hd hfree hreach hst hq hrun hh hc => ?_⟩
  · exact ⟨State.closeBlock_joins hpos hrs, State.closeBlock_waits hpos hrs⟩
  · intro t
    have hrank : i.val < j.val := hij
    have hij' : insertTask (.closure j e) [.closure i c] = [.closure i c, .closure j e] := by
      rw [insertTask_cons, if_neg (by simp only [Task.rank]; omega), insertTask_nil]
    have hji : insertTask (.closure i c) [.closure j e] = [.closure i c, .closure j e] := by
      rw [insertTask_cons, if_pos (by simp only [Task.rank]; omega)]
    rw [State.noteClosure_noteClosure (ne_of_lt hij) ha, State.noteClosure_noteClosure (ne_of_gt hij) ha, hij', hji]
    exact ⟨State.finish_closures ha hm hi hj, State.finish_closures ha hm hi hj⟩
  · have hplace := State.place_empty (r := r) hres hpos
    exact ⟨fun hfill => hplace.trans (if_neg (Nat.not_le.mpr hfill)), fun hfill => hplace.trans (if_pos hfill)⟩
  · have hplace := State.place_opened (r := r) hres hpos
    exact ⟨fun hroom => hplace.trans (if_neg (Nat.not_le.mpr hroom)), fun hfull => hplace.trans (if_pos hfull)⟩
  · intro i base
    have hexec : exec .txFrameEnd s = s.frameSent.finish := if_pos hp
    have hsettle : s.frameSent.settle = drain Config.cascadeBound (base.serveWaiting i) :=
      State.frameSent_settle_result hl ha hrts htx hx hr hc hn ho hw hroom
    rw [hexec]
    refine ⟨fun hrun => ?_, fun t m rest n hq hrun => ?_, fun t n halone => ?_⟩
    · rw [State.serveWaiting_idle base i hrun, drain_nil _ _ (by exact ha)] at hsettle
      exact State.finish_of_settle hsettle ha
    · rw [State.serveWaiting_room (s := base) hq hrun, State.giveRoom_measure (s := base) hq hrun,
        drain_nil _ _ (by exact ha)] at hsettle
      exact State.finish_of_settle hsettle ha
    · have ⟨hq, hrun, hst, hheld, hcar, _⟩ := halone
      have hbase : base.runsAlone i ⟨t, .flush⟩ .flushWait n :=
        ⟨hq, hrun, hst, hheld, hcar, by rw [show base.link.completion = [] from hc]; decide⟩
      rw [State.serveWaiting_flush (s := base) hq hrun, show Config.cascadeBound = 4095 + 1 from rfl,
        drain_endOk_flush (s := base) 4095 ha (fun _ => rfl) hd hbase, drain_nil _ _ (by exact ha)] at hsettle
      have hseq : base.results.sites[i].lastSeq = s.results.sites[i].lastSeq := s.blockAdmitted_lastSeq b w bs ws
      unfold State.flushEnded at hsettle
      rw [hseq] at hsettle
      exact State.finish_of_settle hsettle ha
  · intro u
    have hu : u = { s.arrive with results := closedResults i .flush s.arrive.results } := State.closeBlock_eq _ _
    rw [exec_stepFlush hr hf hd hfree hreach hst hq hrun hh hc rfl, State.closeBlock_eq]
    unfold State.flushed
    refine ⟨fun hpos => ?_, fun hpos => ?_⟩
    · rw [if_pos (by rw [hu] at hpos; exact hpos), hu]
      rfl
    · have hback : upd s.arrive.sites i (fun x => { x with state := .idle, queue := [], running := none }) =
          s.arrive.sites :=
        upd_id _ _ _ (Site.rested_eq (by rw [State.arrive_sites, hst]) (by rw [State.arrive_sites, hq])
          (by rw [State.arrive_sites, hrun]))
      rw [if_neg (by rw [hu] at hpos; exact hpos), hu]
      simp only [State.flushEnded, State.doneQueued, State.answered, State.marked, State.reply, State.replyWith,
        State.modLink, State.modSite, flushDone, upd_upd, hback]

end Sys2Proof.Machine
end


section
set_option Elab.async false
/-! # The operation counts stay in canonical form (O55) -/

namespace Sys2Proof.Machine

variable {s t : State}

/-! ### Where the counts stand -/

theorem State.countsWf_of_eq (hs : s.countsWf) (hwear : t.health.lanes = s.health.lanes) (hstore : t.store = s.store) :
    t.countsWf := by
  unfold State.countsWf
  rw [hwear, hstore]
  exact hs

/-- The wear of one lane changes, and its counts stay in canonical form. -/
theorem State.countsWf_modWear (hs : s.countsWf) (l : LaneId) (f : LaneHealth → LaneHealth)
    (h : (f s.health.lanes[l]).counts.wf = true) : (s.modWear l f).countsWf := by
  refine ⟨fun k => ?_, hs.2⟩
  rw [State.modWear_get]; split
  · next e => subst e; exact h
  · exact hs.1 k

/-! ### The elementary changes -/

theorem Calm.keeps_counts (h : Calm s t) (hs : s.countsWf) : t.countsWf := by
  cases h with
  | aside _ _ _ _ _ hhealth hstore => exact State.countsWf_of_eq hs (congrArg Health.lanes hhealth) hstore
  | notice n => exact State.countsWf_of_eq hs (congrArg Health.lanes (s.notice_health n)) (s.notice_store n)
  | health f hlanes => exact State.countsWf_of_eq hs hlanes rfl
  | wear l f hwear => exact State.countsWf_modWear hs l f (hwear (hs.1 l))
  | store f _ hcounts => exact hcounts hs
  | link | enter | forget | site | accept | port | ports | lane | load | route | grant | condemned | results =>
    exact State.countsWf_of_eq hs rfl rfl

/-- The counts that an item hands over at a start-up are those stored (R182). -/
theorem Item.read_eq_some {α : Type} {b : α → List Byte} {x : Item α} {c : α} (h : x.read b = some c) : x.content = c := by
  unfold Item.read at h
  split at h
  · exact Option.some.inj h
  · cases h

/-- A lane comes up with the counts of its record, or without counts where the record fails its check (R165, R182). -/
theorem loadWear_counts_wf (rated : Nat) {x : Item (Counts × List Relay)} (h : storedCountsWf x = true) :
    (loadWear rated (x.read laneRecordBytes)).counts.wf = true := by
  cases hr : x.read laneRecordBytes with
  | none => rfl
  | some r =>
    rw [storedCountsWf, Item.read_eq_some hr] at h
    exact h

theorem State.loaded_counts (hs : s.countsWf) : s.loaded.countsWf := by
  refine ⟨fun l => ?_, hs.2.1, nofun⟩
  simp only [State.loaded, Fin.getElem_fin, Vector.getElem_ofFn]
  exact loadWear_counts_wf _ (hs.2.1 l)

theorem State.unpowered_counts (hs : s.countsWf) : s.unpowered.countsWf := by
  refine ⟨fun l => ?_, hs.2.1, nofun⟩
  simp [State.unpowered, State.reset, LaneHealth.fresh, Counts.wf]

theorem Change.keeps_counts (h : Change s t) (hs : s.countsWf) : t.countsWf := by
  cases h with
  | calm h => exact h.keeps_counts hs
  | loaded => exact State.loaded_counts hs
  | unpowered => exact State.unpowered_counts hs
  | notes | link | site | arm | remove | renew => exact State.countsWf_of_eq hs rfl rfl

/-- Settles O55: each elementary change keeps the counts in canonical form, and a start-up takes them from the store. -/
theorem countsKept : Obligations.CountsKept := fun _ _ hs h =>
  step_keeps (fun _ _ hu => State.countsWf_of_eq hu rfl rfl) Change.keeps_counts h hs

end Sys2Proof.Machine
end

section
set_option Elab.async false
/-! # The life percentage (O8) -/

namespace Sys2Proof.Machine

variable {L c : Nat}

/-- A life of at least `k` per cent, without the division (R154). -/
theorem le_lifePercent_iff (hL : 0 < L) (k : Nat) : k ≤ lifePercent L c ↔ k * L ≤ 100 * (L - min c L) :=
  Nat.le_div_iff_mul_le hL

theorem lifePercent_zero (hL : 0 < L) : lifePercent L 0 = 100 := by
  unfold lifePercent
  rw [Nat.zero_min, Nat.sub_zero, Nat.mul_div_cancel _ hL]

/-- Settles O8: each end value is a bound from below and one from above, which `le_lifePercent_iff` turns into bounds on
the count. -/
theorem lifePercentage : Obligations.LifePercentage := by
  intro L c hrated
  have hL : 0 < L := by omega
  have h1 := le_lifePercent_iff (c := c) hL 1
  have h99 := le_lifePercent_iff (c := c) hL 99
  have h100 := le_lifePercent_iff (c := c) hL 100
  have h101 := le_lifePercent_iff (c := c) hL 101
  refine ⟨rfl, ?_, ⟨fun h => ?_, fun h => ?_⟩, fun hone hc => ?_, fun hc => ?_⟩
  · omega
  · omega
  · rw [h, lifePercent_zero hL]
  · omega
  · omega

end Sys2Proof.Machine
end


section
set_option Elab.async false
/-! # HEALTH beside the store (O30, O42)

HEALTH's attributes, its record and the notices do not depend on which writes wait or run: a recomputation gives the same
whether an item became due before it or not. `State.withoutStore` leaves the store's work out of a state. -/

namespace Sys2Proof.Machine

variable {s t : State}

/-! ### The state without the store's work -/

/-- A state with the store at rest and no unsaved operation; the configuration in force stands (R152, R177). -/
def State.withoutStore (s : State) : State :=
  { s with
    store := { State.reset.store with config := s.store.config }
    health := { s.health with lanes := s.health.lanes.map fun x => { x with unsaved := 0 } } }

theorem State.eq_of_withoutStore {β : Type} (g : State → β) (h : t.withoutStore = s.withoutStore)
    (hg : ∀ u : State, g u.withoutStore = g u := by exact fun _ => rfl) : g t = g s :=
  (hg t).symm.trans ((congrArg g h).trans (hg s))

theorem State.withoutStore_wear (s : State) (k : LaneId) :
    s.withoutStore.health.lanes[k] = { s.health.lanes[k] with unsaved := 0 } := by
  simp only [State.withoutStore, Fin.getElem_fin, Vector.getElem_map]

theorem State.wear_of_withoutStore (h : t.withoutStore = s.withoutStore) (k : LaneId) :
    ({ t.health.lanes[k] with unsaved := 0 } : LaneHealth) = { s.health.lanes[k] with unsaved := 0 } := by
  rw [← State.withoutStore_wear, ← State.withoutStore_wear, h]

theorem State.config_of_withoutStore (h : t.withoutStore = s.withoutStore) : t.store.config = s.store.config :=
  State.eq_of_withoutStore (fun u => u.store.config) h

theorem State.lives_of_withoutStore (h : t.withoutStore = s.withoutStore) (k : LaneId) :
    (t.health.lanes[k]).life = (s.health.lanes[k]).life :=
  (LaneHealth.mk.inj (State.wear_of_withoutStore h k)).2.2.2.2

theorem State.healthCurrent_of_withoutStore (h : t.withoutStore = s.withoutStore) (hs : s.healthCurrent) :
    t.healthCurrent := by
  refine State.healthCurrent_of_eq hs (fun k => ?_) (State.config_of_withoutStore h) ?_ (State.lives_of_withoutStore h)
  · rw [State.eq_of_withoutStore State.lanes h]
  · exact State.eq_of_withoutStore (fun u => { u.health with lanes := s.health.lanes }) h

/-! ### What the store does -/

theorem State.modStore_withoutStore (f : Store → Store) (s : State) (h : (f s.store).config = s.store.config) :
    (s.modStore f).withoutStore = s.withoutStore := by
  unfold State.withoutStore
  rw [State.modStore_store, h]
  rfl

theorem State.modWear_withoutStore (l : LaneId) (s : State) :
    (s.modWear l fun x => { x with unsaved := 0 }).withoutStore = s.withoutStore := by
  have hmap : (upd s.health.lanes l fun x => { x with unsaved := 0 }).map (fun x => { x with unsaved := 0 }) =
      s.health.lanes.map fun x => { x with unsaved := 0 } := by
    rw [map_upd_congr s.health.lanes l _ (fun x => x) _ rfl, upd_id _ _ _ rfl]
  unfold State.withoutStore
  rw [State.modWear_health, hmap]
  rfl

theorem State.due_withoutStore (it : ItemId) (s : State) : (s.due it).withoutStore = s.withoutStore :=
  State.due_frame State.withoutStore (fun f t h => t.modStore_withoutStore f h) (fun l t => t.modWear_withoutStore l) it s

theorem State.touchIf_withoutStore (c : Bool) (it : ItemId) (s : State) :
    (s.touchIf c it).withoutStore = s.withoutStore := by
  rw [State.touchIf_eq]
  exact s.modStore_withoutStore _ rfl

theorem State.healthDue_withoutStore (old : HealthRecord) (s : State) :
    (s.healthDue old).withoutStore = s.withoutStore :=
  State.healthDue_frame State.withoutStore (fun f t h => t.modStore_withoutStore f h) (fun l t => t.modWear_withoutStore l)
    old s

/-! ### The recomputation (R155 to R158) -/

/-- A notice that is raised on equal links under equal configurations. -/
theorem State.notice_link_congr (hlink : t.link = s.link) (hconfig : t.store.config = s.store.config) (n : Notice) :
    (t.notice n).link = (s.notice n).link := by
  have hmask : t.noticeMask = s.noticeMask := by simp only [State.noticeMask, hconfig]
  rw [State.notice_eq, State.notice_eq, State.modLink_link, State.modLink_link, hlink, hmask]

theorem State.notice_withoutStore (n : Notice) (s : State) : (s.notice n).withoutStore = s.withoutStore.notice n := by
  rw [State.notice_eq, State.notice_eq]
  rfl

theorem State.leastLife_withoutStore (s : State) : s.withoutStore.leastLife = s.leastLife := by
  have hservice : s.withoutStore.serviceLanes = s.serviceLanes := rfl
  unfold State.leastLife
  simp only [hservice, State.withoutStore_wear]

theorem State.levelReached_withoutStore (s : State) : s.withoutStore.levelReached = s.levelReached := by
  have hservice : s.withoutStore.serviceLanes = s.serviceLanes := rfl
  have hthreshold : s.withoutStore.levelThreshold = s.levelThreshold := rfl
  unfold State.levelReached
  simp only [hservice, hthreshold, State.withoutStore_wear]

/-- A recomputation does not look at the store's work. -/
theorem State.recompute_withoutStore (s : State) : s.recompute.withoutStore = s.withoutStore.recompute := by
  have hservice : s.withoutStore.serviceLanes = s.serviceLanes := rfl
  have hneed : s.withoutStore.laneNeed = s.laneNeed := rfl
  have hthreshold : s.withoutStore.lifeThreshold = s.lifeThreshold := rfl
  have hlow : s.withoutStore.health.low = s.health.low := rfl
  unfold State.recompute
  simp only [hservice, hneed, hthreshold, hlow, s.leastLife_withoutStore, s.levelReached_withoutStore]
  split
  · rfl
  · rw [State.notice_withoutStore]
    rfl

theorem State.recompute_congr (h : t.withoutStore = s.withoutStore) :
    t.recompute.withoutStore = s.recompute.withoutStore := by
  rw [State.recompute_withoutStore, State.recompute_withoutStore, h]

/-- A second recomputation changes nothing. -/
theorem State.recompute_recompute (s : State) : s.recompute.recompute = s.recompute := by
  have hservice : s.recompute.serviceLanes = s.serviceLanes := by
    unfold State.serviceLanes; rw [State.recompute_lanes]
  have hconfig : s.recompute.store.config = s.store.config := by rw [State.recompute_store]
  have hneed : s.recompute.laneNeed = s.laneNeed := by simp only [State.laneNeed, State.cfg, hconfig]
  have hthreshold : s.recompute.lifeThreshold = s.lifeThreshold := by simp only [State.lifeThreshold, State.cfg, hconfig]
  have hlevel : s.recompute.levelThreshold = s.levelThreshold := by simp only [State.levelThreshold, State.cfg, hconfig]
  have hwear : s.recompute.health.lanes = s.health.lanes := by rw [State.recompute_health]
  have hlife : s.recompute.leastLife = s.leastLife := by unfold State.leastLife; rw [hservice, hwear]
  have hreached : s.recompute.levelReached = s.levelReached := by unfold State.levelReached; rw [hservice, hwear, hlevel]
  have hhealth : s.recompute.recompute.health = s.recompute.health := by
    rw [s.recompute.recompute_health, hservice, hneed, hthreshold, hlife, hreached, s.recompute_health]
    simp only [min_assoc, min_self, Bool.or_assoc, Bool.or_self]
  have hsame : s.recompute.recompute = s.recompute.modHealth fun _ => s.recompute.recompute.health := by
    rw [State.recompute_health]
    conv_lhs => unfold State.recompute
    simp only
    rw [if_pos]
    · rfl
    · exact (congrArg Health.low (s.recompute.recompute_health)).symm.trans (congrArg Health.low hhealth)
  rw [hsame, hhealth]
  rfl

/-- The HEALTH notice of a recomputation: raised exactly where STATE changed (R157). -/
theorem State.recompute_link (s : State) : s.recompute.link =
    if s.recompute.health.low = s.health.low then s.link
    else (s.notice (.health s.recompute.health.low s.recompute.health.life s.recompute.health.spares)).link := by
  rw [State.recompute_health]
  unfold State.recompute
  simp only
  split
  · rfl
  · exact State.notice_link_congr (by rfl) (by rfl) _

theorem State.levelReached_iff (s : State) : s.levelReached = true ↔
    ∃ k : LaneId, s.lanes[k].state ≠ .retired ∧ (s.health.lanes[k]).life ≤ s.levelThreshold := by
  unfold State.levelReached
  rw [State.serviceLanes_eq]
  simp only [List.any_eq_true, List.mem_filter, mem_allLanes, true_and, decide_eq_true_eq]

/-- The latch after a recomputation: set where it was set or a lane in service has reached LEVEL_THRESHOLD (R158). -/
theorem State.recompute_latch_iff (s : State) : s.recompute.health.record.latch = true ↔
    s.health.record.latch = true ∨
      ∃ k : LaneId, s.lanes[k].state ≠ .retired ∧ (s.health.lanes[k]).life ≤ s.levelThreshold := by
  rw [State.recompute_health, ← State.levelReached_iff]
  exact Bool.or_eq_true_iff

/-! ### An item that becomes due (R177) -/

/-- A pending-write set that an item joins, unless it stands in it. -/
def joined (it : ItemId) (ws : List ItemId) : List ItemId := if it ∈ ws then ws else ws ++ [it]

theorem mem_joined (it : ItemId) (ws : List ItemId) : it ∈ joined it ws := by
  unfold joined; split
  · assumption
  · simp

theorem mem_joined_of_mem {k : ItemId} {ws : List ItemId} (h : k ∈ ws) (it : ItemId) : k ∈ joined it ws := by
  unfold joined; split
  · exact h
  · exact List.mem_append_left _ h

theorem State.beginWrite_busy (h : s.store.inFlight ≠ none) : s.beginWrite = s := by
  unfold State.beginWrite
  split
  · next hn _ => exact absurd hn h
  · rfl

/-- While a write is in flight, an item that becomes due joins the pending-write set, and nothing else changes. -/
theorem State.due_joins (it : ItemId) (h : s.store.inFlight ≠ none) :
    s.due it = s.modStore fun t => { t with pendingWrites := joined it t.pendingWrites } := by
  unfold State.due
  simp only [List.contains_iff_mem]
  split
  · next hmem =>
    refine (State.beginWrite_busy h).trans (State.modStore_congr (s := s) (fun t => t) _ ?_)
    rw [joined, if_pos hmem]
  · next hmem =>
    refine (State.beginWrite_busy (by exact h)).trans (State.modStore_congr _ _ ?_)
    rw [joined, if_neg hmem]

/-- On an idle store, the record of a lane that becomes due begins to be written, and the lane's unsaved sum is 0
(R152). -/
theorem State.due_lane_idle (l : LaneId) (hf : s.store.inFlight = none) (hp : s.store.pendingWrites = [])
    (hphase : s.inPhase .startup = false) : s.due (laneItem l) = (s.modStore fun t => { t with
      inFlight := some ⟨.lane l s.health.lanes[l].counts s.health.lanes[l].marks, false⟩
      awaits := t.awaits.map fun a => if a.item = laneItem l then { a with begun := true } else a }).modWear l
        fun x => { x with unsaved := 0 } := by
  have hphase' (f : Store → Store) : (s.modStore f).inPhase .startup = false := hphase
  have hlane : (laneItem l).val < 16 := l.isLt
  have hcontent (f : Store → Store) : (s.modStore f).itemContent (laneItem l) =
      .lane l s.health.lanes[l].counts s.health.lanes[l].marks := dif_pos hlane
  unfold State.due State.beginWrite
  simp only [hp, List.contains_nil, Bool.false_eq_true, if_false, State.modStore_store, hf, List.nil_append, hphase',
    hcontent, hlane, dite_true]
  rw [State.modStore_modStore]
  refine congrArg (State.modWear l fun x => { x with unsaved := 0 }) (State.modStore_congr _ _ ?_)
  simp only [← hp]
  rfl

/-- An item that becomes due is under way or waits behind a write, unless a FULL reset is past its reply (R177, R184). -/
theorem State.due_inFlight (hphase : s.inPhase .startup = false) (it : ItemId) : (s.due it).store.inFlight ≠ none := by
  by_cases hf : s.store.inFlight = none
  · have hbegin (t : State) (ht : t.inPhase .startup = false) (hw : t.store.inFlight = none)
        (hmem : t.store.pendingWrites ≠ []) : t.beginWrite.store.inFlight ≠ none := by
      obtain ⟨k, ks, hk⟩ := List.exists_cons_of_ne_nil hmem
      unfold State.beginWrite
      simp only [hw, hk, ht, Bool.false_eq_true, if_false]
      split <;> exact Option.some_ne_none _
    unfold State.due
    split
    · next hc => exact hbegin s hphase hf (by rintro hnil; simp [hnil] at hc)
    · exact hbegin _ hphase hf (by simp)
  · rw [State.due_joins it hf]; exact hf

end Sys2Proof.Machine
end


section
set_option Elab.async false
/-! # LANE_RENEW, the attributes and retirement (O30) -/

namespace Sys2Proof.Machine

variable {s t : State} {l : LaneId} {tag : Byte}

/-! ### Notices by their kinds (R193) -/

theorem State.notice_raised (n : Notice) (h : s.noticeMask.getLsbD n.kind.val = true) :
    ∃ e : NoticeEntry, (s.notice n).link.notices[n.kind] = some e ∧ e.notice = n := by
  rw [State.notice_eq, State.modLink_link, if_pos h, upd_get, if_pos rfl]
  exact ⟨_, rfl, rfl⟩

theorem State.notice_other {k : Fin 9} (n : Notice) (h : n.kind ≠ k) :
    (s.notice n).link.notices[k] = s.link.notices[k] := by
  rw [State.notice_eq, State.modLink_link]
  split
  · rw [upd_get, if_neg h]
  · rfl

/-! ### Retirement (R160) -/

theorem State.retire_lanes (s : State) (l : LaneId) :
    (s.retire l).lanes = upd s.lanes l fun x => { x with state := .retired } := by
  simp only [State.retire, State.recompute_lanes, State.notice_lanes, State.modLane_lanes]

/-- LANE_RETIRED stands among the notices of a retirement, whatever its recomputation raises (R160, R193). -/
theorem State.retire_notice (l : LaneId) (h : s.noticeMask.getLsbD 2 = true) :
    ∃ e : NoticeEntry, (s.retire l).link.notices[(2 : Fin 9)] = some e ∧ e.notice =
      .laneRetired l (decide (s.health.lanes[l].marks = [])) s.health.lanes[l].life s.health.lanes[l].marks.length := by
  have hmarks : s.health.lanes[l].marks.isEmpty = decide (s.health.lanes[l].marks = []) := by
    cases s.health.lanes[l].marks <;> rfl
  have hrecompute (u : State) : u.recompute.link.notices[(2 : Fin 9)] = u.link.notices[(2 : Fin 9)] := by
    rw [State.recompute_link]
    split
    · rfl
    · exact State.notice_other _ (by simp only [Notice.kind]; decide)
  rw [← hmarks]
  unfold State.retire
  rw [hrecompute]
  exact State.notice_raised (s := s.modLane l fun x => { x with state := .retired }) (.laneRetired l _ _ _) h

/-! ### The effects of a LANE_RENEW (R163) -/

/-- The lane is without wear and in service. -/
def State.withFreshLane (l : LaneId) (s : State) : State :=
  ((s.modWear l fun _ => LaneHealth.fresh).computeLife l).modLane l fun x => { x with state := .free }

/-- The leveling latch and LIFE_WORST start anew from the attributes. -/
def State.withNewWorst (s : State) : State := s.modHealth fun h =>
  { h with record := { h.record with latch := h.record.latch && s.levelReached, lifeWorst := h.life } }

/-- The attributes and the record after a renewal. -/
def State.renewedFigures (l : LaneId) (s : State) : State := (s.withFreshLane l).recompute.withNewWorst

/-- The request waits for its two items, each touched where its RAM copy changed (R164, R176). -/
def State.renewAwaited (l : LaneId) (tag : Byte) (lane record : Bool) (s : State) : State :=
  ((s.await ⟨.laneRenew l, tag, []⟩ [laneItem l, healthItem]).touchIf lane (laneItem l)).touchIf record healthItem

/-- A renewal of a lane without a route, where no CONNECT waits for a lane. -/
theorem State.renewLane_eq (tag : Byte) (hw : s.laneWaiters = [])
    (hst : s.lanes[l].state = .free ∨ s.lanes[l].state = .retired) : ∃ lane record : Bool,
      s.renewLane l tag = (((s.renewedFigures l).renewAwaited l tag lane record).due (laneItem l)).due healthItem := by
  have hfree : (if ((s.modWear l fun _ => LaneHealth.fresh).computeLife l).lanes[l].state = .retired then
      (((s.modWear l fun _ => LaneHealth.fresh).computeLife l).modLane l fun x =>
        { x with state := .free }).serveLaneWaiters
      else (s.modWear l fun _ => LaneHealth.fresh).computeLife l) = s.withFreshLane l := by
    rcases hst with hst | hst
    · rw [if_neg (by exact fun h => nomatch hst.symm.trans h)]
      refine (State.modLane_id ?_).symm
      exact congrArg (fun st => ({ s.lanes[l] with state := st } : Lane)) hst.symm
    · rw [if_pos (by exact hst)]
      exact State.serveLaneWaiters_none (.inl hw)
  unfold State.renewLane
  simp only [hfree]
  exact ⟨_, _, rfl⟩

theorem State.withFreshLane_wear (h : 1000 ≤ s.ratedLife) (k : LaneId) :
    (s.withFreshLane l).health.lanes[k] = if l = k then LaneHealth.fresh else s.health.lanes[k] := by
  unfold State.withFreshLane State.computeLife
  rw [State.modLane_health, State.modWear_get, State.modWear_get]
  split
  · have hlife : lifePercent (s.modWear l fun _ => LaneHealth.fresh).ratedLife 0 = 100 :=
      lifePercent_zero (show 0 < s.ratedLife by omega)
    exact congrArg (fun n => ({ LaneHealth.fresh with life := n } : LaneHealth)) hlife
  · rfl

theorem State.renewedFigures_wear (h : 1000 ≤ s.ratedLife) (k : LaneId) :
    (s.renewedFigures l).health.lanes[k] = if l = k then LaneHealth.fresh else s.health.lanes[k] := by
  rw [← State.withFreshLane_wear h]
  unfold State.renewedFigures State.withNewWorst
  rw [State.modHealth_health, State.recompute_health]

theorem State.renewedFigures_lanes (s : State) (l : LaneId) :
    (s.renewedFigures l).lanes = upd s.lanes l fun x => { x with state := .free } :=
  (s.withFreshLane l).recompute_lanes

theorem State.withNewWorst_current (hs : s.healthCurrent) : s.withNewWorst.healthCurrent := by
  obtain ⟨hservice, hspares, hpct, hnone, hsome, hle, hlow, -⟩ := hs
  exact ⟨hservice, hspares, hpct, hnone, hsome, hle, hlow, le_rfl⟩

/-- The latch after a renewal tells whether a lane in service has reached LEVEL_THRESHOLD (R158, R163). -/
theorem State.withNewWorst_latch_iff (s : State) : s.recompute.withNewWorst.health.record.latch = true ↔
    ∃ k : LaneId, s.lanes[k].state ≠ .retired ∧ (s.health.lanes[k]).life ≤ s.levelThreshold := by
  have hthreshold : s.recompute.levelThreshold = s.levelThreshold := by
    simp only [State.levelThreshold, State.cfg, State.recompute_store]
  have hwear : s.recompute.health.lanes = s.health.lanes := by rw [State.recompute_health]
  have hreached := s.recompute.levelReached_iff
  rw [State.recompute_lanes, hwear, hthreshold] at hreached
  have hlatch : s.recompute.withNewWorst.health.record.latch =
      (s.recompute.health.record.latch && s.recompute.levelReached) := rfl
  rw [hlatch, Bool.and_eq_true, State.recompute_latch_iff, hreached]
  exact ⟨And.right, fun h => ⟨.inr h, h⟩⟩

theorem State.renewAwaited_withoutStore (l : LaneId) (tag : Byte) (lane record : Bool) (s : State) :
    (s.renewAwaited l tag lane record).withoutStore = s.withoutStore := by
  unfold State.renewAwaited
  rw [State.touchIf_withoutStore, State.touchIf_withoutStore]
  exact s.modStore_withoutStore _ rfl

theorem State.renewAwaited_health (l : LaneId) (tag : Byte) (lane record : Bool) (s : State) :
    (s.renewAwaited l tag lane record).health = s.health := by
  unfold State.renewAwaited
  rw [State.touchIf_eq, State.touchIf_eq]
  rfl

theorem State.renewAwaited_hasReq (l : LaneId) (tag : Byte) (lane record : Bool) (s : State) :
    (s.renewAwaited l tag lane record).hasReq (.laneRenew l) = true := by
  unfold State.renewAwaited
  rw [State.touchIf_eq, State.touchIf_eq]
  unfold State.hasReq State.await
  simp only [State.modStore_store, List.any_append, List.any_cons, decide_true, Bool.true_or, Bool.or_true]

theorem State.renewedFigures_withoutHealth (l : LaneId) (s : State) :
    (s.renewedFigures l).withoutHealth = s.withoutHealth := by
  have hrecompute := State.recompute_withoutHealth (s.withFreshLane l)
  have hlane := State.laneState_withoutHealth l .free ((s.modWear l fun _ => LaneHealth.fresh).computeLife l)
  exact hrecompute.trans hlane

theorem State.renewAwaited_withoutHealth (l : LaneId) (tag : Byte) (lane record : Bool) (s : State) :
    (s.renewAwaited l tag lane record).withoutHealth = s.withoutHealth := by
  unfold State.renewAwaited
  rw [State.touchIf_withoutHealth, State.touchIf_withoutHealth]
  exact s.modStore_withoutHealth _ rfl

/-! ### The two writes (R163, R177) -/

/-- An item that becomes due takes no request away. -/
theorem State.due_hasReq (it : ItemId) (o : Owner) (s : State) : (s.due it).hasReq o = s.hasReq o := by
  have hbegin (t : State) : t.beginWrite.hasReq o = t.hasReq o := by
    unfold State.beginWrite; split
    · split
      · rfl
      · simp only; split <;> rfl
    · rfl
  unfold State.due
  rw [hbegin]
  split <;> rfl

/-- A lane without unsaved operations has none once an item has become due (R152). -/
theorem State.due_wear_of_saved {k : LaneId} (it : ItemId) (h : (s.health.lanes[k]).unsaved = 0) :
    (s.due it).health.lanes[k] = s.health.lanes[k] := by
  have hbegin (t : State) (ht : (t.health.lanes[k]).unsaved = 0) : t.beginWrite.health.lanes[k] = t.health.lanes[k] := by
    unfold State.beginWrite; split
    · split
      · rfl
      · simp only; split
        · rw [State.modWear_get]
          split
          · exact congrArg (fun n => ({ t.health.lanes[k] with unsaved := n } : LaneHealth)) ht.symm
          · rfl
        · rfl
    · rfl
  unfold State.due
  split
  · exact hbegin s h
  · exact hbegin _ h

/-- What a renewal leaves: the lane's wear, the two writes, the request that waits, and the rest by its figures. -/
theorem State.renewLane_spec (tag : Byte) (hw : s.laneWaiters = []) (hrated : 1000 ≤ s.ratedLife)
    (hst : s.lanes[l].state = .free ∨ s.lanes[l].state = .retired) (hphase : s.inPhase .startup = false) :
    let t := s.renewLane l tag
    t.withoutStore = (s.renewedFigures l).withoutStore ∧ t.withoutHealth = s.withoutHealth ∧
      t.health.lanes[l] = LaneHealth.fresh ∧ t.hasReq (.laneRenew l) = true ∧
      (laneItem l ∈ t.store.pendingWrites ∨ ∃ w : Write, t.store.inFlight = some w ∧ w.content = .lane l [] []) ∧
      healthItem ∈ t.store.pendingWrites := by
  intro t
  obtain ⟨lane, record, ht⟩ := State.renewLane_eq tag hw hst
  generalize hb : (s.renewedFigures l).renewAwaited l tag lane record = base at ht
  have hhealth : base.withoutHealth = s.withoutHealth := by
    rw [← hb, State.renewAwaited_withoutHealth, State.renewedFigures_withoutHealth]
  have hstore : base.withoutStore = (s.renewedFigures l).withoutStore := by
    rw [← hb, State.renewAwaited_withoutStore]
  have hfresh : base.health.lanes[l] = LaneHealth.fresh := by
    rw [← hb, State.renewAwaited_health, State.renewedFigures_wear hrated, if_pos rfl]
  have hflight : (base.due (laneItem l)).store.inFlight ≠ none :=
    State.due_inFlight ((State.eq_of_withoutHealth (State.inPhase .startup) hhealth).trans hphase) _
  have hcontent : base.itemContent (laneItem l) = .lane l [] [] := by
    have hlane : base.itemContent (laneItem l) = .lane l base.health.lanes[l].counts base.health.lanes[l].marks :=
      dif_pos l.isLt
    rw [hlane, hfresh]
    rfl
  have hjoins : t = (base.due (laneItem l)).modStore fun n =>
      { n with pendingWrites := joined healthItem n.pendingWrites } := ht.trans (State.due_joins healthItem hflight)
  refine ⟨?_, ?_, ?_, ?_, ?_, ?_⟩
  · rw [show t = _ from ht, State.due_withoutStore, State.due_withoutStore, hstore]
  · rw [show t = _ from ht, State.due_withoutHealth, State.due_withoutHealth, hhealth]
  · rw [hjoins, State.modStore_health, State.due_wear_of_saved _ (by rw [hfresh]; rfl), hfresh]
  · rw [show t = _ from ht, State.due_hasReq, State.due_hasReq, ← hb]
    exact State.renewAwaited_hasReq _ _ _ _ _
  · rw [hjoins, ← hcontent]
    exact (base.due_pending (laneItem l)).imp_left fun h => mem_joined_of_mem h _
  · rw [hjoins]
    exact mem_joined _ _

/-! ### The request -/

theorem State.takeLaneRenew_busy (h : s.lanes[l].state = .inUse ∨ s.lanes[l].state = .retiring ∨
    s.hasReq (.laneRenew l) = true) :
    s.takeLaneRenew (byte l.val) ⟨tag, partByte⟩ = s.reply 0x13 tag partByte .busy [] := by
  unfold State.takeLaneRenew
  simp only [ne_eq, not_true_eq_false, if_false, fin?_byte (by decide : 16 ≤ 256)]
  rw [if_pos (by simpa only [Bool.or_eq_true, decide_eq_true_eq, or_assoc] using h)]
  rfl

theorem State.takeLaneRenew_badField {b : Byte} (h : 15 < b.toNat) :
    s.takeLaneRenew b ⟨tag, partByte⟩ = s.reply 0x13 tag partByte .badField [] := by
  unfold State.takeLaneRenew
  simp only [ne_eq, not_true_eq_false, if_false, fin?_eq_none_iff.mpr (show 16 ≤ b.toNat by omega)]
  rfl

theorem State.takeLaneRenew_taken (hst : s.lanes[l].state = .free ∨ s.lanes[l].state = .retired)
    (hreq : s.hasReq (.laneRenew l) = false) :
    s.takeLaneRenew (byte l.val) ⟨tag, partByte⟩ = s.renewLane l tag := by
  unfold State.takeLaneRenew
  simp only [ne_eq, not_true_eq_false, if_false, fin?_byte (by decide : 16 ≤ 256)]
  rw [if_neg]
  simp only [Bool.or_eq_true, decide_eq_true_eq, hreq, Bool.false_eq_true, or_false]
  rcases hst with hst | hst <;> simp only [hst, reduceCtorEq, or_self, not_false_eq_true]

/-- A LANE_RENEW that is taken (R163, R164). -/
theorem exec_laneRenew (hr : s.ready) (hb : s.noBacklog)
    (hst : s.lanes[l].state = .free ∨ s.lanes[l].state = .retired) (hreq : s.hasReq (.laneRenew l) = false)
    (hh : (s.arrive.renewLane l tag).withoutHealth = s.arrive.withoutHealth) :
    exec (.laneRenew tag 0xFF (byte l.val)) s = .next ((s.arrive.renewLane l tag).marked 0x13 0xFF) := by
  have htaken : s.arrive.takeLaneRenew (byte l.val) ⟨tag, partByte⟩ = s.arrive.renewLane l tag := by
    refine State.takeLaneRenew_taken (by simpa only [State.arrive_lanes] using hst) ?_
    unfold State.hasReq at hreq ⊢
    simpa only [State.arrive_store] using hreq
  exact request_marked (r := .laneRenew (byte l.val)) hr trivial htaken
    (State.noBacklog_of_withoutHealth hh (State.noBacklog_arrive hb))

/-- Settles O30: a renewal by what its figures, its wear and its two writes come to; the recomputation, the retirement and
the condemnation by the lemmas that say what each does. -/
theorem laneRenewAndAttributes : Obligations.LaneRenewAndAttributes := by
  refine ⟨fun tag s l hr hb hw hrated hst hreq => ?_, fun tag s hr => ⟨fun l hbusy => ?_, fun b hbad => ?_⟩, fun s => ?_,
    fun s l => ⟨s.retire_lanes l, State.recompute_current _, State.retire_notice l, ?_⟩⟩
  · have hrated' : 1000 ≤ s.arrive.ratedLife := by simpa only [State.ratedLife, State.cfg, State.arrive_store] using hrated
    have hphase : s.arrive.inPhase .startup = false := State.inPhase_startup_of_linkUp (by
      simpa only [State.linkUp, State.arrive_powered, State.arrive_resetReq] using hr.2.1)
    obtain ⟨hstore, hhealth, hfresh, hwaits, hlane, hrecord⟩ := State.renewLane_spec (s := s.arrive) (l := l) tag
      (by simpa only [State.arrive_laneWaiters] using hw) hrated' (by simpa only [State.arrive_lanes] using hst) hphase
    refine ⟨s.arrive.renewLane l tag, exec_laneRenew hr hb hst hreq hhealth, hfresh, ?_, ?_, ?_, ?_, hlane,
      .inl hrecord, hwaits, ?_, ?_, ?_, ?_, fun k hk => ?_⟩
    · rw [State.eq_of_withoutStore State.lanes hstore, State.renewedFigures_lanes, State.arrive_lanes]
    · exact State.healthCurrent_of_withoutStore hstore (State.withNewWorst_current (State.recompute_current _))
    · exact (State.eq_of_withoutStore (fun u => u.health.record.lifeWorst) hstore).trans
        (State.eq_of_withoutStore (fun u => u.health.life) hstore).symm
    · have hlatch := State.withNewWorst_latch_iff (s.arrive.withFreshLane l)
      have hlife (k : LaneId) : ((s.arrive.renewLane l tag).health.lanes[k]).life =
          ((s.arrive.withFreshLane l).health.lanes[k]).life := by
        rw [State.lives_of_withoutStore hstore, State.renewedFigures_wear hrated', State.withFreshLane_wear hrated']
      have hthreshold : (s.arrive.withFreshLane l).levelThreshold = s.levelThreshold :=
        congrArg (fun n : Store => n.config[(6 : Fin 16)].toNat) s.arrive_store
      rw [State.eq_of_withoutStore (fun u => u.health.record.latch) hstore, State.eq_of_withoutStore State.lanes hstore]
      refine hlatch.trans (exists_congr fun k => ?_)
      rw [hlife, hthreshold, State.renewedFigures_lanes]
      rfl
    · rw [State.eq_of_withoutHealth (fun u => u.link.replies) hhealth, State.arrive_link]
    · rw [State.eq_of_withoutHealth State.sites hhealth, State.arrive_sites]
    · rw [State.eq_of_withoutHealth State.ports hhealth, State.arrive_ports]
    · rw [State.eq_of_withoutHealth State.results hhealth, State.arrive_results]
    · have hwear := State.wear_of_withoutStore hstore k
      rw [State.renewedFigures_wear hrated', if_neg (Ne.symm hk), State.arrive_health] at hwear
      obtain ⟨hcounts, hmarks, -⟩ := LaneHealth.mk.inj hwear
      exact ⟨hcounts, hmarks⟩
  · refine request_refused (r := .laneRenew (byte l.val)) hr trivial (State.takeLaneRenew_busy ?_)
    unfold State.hasReq at hbusy ⊢
    simpa only [State.arrive_lanes, State.arrive_store] using hbusy
  · exact request_refused (r := .laneRenew b) hr trivial (State.takeLaneRenew_badField hbad)
  · refine ⟨s.recompute_current, s.recompute_lanes, by rw [State.recompute_health], s.recompute_store,
      by rw [State.recompute_health], s.recompute_latch_iff, fun h => ?_, fun h => ?_⟩
    · rw [State.recompute_link, if_pos h]
    · rw [State.recompute_link, if_neg h]
  · rw [State.condemn_lanes]
    exact congrArg (upd s.lanes l) (funext Lane.condemned_eq)

end Sys2Proof.Machine
end


section
set_option Elab.async false
/-! # Marks and counts of a load (O42) -/

namespace Sys2Proof.Machine

variable {c : Counts} {rs rb l : List Relay} {q r : Relay} {n : Nat}

/-! ### Rising relay lists -/

theorem mem_insertRelay : q ∈ insertRelay r l ↔ q = r ∨ q ∈ l := by
  induction l with
  | nil => exact List.mem_cons
  | cons x xs ih =>
    unfold insertRelay
    split
    · exact List.mem_cons
    · split
      · next h => subst h; simp
      · rw [List.mem_cons, ih, List.mem_cons]; exact or_left_comm

theorem mem_addRelays : q ∈ addRelays rs l ↔ q ∈ rs ∨ q ∈ l := by
  induction rs generalizing l with
  | nil => simp
  | cons r rs ih =>
    have hcons : addRelays (r :: rs) l = addRelays rs (insertRelay r l) := rfl
    rw [hcons, ih, mem_insertRelay, List.mem_cons]
    exact or_left_comm.trans or_assoc.symm

theorem insertRelay_sorted (r : Relay) (h : l.Pairwise (· < ·)) : (insertRelay r l).Pairwise (· < ·) := by
  induction l with
  | nil => exact List.pairwise_singleton _ r
  | cons x xs ih =>
    obtain ⟨hx, hxs⟩ := List.pairwise_cons.mp h
    unfold insertRelay
    split
    case isTrue hlt =>
      refine List.pairwise_cons.mpr ⟨fun y hy => ?_, h⟩
      rcases List.mem_cons.mp hy with rfl | hy
      · exact hlt
      · exact hlt.trans (hx y hy)
    case isFalse hge =>
      split
      · exact h
      · next hne =>
        refine List.pairwise_cons.mpr ⟨fun y hy => ?_, ih hxs⟩
        rcases mem_insertRelay.mp hy with rfl | hy
        · exact lt_of_le_of_ne (not_lt.mp hge) (Ne.symm hne)
        · exact hx y hy

theorem addRelays_sorted (rs : List Relay) (h : l.Pairwise (· < ·)) : (addRelays rs l).Pairwise (· < ·) := by
  induction rs generalizing l with
  | nil => exact h
  | cons r rs ih => exact ih (insertRelay_sorted r h)

/-- The relays read back as a rising list are those of the readback, each once. -/
theorem addRelays_perm_dedup (rb : List Relay) : (addRelays rb []).Perm rb.dedup := by
  have hnodup : (addRelays rb []).Nodup := (addRelays_sorted rb List.Pairwise.nil).imp fun h => ne_of_lt h
  refine (List.perm_ext_iff_of_nodup hnodup rb.nodup_dedup).mpr fun q => ?_
  rw [mem_addRelays, List.mem_dedup]
  simp only [List.not_mem_nil, or_false]

/-- The relays of a readback that are not marked yet (R151). -/
def newMarks (marks rb : List Relay) : List Relay := (addRelays rb []).filter fun q => !marks.contains q

theorem newMarks_length (marks rb : List Relay) :
    (newMarks marks rb).length = (rb.dedup.filter fun q => decide (q ∉ marks)).length := by
  have hfilter : (fun q : Relay => !marks.contains q) = fun q => decide (q ∉ marks) := by
    funext q
    by_cases h : q ∈ marks <;> simp [h]
  unfold newMarks
  rw [hfilter]
  exact ((addRelays_perm_dedup rb).filter _).length_eq

theorem mem_marks_newMarks {marks : List Relay} :
    q ∈ addRelays (newMarks marks rb) marks ↔ q ∈ rb ∨ q ∈ marks := by
  unfold newMarks
  rw [mem_addRelays, List.mem_filter, mem_addRelays]
  by_cases h : q ∈ marks <;> simp [h]

/-! ### The charge of a load (R150) -/

/-- The counts after a charge: each relay named has the operations added, the others keep theirs. -/
theorem chargeRelays_get (hn : rs.Nodup) (hw : c.wf = true) (q : Relay) :
    Counts.get (chargeRelays n rs c).1 q = if q ∈ rs then satAdd (c.get q) n else c.get q := by
  induction rs generalizing c with
  | nil => simp [chargeRelays]
  | cons r rs ih =>
    obtain ⟨hr, hrs⟩ := List.nodup_cons.mp hn
    have hput := Counts.wf_put r (satAdd (c.get r) n) c hw
    by_cases hq : q = r
    · subst hq
      rw [if_pos List.mem_cons_self]
      exact (chargeRelays_get_ne n rs _ q hr hput).trans (Counts.get_put_self q _ c hw)
    · refine (ih hrs hput).trans ?_
      rw [Counts.get_put_ne r q _ c hq hw]
      simp only [List.mem_cons, hq, false_or]

/-- The increase actually made is that of the relays named, one by one. -/
theorem chargeRelays_increase (hn : rs.Nodup) (hw : c.wf = true) :
    (chargeRelays n rs c).2 = (rs.map fun q => satAdd (c.get q) n - c.get q).sum := by
  induction rs generalizing c with
  | nil => rfl
  | cons r rs ih =>
    obtain ⟨hr, hrs⟩ := List.nodup_cons.mp hn
    have hothers : (rs.map fun q => satAdd (Counts.get (c.put r (satAdd (c.get r) n)) q) n -
        Counts.get (c.put r (satAdd (c.get r) n)) q) = rs.map fun q => satAdd (c.get q) n - c.get q :=
      List.map_congr_left fun q hq => by
        rw [Counts.get_put_ne r q _ c (by rintro rfl; exact hr hq) hw]
    have hrec := ih hrs (Counts.wf_put r (satAdd (c.get r) n) c hw)
    rw [hothers] at hrec
    rw [List.map_cons, List.sum_cons, ← hrec, Nat.add_comm]
    rfl

end Sys2Proof.Machine
end

section
set_option Elab.async false
/-! # HEALTH's report of a load done (O42)

The report works in four parts: it takes the load's marks and counts, acts on a condemnation, makes the records due, and
brings the attributes up to date. Beside the store all four come to one recomputation of the first two. -/

namespace Sys2Proof.Machine

variable {s : State}

/-! ### Marks, counts and totals (R150, R151, R154) -/

/-- The counts of the lane after the load, and the increase made. -/
def State.chargedCounts (l : LaneId) (ld : Load) (s : State) : Counts × Nat :=
  chargeRelays (s.loadCharge ld).1 (s.loadCharge ld).2 s.health.lanes[l].counts

/-- The relays a hot load opened. -/
def Load.hotRelays (ld : Load) : Nat := if ld.kind = .hot then ld.opens.length else 0

/-- The lane's wear after the load. -/
def State.wornBy (l : LaneId) (ld : Load) (rb : List Relay) (s : State) : LaneHealth :=
  let old := s.health.lanes[l]
  let charged := s.chargedCounts l ld
  { counts := charged.1, marks := addRelays (newMarks old.marks rb) old.marks, countLost := old.countLost
    unsaved := satAdd old.unsaved charged.2, life := lifePercent s.ratedLife charged.1.largest }

/-- The record after the load's totals. -/
def State.totalled (l : LaneId) (ld : Load) (rb : List Relay) (s : State) : HealthRecord :=
  { s.health.record with
    coilFaults := satAdd s.health.record.coilFaults (newMarks s.health.lanes[l].marks rb).length
    hotOps := satAdd s.health.record.hotOps ld.hotRelays }

/-- Some count or mark of the lane changed. -/
def State.wearChanged (l : LaneId) (ld : Load) (rb : List Relay) (s : State) : Bool :=
  decide ((s.chargedCounts l ld).2 ≠ 0) || !(newMarks s.health.lanes[l].marks rb).isEmpty

/-- The part with the load's marks, counts, totals and life. -/
def State.worked (l : LaneId) (ld : Load) (rb : List Relay) (s : State) : State :=
  (s.modHealth fun h => { h with lanes := upd h.lanes l fun _ => s.wornBy l ld rb, record := s.totalled l ld rb }).touchIf
    (s.wearChanged l ld rb) (laneItem l)

theorem State.worked_health (l : LaneId) (ld : Load) (rb : List Relay) (s : State) : (s.worked l ld rb).health =
    { s.health with lanes := upd s.health.lanes l fun _ => s.wornBy l ld rb, record := s.totalled l ld rb } := by
  unfold State.worked
  rw [State.touchIf_eq]
  rfl

theorem State.worked_wear (l : LaneId) (ld : Load) (rb : List Relay) (s : State) (k : LaneId) :
    (s.worked l ld rb).health.lanes[k] = if l = k then s.wornBy l ld rb else s.health.lanes[k] := by
  rw [State.worked_health, upd_get]

theorem State.worked_link (l : LaneId) (ld : Load) (rb : List Relay) (s : State) : (s.worked l ld rb).link = s.link := by
  unfold State.worked
  rw [State.touchIf_eq]
  rfl

theorem State.worked_lanes (l : LaneId) (ld : Load) (rb : List Relay) (s : State) : (s.worked l ld rb).lanes = s.lanes := by
  unfold State.worked
  rw [State.touchIf_eq]
  rfl

theorem State.worked_inPhase (l : LaneId) (ld : Load) (rb : List Relay) (s : State) (p : ResetPhase) :
    (s.worked l ld rb).inPhase p = s.inPhase p := by
  unfold State.worked
  rw [State.touchIf_eq]
  rfl

/-- The store keeps what waits and what runs; a write in flight may be outdated by the new counts (R176). -/
theorem State.worked_store (l : LaneId) (ld : Load) (rb : List Relay) (s : State) :
    (s.worked l ld rb).store.config = s.store.config ∧ (s.worked l ld rb).store.pendingWrites = s.store.pendingWrites ∧
      ((s.worked l ld rb).store.inFlight = none ↔ s.store.inFlight = none) := by
  unfold State.worked
  rw [State.touchIf_eq]
  exact ⟨rfl, rfl, Option.map_eq_none_iff⟩

/-- The model's four updates come to one. -/
theorem State.worked_eq (l : LaneId) (ld : Load) (rb : List Relay) (s : State) :
    ((((s.modWear l fun x => { x with
        marks := addRelays (newMarks s.health.lanes[l].marks rb) x.marks, counts := (s.chargedCounts l ld).1
        unsaved := satAdd x.unsaved (s.chargedCounts l ld).2 }).modHealth fun h =>
      { h with record := { h.record with
        coilFaults := satAdd h.record.coilFaults (newMarks s.health.lanes[l].marks rb).length
        hotOps := satAdd h.record.hotOps ld.hotRelays } }).touchIf (s.wearChanged l ld rb) (laneItem l)).computeLife l) =
      s.worked l ld rb := by
  have htouch (t : State) : (t.touchIf (s.wearChanged l ld rb) (laneItem l)).computeLife l =
      (t.computeLife l).touchIf (s.wearChanged l ld rb) (laneItem l) := by
    rw [State.touchIf_eq, State.touchIf_eq]; rfl
  have hlanes : (upd (upd s.health.lanes l fun x => { x with
        marks := addRelays (newMarks s.health.lanes[l].marks rb) x.marks, counts := (s.chargedCounts l ld).1
        unsaved := satAdd x.unsaved (s.chargedCounts l ld).2 }) l fun x =>
      { x with life := lifePercent s.ratedLife x.counts.largest }) = upd s.health.lanes l fun _ => s.wornBy l ld rb :=
    (upd_upd _ _ _ _).trans (upd_congr _ _ _ _ rfl)
  rw [htouch]
  exact congrArg (fun v => (s.modHealth fun h => { h with lanes := v, record := s.totalled l ld rb }).touchIf
    (s.wearChanged l ld rb) (laneItem l)) hlanes

/-! ### The condemnation (R47, R159, R160) -/

/-- What tells of a condemnation, before the attributes are brought up to date: the lane's state and, for a FREE lane, the
LANE_RETIRED notice. -/
def State.condemnTold (l : LaneId) (s : State) : State :=
  let w := s.health.lanes[l]
  if s.lanes[l].state = .free then
    (s.modLane l Lane.condemned).notice (.laneRetired l w.marks.isEmpty w.life w.marks.length)
  else s.modLane l Lane.condemned

/-- A condemnation is what tells of it, with a recomputation where the lane retires. -/
theorem State.condemn_told (l : LaneId) (s : State) :
    s.condemn l = s.condemnTold l ∨ s.condemn l = (s.condemnTold l).recompute := by
  have hlane (st : LaneState) (h : s.lanes[l].state.condemned = st) :
      (s.modLane l fun x => { x with state := st }) = s.modLane l Lane.condemned :=
    State.modLane_congr (by simp only [Lane.condemned, h])
  have hsame (h : s.lanes[l].state.condemned = s.lanes[l].state) : s = s.modLane l Lane.condemned :=
    (State.modLane_id (by simp only [Lane.condemned, h])).symm
  unfold State.condemn State.condemnTold State.retire
  cases hst : s.lanes[l].state with
  | free => exact .inr (by simp only [if_true, hlane .retired (by rw [hst]; rfl)]; rfl)
  | inUse => exact .inl (hlane .retiring (by rw [hst]; rfl))
  | retiring | retired => exact .inl (hsame (by rw [hst]; rfl))

/-- The end-of-life check condemns a worn lane; one that is RETIRING or RETIRED stays as it is (R159). -/
theorem State.checkEndOfLife_worn (l : LaneId) (s : State) :
    s.checkEndOfLife l = if s.worn l = true then s.condemn l else s := by
  rw [State.checkEndOfLife_eq]
  by_cases hworn : s.worn l = true
  · simp only [hworn, true_and, if_true]
    split
    · rfl
    · next h =>
      unfold State.condemn
      cases hst : s.lanes[l].state with
      | free => exact absurd (.inl hst) h
      | inUse => exact absurd (.inr hst) h
      | retiring | retired => rfl
  · rw [if_neg (fun h => hworn h.1), if_neg hworn]

/-- The condemnation of a load's report (R149): by its readback, or at the end of the lane's life. -/
def State.judged (l : LaneId) (rb : List Relay) (s : State) : State :=
  if rb.isEmpty then s.checkEndOfLife l else s.condemn l

/-- The lane is condemned by the load's readback or at the end of its life. -/
def State.ends (l : LaneId) (rb : List Relay) (s : State) : Bool := decide (rb ≠ []) || s.worn l

/-- What tells of the report's condemnation. -/
def State.judgedTold (l : LaneId) (rb : List Relay) (s : State) : State := if s.ends l rb then s.condemnTold l else s

theorem State.judged_told (l : LaneId) (rb : List Relay) (s : State) :
    s.judged l rb = s.judgedTold l rb ∨ s.judged l rb = (s.judgedTold l rb).recompute := by
  unfold State.judged State.judgedTold State.ends
  cases rb with
  | cons r rs => exact s.condemn_told l
  | nil =>
    simp only [List.isEmpty_nil, if_true, ne_eq, not_true_eq_false, decide_false, Bool.false_or,
      State.checkEndOfLife_worn]
    split
    · exact s.condemn_told l
    · exact .inl rfl

theorem State.judgedTold_health (l : LaneId) (rb : List Relay) (s : State) : (s.judgedTold l rb).health = s.health := by
  unfold State.judgedTold State.condemnTold
  split
  · simp only; split
    · rw [State.notice_health]; rfl
    · rfl
  · rfl

theorem State.judgedTold_store (l : LaneId) (rb : List Relay) (s : State) : (s.judgedTold l rb).store = s.store := by
  unfold State.judgedTold State.condemnTold
  split
  · simp only; split
    · rw [State.notice_store]; rfl
    · rfl
  · rfl

theorem State.judgedTold_lanes (l : LaneId) (rb : List Relay) (s : State) : (s.judgedTold l rb).lanes =
    upd s.lanes l fun x => { x with state := if s.ends l rb then x.state.condemned else x.state } := by
  unfold State.judgedTold State.condemnTold
  split
  · simp only; split
    · rw [State.notice_lanes]; rfl
    · rfl
  · exact (upd_id _ _ _ rfl).symm

/-- A retirement is told of by a notice, and nothing else reaches the link (R160). -/
theorem State.judgedTold_link (l : LaneId) (rb : List Relay) (s : State) : (s.judgedTold l rb).link =
    (if s.ends l rb && decide (s.lanes[l].state = .free) then
      s.notice (.laneRetired l s.health.lanes[l].marks.isEmpty s.health.lanes[l].life s.health.lanes[l].marks.length)
      else s).link := by
  unfold State.judgedTold State.condemnTold
  by_cases hends : s.ends l rb = true
  · by_cases hst : s.lanes[l].state = .free
    · simp only [hends, hst, decide_true, Bool.and_self, if_true]
      exact State.notice_link_congr (by rfl) (by rfl) _
    · simp only [hends, hst, decide_false, Bool.and_false, Bool.false_eq_true, if_true, if_false]
      rfl
  · simp only [hends, Bool.false_and, Bool.false_eq_true, if_false]

/-- The judgement leaves the wear, the store and the phase of a reset as they are. -/
theorem State.judged_frame (l : LaneId) (rb : List Relay) (s : State) : (s.judged l rb).health.lanes = s.health.lanes ∧
    (s.judged l rb).store = s.store ∧ (s.judged l rb).withoutHealth = s.withoutHealth := by
  refine ⟨?_, ?_, ?_⟩
  · rcases s.judged_told l rb with h | h
    · rw [h, State.judgedTold_health]
    · rw [h, State.recompute_health, State.judgedTold_health]
  · rcases s.judged_told l rb with h | h
    · rw [h, State.judgedTold_store]
    · rw [h, State.recompute_store, State.judgedTold_store]
  · unfold State.judged
    split
    · exact s.checkEndOfLife_withoutHealth l
    · exact s.condemn_withoutHealth l

/-! ### The whole report (R149) -/

/-- The lane record becomes due where `c` tells so (R152). -/
def State.dueIf (c : Bool) (it : ItemId) (s : State) : State := if c then s.due it else s

theorem State.dueIf_withoutStore (c : Bool) (it : ItemId) (s : State) : (s.dueIf c it).withoutStore = s.withoutStore := by
  unfold State.dueIf; split
  · exact s.due_withoutStore it
  · rfl

/-- The lane record of a load is due: marks were gained, or the unsaved sum has reached AUTOSAVE_THRESHOLD (R152). -/
def State.recordDue (l : LaneId) (ld : Load) (rb : List Relay) (s : State) : Bool :=
  !(newMarks s.health.lanes[l].marks rb).isEmpty || decide (s.autosaveThreshold ≤ (s.wornBy l ld rb).unsaved)

/-- The report's parts in their order. -/
theorem State.healthLoad_eq (l : LaneId) (ld : Load) (rb : List Relay) (s : State) : s.healthLoad l ld rb =
    ((((s.worked l ld rb).judged l rb).dueIf (s.recordDue l ld rb) (laneItem l)).recompute).healthDue s.health.record := by
  have hjudged : ((s.worked l ld rb).judged l rb).health.lanes[l] = s.wornBy l ld rb := by
    simp only [((s.worked l ld rb).judged_frame l rb).1]
    rw [State.worked_wear, if_pos rfl]
  have hthreshold : ((s.worked l ld rb).judged l rb).autosaveThreshold = s.autosaveThreshold := by
    simp only [State.autosaveThreshold, State.cfg, ((s.worked l ld rb).judged_frame l rb).2.1, (s.worked_store l ld rb).1]
  unfold State.recordDue
  rw [← hjudged, ← hthreshold]
  unfold State.judged
  simp only [← State.worked_eq]
  rfl

/-- Beside the store, a report is a recomputation of its first two parts. -/
theorem State.healthLoad_withoutStore (l : LaneId) (ld : Load) (rb : List Relay) (s : State) :
    (s.healthLoad l ld rb).withoutStore = ((s.worked l ld rb).judgedTold l rb).recompute.withoutStore := by
  rw [State.healthLoad_eq, State.healthDue_withoutStore]
  refine (State.recompute_congr (State.dueIf_withoutStore _ _ _)).trans ?_
  rcases (s.worked l ld rb).judged_told l rb with h | h
  · rw [h]
  · rw [h, State.recompute_recompute]

end Sys2Proof.Machine
end


section
set_option Elab.async false
/-! # The writes of a load's report (O42) -/

namespace Sys2Proof.Machine

variable {s : State} {l : LaneId} {ld : Load}

/-! ### While a write is in flight (R177) -/

theorem joined_if (c : Bool) (it : ItemId) (ws : List ItemId) :
    (if c then joined it ws else ws) = if c && decide (it ∉ ws) then ws ++ [it] else ws := by
  unfold joined
  by_cases h : it ∈ ws <;> cases c <;> simp [h]

theorem State.dueIf_joins (c : Bool) (it : ItemId) (h : s.store.inFlight ≠ none) :
    s.dueIf c it = s.modStore fun t => { t with pendingWrites := if c then joined it t.pendingWrites else t.pendingWrites } := by
  unfold State.dueIf
  cases c with
  | false => rfl
  | true => exact State.due_joins it h

/-- The HEALTH record joins the pending-write set where a figure changed (R153). -/
theorem State.healthDue_joins (old : HealthRecord) (h : s.store.inFlight ≠ none) :
    (s.healthDue old).health = s.health ∧ (s.healthDue old).store.pendingWrites =
      if decide (s.health.record ≠ old) then joined healthItem s.store.pendingWrites else s.store.pendingWrites := by
  unfold State.healthDue
  by_cases hold : s.health.record = old
  · simp [hold]
  · have htouch : (s.touch healthItem).store.inFlight ≠ none := by simpa [State.touch] using h
    rw [if_neg hold, if_pos (decide_eq_true hold), State.due_joins _ htouch]
    exact ⟨rfl, rfl⟩

/-- A write of another item in flight goes on as it is (R176). -/
theorem State.healthDue_inFlight {w : Write} (old : HealthRecord) (hw : s.store.inFlight = some w)
    (hit : w.content.item ≠ healthItem) : (s.healthDue old).store.inFlight = some w := by
  unfold State.healthDue
  split
  · exact hw
  · have htouch : (s.touch healthItem).store.inFlight = some w := by
      simp only [State.touch, State.modStore_store, hw, Option.map_some, if_neg hit]
    rw [State.due_joins _ (by rw [htouch]; exact Option.some_ne_none w)]
    exact htouch

theorem laneItem_ne_healthItem (l : LaneId) : laneItem l ≠ healthItem := by
  intro h
  have hval : l.val = 19 := congrArg Fin.val h
  have hl : l.val < 16 := l.isLt
  omega

/-! ### On an idle store (R152, R177) -/

/-- The lane record due on an idle store: its write begins, and the lane's unsaved sum is 0 (R152). -/
theorem State.dueIf_lane_idle (c : Bool) (hf : s.store.inFlight = none) (hp : s.store.pendingWrites = [])
    (hphase : s.inPhase .startup = false) :
    (s.dueIf c (laneItem l)).store.inFlight =
      (if c then some ⟨.lane l s.health.lanes[l].counts s.health.lanes[l].marks, false⟩ else none) ∧
    (s.dueIf c (laneItem l)).store.pendingWrites = [] ∧
    (s.dueIf c (laneItem l)).health.lanes[l] =
      { s.health.lanes[l] with unsaved := if c then 0 else s.health.lanes[l].unsaved } := by
  unfold State.dueIf
  cases c with
  | false => exact ⟨hf, hp, rfl⟩
  | true =>
    rw [if_pos rfl, State.due_lane_idle l hf hp hphase]
    refine ⟨rfl, hp, ?_⟩
    rw [State.modWear_get, if_pos rfl]
    simp only [State.modStore_health, if_true]

/-- The HEALTH record due on an idle store: its write begins (R153). -/
theorem State.healthDue_idle (old : HealthRecord) (hf : s.store.inFlight = none) (hp : s.store.pendingWrites = [])
    (hphase : s.inPhase .startup = false) : (s.healthDue old).health = s.health ∧
      (s.healthDue old).store.inFlight =
        (if decide (s.health.record ≠ old) then some ⟨.health s.health.record, false⟩ else none) ∧
      (s.healthDue old).store.pendingWrites = [] := by
  unfold State.healthDue
  by_cases hold : s.health.record = old
  · simp [hold, hf, hp]
  · have htouch : (s.touch healthItem).store.inFlight = none := by simpa [State.touch] using hf
    rw [if_neg hold, if_pos (decide_eq_true hold), State.due_idle (by decide) htouch hp hphase]
    exact ⟨rfl, rfl, hp⟩

/-- The report's last part leaves the wear and the store of the part before. -/
theorem State.recompute_keeps (s : State) : s.recompute.health.lanes = s.health.lanes ∧ s.recompute.store = s.store ∧
    s.recompute.inPhase .startup = s.inPhase .startup := by
  refine ⟨by rw [State.recompute_health], s.recompute_store, ?_⟩
  exact State.eq_of_withoutHealth (State.inPhase .startup) s.recompute_withoutHealth

section report

variable (l : LaneId) (ld : Load) (rb : List Relay) (s : State)

/-- The part before its attributes are brought up to date for the last time. -/
def State.beforeAttributes : State :=
  ((s.worked l ld rb).judged l rb).dueIf (s.recordDue l ld rb) (laneItem l)

theorem State.judged_worked : let j := (s.worked l ld rb).judged l rb
    j.health.lanes[l] = s.wornBy l ld rb ∧ j.store.pendingWrites = s.store.pendingWrites ∧
      (j.store.inFlight = none ↔ s.store.inFlight = none) ∧ j.inPhase .startup = s.inPhase .startup := by
  intro j
  obtain ⟨hwear, hstore, hhealth⟩ := (s.worked l ld rb).judged_frame l rb
  obtain ⟨-, hpending, hflight⟩ := s.worked_store l ld rb
  refine ⟨?_, ?_, ?_, ?_⟩
  · simp only [j, hwear]
    rw [State.worked_wear, if_pos rfl]
  · rw [hstore, hpending]
  · rw [hstore, hflight]
  · exact (State.eq_of_withoutHealth (State.inPhase .startup) hhealth).trans (State.worked_inPhase l ld rb s _)

theorem State.beforeAttributes_inPhase : (s.beforeAttributes l ld rb).inPhase .startup = s.inPhase .startup := by
  have hdue (t : State) : (t.dueIf (s.recordDue l ld rb) (laneItem l)).withoutHealth = t.withoutHealth := by
    unfold State.dueIf; split
    · exact State.due_withoutHealth _ t
    · rfl
  exact (State.eq_of_withoutHealth (State.inPhase .startup) (hdue _)).trans (s.judged_worked l ld rb).2.2.2

/-- The record that a report compares is the one it leaves (R153). -/
theorem State.healthLoad_record : (s.beforeAttributes l ld rb).recompute.health.record = (s.healthLoad l ld rb).health.record := by
  rw [State.healthLoad_eq]
  exact (State.eq_of_withoutStore (fun u => u.health.record) (State.healthDue_withoutStore _ _)).symm

/-- The report's records join the set behind the write in flight (R152, R153, R177). -/
theorem State.healthLoad_joins (h : s.store.inFlight ≠ none) : let u := s.healthLoad l ld rb
    let lanes := if s.recordDue l ld rb then joined (laneItem l) s.store.pendingWrites else s.store.pendingWrites
    u.health.lanes[l] = s.wornBy l ld rb ∧ u.store.pendingWrites =
      if decide (u.health.record ≠ s.health.record) then joined healthItem lanes else lanes := by
  intro u lanes
  obtain ⟨hwear, hpending, hflight, -⟩ := s.judged_worked l ld rb
  have hbusy : ((s.worked l ld rb).judged l rb).store.inFlight ≠ none := (not_congr hflight).mpr h
  have hbefore : s.beforeAttributes l ld rb = _ := State.dueIf_joins (s.recordDue l ld rb) (laneItem l) hbusy
  obtain ⟨hlanes, hstore, -⟩ := (s.beforeAttributes l ld rb).recompute_keeps
  obtain ⟨hhealth, hjoins⟩ := State.healthDue_joins (s := (s.beforeAttributes l ld rb).recompute) s.health.record (by
    rw [hstore, hbefore]; exact hbusy)
  have hu : u = (s.beforeAttributes l ld rb).recompute.healthDue s.health.record := s.healthLoad_eq l ld rb
  have hsame : u.health.lanes = ((s.worked l ld rb).judged l rb).health.lanes := by
    rw [hu, hhealth, hlanes, hbefore]; rfl
  refine ⟨(congrArg (fun v : Vector LaneHealth 16 => v[l]) hsame).trans hwear, ?_⟩
  rw [State.healthLoad_record, ← hu, hstore, hbefore, State.modStore_store, hpending] at hjoins
  exact hjoins

/-- On an idle store the report's first record is written at once, the HEALTH record waits behind a lane's (R152, R153,
R177). -/
theorem State.healthLoad_begins (hf : s.store.inFlight = none) (hp : s.store.pendingWrites = [])
    (hphase : s.inPhase .startup = false) : let u := s.healthLoad l ld rb
    let due := s.recordDue l ld rb
    let figures := decide (u.health.record ≠ s.health.record)
    let worn := s.wornBy l ld rb
    u.health.lanes[l] = { worn with unsaved := if due then 0 else worn.unsaved } ∧
    u.store.inFlight = (if due then some ⟨.lane l worn.counts worn.marks, false⟩
      else if figures then some ⟨.health u.health.record, false⟩ else none) ∧
    u.store.pendingWrites = if due && figures then [healthItem] else [] := by
  intro u due figures worn
  obtain ⟨hwear, hpending, hflight, hsame⟩ := s.judged_worked l ld rb
  obtain ⟨hbegun, hempty, hlane⟩ := State.dueIf_lane_idle (l := l) due (hflight.mpr hf) (hpending.trans hp)
    (hsame.trans hphase)
  rw [hwear] at hbegun hlane
  obtain ⟨hlanes, hstore, hphase'⟩ := (s.beforeAttributes l ld rb).recompute_keeps
  generalize hv : (s.beforeAttributes l ld rb).recompute = v at hlanes hstore hphase'
  have hu : u = v.healthDue s.health.record := by rw [← hv]; exact s.healthLoad_eq l ld rb
  have hrecord : v.health.record = u.health.record := by rw [← hv]; exact s.healthLoad_record l ld rb
  have hbegun' : v.store.inFlight = if due then some ⟨.lane l worn.counts worn.marks, false⟩ else none :=
    (congrArg Store.inFlight hstore).trans hbegun
  have hempty' : v.store.pendingWrites = [] := (congrArg Store.pendingWrites hstore).trans hempty
  have hlane' (hhealth : u.health = v.health) :
      u.health.lanes[l] = { worn with unsaved := if due then 0 else worn.unsaved } :=
    (congrArg (fun w : Vector LaneHealth 16 => w[l]) ((congrArg Health.lanes hhealth).trans hlanes)).trans hlane
  cases hdue : due with
  | true =>
    rw [hdue] at hlane'
    rw [hdue, if_pos rfl] at hbegun'
    obtain ⟨hhealth, hjoins⟩ := State.healthDue_joins s.health.record (by rw [hbegun']; exact Option.some_ne_none _)
    rw [← hu] at hhealth hjoins
    refine ⟨hlane' hhealth, ?_, ?_⟩
    · rw [if_pos rfl, hu]
      exact State.healthDue_inFlight _ hbegun' (laneItem_ne_healthItem l)
    · rw [hjoins, hempty', hrecord]
      rfl
  | false =>
    rw [hdue] at hlane'
    rw [hdue, if_neg Bool.false_ne_true] at hbegun'
    obtain ⟨hhealth, hflight', hpending'⟩ := State.healthDue_idle s.health.record hbegun' hempty'
      (hphase'.trans ((s.beforeAttributes_inPhase l ld rb).trans hphase))
    rw [← hu] at hhealth hflight' hpending'
    refine ⟨hlane' hhealth, ?_, hpending'⟩
    rw [hflight', hrecord]
    rfl

end report

/-! ### What a load charges (R150) -/

theorem State.chargedCounts_get {charged : List Relay} {each : Nat} (hc : s.loadCharge ld = (each, charged))
    (hs : s.countsWf) (hn : charged.Nodup) (q : Relay) : (s.chargedCounts l ld).1.get q =
      if q ∈ charged then satAdd (s.health.lanes[l].counts.get q) each else s.health.lanes[l].counts.get q := by
  unfold State.chargedCounts
  rw [hc]
  exact chargeRelays_get hn (hs.1 l) q

theorem State.chargedCounts_increase {charged : List Relay} {each : Nat} (hc : s.loadCharge ld = (each, charged))
    (hs : s.countsWf) (hn : charged.Nodup) : (s.chargedCounts l ld).2 =
      (charged.map fun q => satAdd (s.health.lanes[l].counts.get q) each - s.health.lanes[l].counts.get q).sum := by
  unfold State.chargedCounts
  rw [hc]
  exact chargeRelays_increase hn (hs.1 l)

theorem State.loadCharge_nodup (s : State) (hcloses : ld.closes.Nodup) (hopens : ld.opens.Nodup) :
    (s.loadCharge ld).2.Nodup := by
  unfold State.loadCharge
  cases ld.kind with
  | closing => exact hcloses
  | hot => exact hopens
  | opening => exact List.nodup_nil

/-- The record is due by the number of marks gained and the unsaved sum (R152). -/
theorem State.recordDue_eq (l : LaneId) (ld : Load) (rb : List Relay) (s : State) : s.recordDue l ld rb =
    (decide ((newMarks s.health.lanes[l].marks rb).length ≠ 0) ||
      decide (s.autosaveThreshold ≤ (s.wornBy l ld rb).unsaved)) := by
  unfold State.recordDue
  congr 1
  cases newMarks s.health.lanes[l].marks rb <;> rfl

/-- The lane ends by its readback, or at life 0 with RETIRE_AT_END on (R151, R159). -/
theorem State.worked_ends (l : LaneId) (ld : Load) (rb : List Relay) (s : State) : (s.worked l ld rb).ends l rb =
    (decide (rb ≠ []) || (s.retireAtEnd && decide ((s.wornBy l ld rb).life = 0))) := by
  have hretire : (s.worked l ld rb).retireAtEnd = s.retireAtEnd := by
    simp only [State.retireAtEnd, State.cfg, (s.worked_store l ld rb).1]
  unfold State.ends State.worn
  rw [hretire, State.worked_wear, if_pos rfl]

end Sys2Proof.Machine
end

section
set_option Elab.async false
/-! # The load's report as a whole (O42) -/

namespace Sys2Proof.Machine

section

variable (l : LaneId) (ld : Load) (rb : List Relay) (s : State)

/-! ### Beside the store -/

/-- Each lane's counts, marks and life after a report; only the unsaved sums wait for the store. -/
theorem State.healthLoad_wear (k : LaneId) : ({ (s.healthLoad l ld rb).health.lanes[k] with unsaved := 0 } : LaneHealth) =
    { (if l = k then s.wornBy l ld rb else s.health.lanes[k]) with unsaved := 0 } := by
  rw [State.wear_of_withoutStore (s.healthLoad_withoutStore l ld rb) k]
  simp only [(State.recompute_keeps _).1, State.judgedTold_health]
  rw [State.worked_wear]

theorem State.healthLoad_wear_same : (s.healthLoad l ld rb).health.lanes[l].counts = (s.chargedCounts l ld).1 ∧
    (s.healthLoad l ld rb).health.lanes[l].marks =
      addRelays (newMarks s.health.lanes[l].marks rb) s.health.lanes[l].marks ∧
    (s.healthLoad l ld rb).health.lanes[l].countLost = s.health.lanes[l].countLost ∧
    (s.healthLoad l ld rb).health.lanes[l].life = lifePercent s.ratedLife (s.chargedCounts l ld).1.largest := by
  have h := s.healthLoad_wear l ld rb l
  rw [if_pos rfl] at h
  obtain ⟨hcounts, hmarks, hlost, -, hlife⟩ := LaneHealth.mk.inj h
  exact ⟨hcounts, hmarks, hlost, hlife⟩

theorem State.healthLoad_wear_other {k : LaneId} (hk : k ≠ l) :
    (s.healthLoad l ld rb).health.lanes[k].counts = s.health.lanes[k].counts ∧
    (s.healthLoad l ld rb).health.lanes[k].marks = s.health.lanes[k].marks ∧
    (s.healthLoad l ld rb).health.lanes[k].life = s.health.lanes[k].life := by
  have h := s.healthLoad_wear l ld rb k
  rw [if_neg (Ne.symm hk)] at h
  obtain ⟨hcounts, hmarks, -, -, hlife⟩ := LaneHealth.mk.inj h
  exact ⟨hcounts, hmarks, hlife⟩

theorem State.judgedTold_worked_record : ((s.worked l ld rb).judgedTold l rb).health.record = s.totalled l ld rb := by
  rw [State.judgedTold_health, State.worked_health]

/-- The totals of the record, and LIFE_WORST by the new LIFE (R150, R151, R156). -/
theorem State.healthLoad_record_eq : let u := s.healthLoad l ld rb
    u.health.record = { s.totalled l ld rb with
      lifeWorst := min s.health.record.lifeWorst u.health.life, latch := u.health.record.latch } := by
  intro u
  have hstore := s.healthLoad_withoutStore l ld rb
  have hlife := State.eq_of_withoutStore (fun v => v.health.life) hstore
  have hrecord := State.eq_of_withoutStore (fun v => v.health.record) hstore
  have hworst : s.health.record.lifeWorst = (s.totalled l ld rb).lifeWorst := rfl
  simp only [u, hlife, hrecord, hworst, ← State.judgedTold_worked_record]
  rw [State.recompute_health]

theorem State.healthLoad_lanes : (s.healthLoad l ld rb).lanes = upd s.lanes l fun x =>
    { x with state := if (s.worked l ld rb).ends l rb then x.state.condemned else x.state } := by
  rw [State.eq_of_withoutStore State.lanes (s.healthLoad_withoutStore l ld rb), State.recompute_lanes,
    State.judgedTold_lanes, State.worked_lanes]

theorem State.healthLoad_latch_iff : let u := s.healthLoad l ld rb
    u.health.record.latch = true ↔ s.health.record.latch = true ∨
      ∃ k : LaneId, u.lanes[k].state ≠ .retired ∧ (u.health.lanes[k]).life ≤ s.levelThreshold := by
  intro u
  have hstore := s.healthLoad_withoutStore l ld rb
  have hlatch := ((s.worked l ld rb).judgedTold l rb).recompute_latch_iff
  have hlanes : u.lanes = ((s.worked l ld rb).judgedTold l rb).lanes := by
    rw [State.eq_of_withoutStore State.lanes hstore, State.recompute_lanes]
  have hlife (k : LaneId) : (u.health.lanes[k]).life = (((s.worked l ld rb).judgedTold l rb).health.lanes[k]).life := by
    rw [State.lives_of_withoutStore hstore]
    simp only [(State.recompute_keeps _).1]
  have hthreshold : ((s.worked l ld rb).judgedTold l rb).levelThreshold = s.levelThreshold := by
    simp only [State.levelThreshold, State.cfg, State.judgedTold_store, (s.worked_store l ld rb).1]
  rw [State.judgedTold_worked_record, hthreshold] at hlatch
  rw [State.eq_of_withoutStore (fun v => v.health.record.latch) hstore]
  refine hlatch.trans (or_congr_right (exists_congr fun k => ?_))
  rw [hlanes, hlife]

/-- The notices of a report: LANE_RETIRED for a FREE lane that ends, then HEALTH where STATE changed (R157, R160). -/
theorem State.healthLoad_link : let u := s.healthLoad l ld rb
    let w := s.wornBy l ld rb
    let told := if (s.worked l ld rb).ends l rb && decide (s.lanes[l].state = .free) then
      s.notice (.laneRetired l w.marks.isEmpty w.life w.marks.length) else s
    u.link = (if u.health.low = s.health.low then told
      else told.notice (.health u.health.low u.health.life u.health.spares)).link := by
  intro u w told
  have hstore := s.healthLoad_withoutStore l ld rb
  generalize hy : (s.worked l ld rb).judgedTold l rb = y at hstore
  have hlow : u.health.low = y.recompute.health.low := State.eq_of_withoutStore (fun v => v.health.low) hstore
  have hlife : u.health.life = y.recompute.health.life := State.eq_of_withoutStore (fun v => v.health.life) hstore
  have hspares : u.health.spares = y.recompute.health.spares := State.eq_of_withoutStore (fun v => v.health.spares) hstore
  have hold : y.health.low = s.health.low := by rw [← hy, State.judgedTold_health, State.worked_health]
  have htold : y.link = told.link := by
    rw [← hy, State.judgedTold_link, State.worked_wear, if_pos rfl, State.worked_lanes]
    simp only [told]
    split
    · exact State.notice_link_congr (s.worked_link l ld rb) (s.worked_store l ld rb).1 _
    · exact s.worked_link l ld rb
  have hconfig : y.store.config = told.store.config := by
    rw [← hy, State.judgedTold_store, (s.worked_store l ld rb).1]
    simp only [told]
    split
    · rw [State.notice_store]
    · rfl
  rw [State.eq_of_withoutStore State.link hstore, State.recompute_link, hlow, hlife, hspares, hold]
  split
  · exact htold
  · exact State.notice_link_congr htold hconfig _

end

/-- Settles O42: beside the store, a report is one recomputation of its marks, counts and condemnation; the store's part is
followed on a busy and on an idle store. -/
theorem loadReports : Obligations.LoadReports := by
  intro s l ld rb hs hcloses hopens u old new fresh charged each unsaved condemned due figures
  have hcharge : s.loadCharge ld = (each, charged) := by
    simp only [each, charged]
    unfold State.loadCharge
    cases ld.kind <;> rfl
  have hnodup : charged.Nodup := by
    simpa only [hcharge] using s.loadCharge_nodup hcloses hopens
  have hstore := s.healthLoad_withoutStore l ld rb
  have hhealth := State.healthLoad_withoutHealth l ld rb s
  have hrecord := s.healthLoad_record_eq l ld rb
  obtain ⟨hcounts, hmarks, hlost, hlife⟩ := s.healthLoad_wear_same l ld rb
  have hfresh : fresh = (newMarks old.marks rb).length := (newMarks_length _ _).symm
  have hunsaved : (s.wornBy l ld rb).unsaved = unsaved :=
    congrArg (satAdd old.unsaved) (State.chargedCounts_increase hcharge hs hnodup)
  have hwcounts : (s.wornBy l ld rb).counts = new.counts := hcounts.symm
  have hwmarks : (s.wornBy l ld rb).marks = new.marks := hmarks.symm
  have hdue : s.recordDue l ld rb = due := by
    rw [State.recordDue_eq, ← hfresh, hunsaved]
  have hends : (s.worked l ld rb).ends l rb = condemned := by
    rw [State.worked_ends]
    exact congrArg (fun n : Nat => decide (rb ≠ []) || (s.retireAtEnd && decide (n = 0))) hlife.symm
  refine ⟨fun q => ?_, fun q => ?_, ?_, hlost, fun k hk => s.healthLoad_wear_other l ld rb hk, ?_, ?_, ?_, ?_,
    s.healthLoad_latch_iff l ld rb, State.healthCurrent_of_withoutStore hstore (State.recompute_current _), ?_, ?_,
    State.eq_of_withoutHealth State.sites hhealth, State.eq_of_withoutHealth State.ports hhealth,
    State.eq_of_withoutHealth State.results hhealth, State.eq_of_withoutHealth State.meter hhealth,
    State.eq_of_withoutHealth State.time hhealth, State.eq_of_withoutHealth State.pins hhealth,
    State.eq_of_withoutHealth State.laneWaiters hhealth, State.eq_of_withoutHealth State.resetReq hhealth,
    fun hflight => ?_, fun hflight hpending hphase => ?_⟩
  · exact (congrArg (fun c : Counts => c.get q) hcounts).trans (State.chargedCounts_get hcharge hs hnodup q)
  · exact (iff_of_eq (congrArg (q ∈ ·) hmarks)).trans mem_marks_newMarks
  · exact hlife.trans (congrArg (fun c : Counts => lifePercent s.ratedLife c.largest) hcounts.symm)
  · rw [hfresh]
    exact congrArg HealthRecord.coilFaults hrecord
  · exact congrArg HealthRecord.hotOps hrecord
  · exact (congrArg HealthRecord.ocFaults hrecord).trans rfl
  · exact congrArg HealthRecord.lifeWorst hrecord
  · refine (s.healthLoad_lanes l ld rb).trans ?_
    rw [hends]
    rfl
  · intro told
    have hwlife : (s.wornBy l ld rb).life = new.life := hlife.symm
    have hempty : new.marks.isEmpty = decide (new.marks = []) := by cases new.marks <;> rfl
    have htold : (if (s.worked l ld rb).ends l rb && decide (s.lanes[l].state = .free) then
        s.notice (.laneRetired l (s.wornBy l ld rb).marks.isEmpty (s.wornBy l ld rb).life (s.wornBy l ld rb).marks.length)
        else s) = told := by
      rw [hends, hwmarks, hwlife, hempty]
    rw [← htold]
    exact s.healthLoad_link l ld rb
  · intro lanes
    obtain ⟨hwear, hjoins⟩ := s.healthLoad_joins l ld rb hflight
    have hlanes : (if s.recordDue l ld rb then joined (laneItem l) s.store.pendingWrites else s.store.pendingWrites) =
        lanes := by
      rw [joined_if, hdue]
    rw [hlanes, joined_if] at hjoins
    exact ⟨(congrArg LaneHealth.unsaved hwear).trans hunsaved, hjoins⟩
  · obtain ⟨hwear, hbegun, hjoins⟩ := s.healthLoad_begins l ld rb hflight hpending hphase
    rw [hdue] at hwear hbegun hjoins
    rw [hunsaved] at hwear
    rw [hwcounts, hwmarks] at hbegun
    exact ⟨congrArg LaneHealth.unsaved hwear, hbegun, hjoins⟩

end Sys2Proof.Machine
end


section
set_option Elab.async false
/-! # When a timer expires (O5) -/

namespace Sys2Proof.Machine

variable {x t : Nat}

theorem Duration.tick_pos (d : Duration) : 0 < Duration.tick d := by
  unfold Duration.tick
  split <;> decide

/-! ### The first multiple at or after a count (R166) -/

theorem roundUp_eq_ceilDiv (ht : 0 < t) (x : Nat) : roundUp x t = (x ⌈/⌉ t) * t := by
  rw [Nat.ceilDiv_eq_add_pred_div, roundUp, Nat.add_sub_assoc ht]

theorem roundUp_mod (x t : Nat) : roundUp x t % t = 0 := Nat.mul_mod_left _ _

theorem le_roundUp (ht : 0 < t) (x : Nat) : x ≤ roundUp x t := by
  rw [roundUp_eq_ceilDiv ht, mul_comm]
  exact le_smul_ceilDiv ht

/-- No multiple lies between a count and the one it is rounded up to. -/
theorem roundUp_le {m : Nat} (ht : 0 < t) (hx : x ≤ m) (hm : m % t = 0) : roundUp x t ≤ m := by
  obtain ⟨k, rfl⟩ := Nat.dvd_of_mod_eq_zero hm
  rw [roundUp_eq_ceilDiv ht, mul_comm t k]
  exact Nat.mul_le_mul_right t ((ceilDiv_le_iff_le_smul ht).mpr hx)

theorem roundUp_lt (ht : 0 < t) (x : Nat) : roundUp x t < x + t := by
  have hquot : roundUp x t ≤ x + (t - 1) := Nat.div_mul_le_self _ _
  omega

/-! ### The expiry of a timer -/

theorem Timer.begin_expiry_zero {d : Duration} (h : Duration.count d = 0) (now : Nat) : (Timer.begin d now).expiry = now :=
  if_pos h

theorem Timer.begin_expiry {d : Duration} (h : 1 ≤ Duration.count d) (now : Nat) :
    (Timer.begin d now).expiry = roundUp (now + Duration.count d * Duration.tick d) (Duration.tick d) :=
  if_neg (Nat.one_le_iff_ne_zero.mp h)

/-- Settles O5: a timer with a count expires at its duration's end, rounded up to a whole tick. -/
theorem timerExpiry : Obligations.TimerExpiry := by
  intro d now
  refine ⟨fun h => Timer.begin_expiry_zero h now, fun h => ?_⟩
  have ht := Duration.tick_pos d
  rw [Timer.begin_expiry h now]
  refine ⟨roundUp_mod _ _, le_roundUp ht _, ?_, fun m hle hm => roundUp_le ht hle hm⟩
  have hlt := roundUp_lt ht (now + Duration.count d * Duration.tick d)
  rwa [Nat.add_assoc, ← Nat.succ_mul] at hlt

end Sys2Proof.Machine
end


section
set_option Elab.async false
/-! # The end of a WAIT (O39) -/

namespace Sys2Proof.Machine

variable {s : State} {i : SiteId} {t : Timer} {tag : Byte} {d : Duration} {rest : List Step} {n : Nat}

/-- The WAIT timer's expiry ends the running WAIT OK (R173). -/
theorem State.waitExpired_eq (ht : s.sites[i].waitTimer = some t) (hx : t.expiry ≤ s.time.now)
    (hq : s.sites[i].queue = ⟨tag, .wait d⟩ :: rest) (hr : s.sites[i].running = some ⟨.active .waiting, n⟩) :
    s.waitExpired i = (s.modSite i fun x => { x with waitTimer := none }).endOk i := by
  have hactive : (s.modSite i fun x => { x with waitTimer := none }).active i = some (⟨tag, .wait d⟩, .waiting, n) :=
    State.active_eq (rest := rest) (by rw [State.modSite_get]; exact hq) (by rw [State.modSite_get]; exact hr)
  unfold State.waitExpired
  simp only [ht, State.expired_of_le hx, hactive]

/-- Settles O39: the WAIT loses its timer and ends as a step that runs alone does. -/
theorem waitTimerEndsWait : Obligations.WaitTimerEndsWait := by
  intro s i t tag d n hb halone ht hx
  obtain ⟨hq, hr, hst, hheld, hc, hfree⟩ := halone
  have hstopped : (s.modSite i fun x => { x with waitTimer := none }).runsAlone i ⟨tag, .wait d⟩ .waiting n := by
    unfold State.runsAlone
    simp only [State.modSite_get]
    exact ⟨hq, hr, hst, hheld, hc, hfree⟩
  have hdone : makeDone i ⟨tag, .wait d⟩ n .ok none s.results.sites[i].lastSeq [] =
      ⟨i, tag, .ok, none, 0, 0, none, []⟩ := rfl
  refine (if_pos hb.1 : _ = (s.waitExpired i).finish).trans ?_
  rw [State.waitExpired_eq ht hx hq hr, State.endOk_alone_finish (s := s.modSite i _) hb.2 hstopped,
    State.modSite_results, hdone]
  simp only [State.doneQueued, State.modSite, State.modLink, upd_upd]

end Sys2Proof.Machine
end


section
set_option Elab.async false
/-! # The passing of time and the commands that become due (O2) -/

namespace Sys2Proof.Machine

variable {s : State} {o : Option Timer} {c e : Instr} {i : SiteId} {l : LaneId} {p : PortId}

theorem mem_allPorts (p : PortId) : p ∈ allPorts := by
  revert p; decide

/-! ### When a command is due (R166, R167) -/

theorem State.expired_isSome_iff : (s.expired o).isSome = true ↔ ∃ t : Timer, o = some t ∧ t.expiry ≤ s.time.now := by
  rcases o with _ | t
  · simp [State.expired]
  · by_cases h : t.expiry ≤ s.time.now <;> simp [State.expired, h]

theorem mem_ite_singleton {b : Prop} [Decidable b] : c ∈ (if b then [e] else []) ↔ c = e ∧ b := by
  rw [List.mem_ite_nil_right, List.mem_singleton, and_comm]

theorem State.mem_dueCommand : c ∈ s.dueCommand o e ↔ c = e ∧ (s.expired o).isSome = true := mem_ite_singleton

theorem State.mem_siteDue : c ∈ s.siteDue i ↔
    c = .claimTimerExpiry i ∧ (s.expired s.sites[i].claimTimer).isSome = true ∨
      c = .waitTimerExpiry i ∧ (s.expired s.sites[i].waitTimer).isSome = true := by
  simp only [State.siteDue, List.mem_append, State.mem_dueCommand]

theorem State.mem_laneDue : c ∈ s.laneDue l ↔
    c = .dischargeTimerExpiry l ∧ (s.expired s.lanes[l].dischargeTimer).isSome = true ∨
      c = .operateWaitExpiry l ∧ (s.expired (s.lanes[l].waitOf .operate)).isSome = true ∨
      c = .settleWaitExpiry l ∧ (s.expired (s.lanes[l].waitOf .settle)).isSome = true ∨
      c = .releaseWaitExpiry l ∧ (s.expired (s.lanes[l].waitOf .release)).isSome = true ∨
      c = .ocPersistExpiry l ∧ (s.expired s.lanes[l].episode).isSome = true := by
  simp only [State.laneDue, List.mem_append, State.mem_dueCommand, or_assoc]

theorem State.mem_portDue : c ∈ s.portDue p ↔
    c = .doneTimerExpiry p ∧ (s.expired s.ports[p].doneTimer).isSome = true ∨
      c = .pulseTimerExpiry p ∧ (s.expired s.ports[p].pulseTimer).isSome = true := by
  simp only [State.portDue, List.mem_append, State.mem_dueCommand]

/-- The acquisition has come to its expiry in the given phase: a range switch or a pass. -/
def State.meterExpired (switching : Bool) (s : State) : Prop :=
  ∃ a : Acquisition, s.meter.acq = some a ∧ a.switching = switching ∧ a.timer.expiry ≤ s.time.now

theorem State.mem_meterDue : c ∈ s.meterDue ↔ c = .rangeSwitchExpiry ∧ s.meterExpired true ∨
    c = .sampleTimerExpiry (Config.converterSample s.freeReads) ∧ s.meterExpired false := by
  unfold State.meterDue State.meterExpired
  cases s.meter.acq with
  | none => simp
  | some a => cases hsw : a.switching <;> simp [State.mem_dueCommand, State.expired_isSome_iff, hsw]

/-- What is due, by the block that owns it. -/
theorem State.mem_dueCommands : c ∈ s.dueCommands ↔
    c = .rxGapTimeout ∧ s.gapDue = true ∨ c = .qualificationEnd ∧ (s.expired s.time.monitor.timer).isSome = true ∨
      (∃ i, c ∈ s.siteDue i) ∨ (∃ l, c ∈ s.laneDue l) ∨ (∃ p, c ∈ s.portDue p) ∨ c ∈ s.meterDue ∨
      c = .silenceExpiry ∧ (s.expired s.time.silence.timer).isSome = true ∨
      c = .startup ∧ s.inPhase .startup = true ∧ s.store.inFlight = none := by
  simp only [State.dueCommands, List.mem_append, List.mem_flatMap, mem_ite_singleton, State.mem_dueCommand, mem_allSites,
    mem_allLanes, mem_allPorts, true_and, Bool.and_eq_true, Option.isNone_iff_eq_none, or_assoc]

/-- The command has come due: what it stands for has come about by the passing of time. -/
def State.comesDue (s : State) : Instr → Prop
  | .claimTimerExpiry i => (s.expired s.sites[i].claimTimer).isSome = true
  | .waitTimerExpiry i => (s.expired s.sites[i].waitTimer).isSome = true
  | .dischargeTimerExpiry l => (s.expired s.lanes[l].dischargeTimer).isSome = true
  | .operateWaitExpiry l => (s.expired (s.lanes[l].waitOf .operate)).isSome = true
  | .settleWaitExpiry l => (s.expired (s.lanes[l].waitOf .settle)).isSome = true
  | .releaseWaitExpiry l => (s.expired (s.lanes[l].waitOf .release)).isSome = true
  | .ocPersistExpiry l => (s.expired s.lanes[l].episode).isSome = true
  | .doneTimerExpiry p => (s.expired s.ports[p].doneTimer).isSome = true
  | .pulseTimerExpiry p => (s.expired s.ports[p].pulseTimer).isSome = true
  | .rangeSwitchExpiry => s.meterExpired true
  | .sampleTimerExpiry v => v = Config.converterSample s.freeReads ∧ s.meterExpired false
  | .silenceExpiry => (s.expired s.time.silence.timer).isSome = true
  | .qualificationEnd => (s.expired s.time.monitor.timer).isSome = true
  | .rxGapTimeout => s.gapDue = true
  | .startup => s.inPhase .startup = true ∧ s.store.inFlight = none
  | _ => False

/-- A command enters the queue exactly where it has come due. -/
theorem State.mem_dueCommands_iff : c ∈ s.dueCommands ↔ s.comesDue c := by
  rw [State.mem_dueCommands]
  simp only [State.mem_siteDue, State.mem_laneDue, State.mem_portDue, State.mem_meterDue]
  constructor
  · rintro (⟨rfl, h⟩ | ⟨rfl, h⟩ | ⟨i, ⟨rfl, h⟩ | ⟨rfl, h⟩⟩ | ⟨l, ⟨rfl, h⟩ | ⟨rfl, h⟩ | ⟨rfl, h⟩ | ⟨rfl, h⟩ | ⟨rfl, h⟩⟩ |
      ⟨p, ⟨rfl, h⟩ | ⟨rfl, h⟩⟩ | (⟨rfl, h⟩ | ⟨rfl, h⟩) | ⟨rfl, h⟩ | ⟨rfl, h⟩)
    any_goals exact h
    exact ⟨rfl, h⟩
  · intro h
    cases c with
    | rxGapTimeout => exact .inl ⟨rfl, h⟩
    | qualificationEnd => exact .inr (.inl ⟨rfl, h⟩)
    | claimTimerExpiry i => exact .inr (.inr (.inl ⟨i, .inl ⟨rfl, h⟩⟩))
    | waitTimerExpiry i => exact .inr (.inr (.inl ⟨i, .inr ⟨rfl, h⟩⟩))
    | dischargeTimerExpiry l => exact .inr (.inr (.inr (.inl ⟨l, .inl ⟨rfl, h⟩⟩)))
    | operateWaitExpiry l => exact .inr (.inr (.inr (.inl ⟨l, .inr (.inl ⟨rfl, h⟩)⟩)))
    | settleWaitExpiry l => exact .inr (.inr (.inr (.inl ⟨l, .inr (.inr (.inl ⟨rfl, h⟩))⟩)))
    | releaseWaitExpiry l => exact .inr (.inr (.inr (.inl ⟨l, .inr (.inr (.inr (.inl ⟨rfl, h⟩)))⟩)))
    | ocPersistExpiry l => exact .inr (.inr (.inr (.inl ⟨l, .inr (.inr (.inr (.inr ⟨rfl, h⟩)))⟩)))
    | doneTimerExpiry p => exact .inr (.inr (.inr (.inr (.inl ⟨p, .inl ⟨rfl, h⟩⟩))))
    | pulseTimerExpiry p => exact .inr (.inr (.inr (.inr (.inl ⟨p, .inr ⟨rfl, h⟩⟩))))
    | rangeSwitchExpiry => exact .inr (.inr (.inr (.inr (.inr (.inl (.inl ⟨rfl, h⟩))))))
    | sampleTimerExpiry v => exact .inr (.inr (.inr (.inr (.inr (.inl (.inr ⟨congrArg _ h.1, h.2⟩))))))
    | silenceExpiry => exact .inr (.inr (.inr (.inr (.inr (.inr (.inl ⟨rfl, h⟩))))))
    | startup => exact .inr (.inr (.inr (.inr (.inr (.inr (.inr ⟨rfl, h⟩))))))
    | _ => cases h

/-! ### The timers as the state holds them -/

theorem Lane.waitOf_eq_some_iff {x : Lane} {k : WaitKind} {t : Timer} : x.waitOf k = some t ↔ x.wait = some ⟨k, t⟩ := by
  unfold Lane.waitOf
  rcases x.wait with _ | ⟨k', t'⟩
  · simp
  · by_cases h : k' = k <;> simp [h]

theorem Silence.timer_eq_some_iff {x : Silence} {t : Timer} : x.timer = some t ↔ x = .running t := by
  cases x <;> simp [Silence.timer]

theorem Monitor.timer_eq_some_iff {x : Monitor} {t : Timer} : x.timer = some t ↔ x = .qualifying t := by
  cases x <;> simp [Monitor.timer]

theorem State.gapDue_iff : s.gapDue = true ↔
    ∃ (b : List Byte) (last : Nat), s.link.rx = .receiving b last ∧ last + 2000 < s.time.now := by
  unfold State.gapDue
  cases s.link.rx with
  | hunting => simp
  | receiving b last =>
    rw [decide_eq_true_iff]
    unfold Config.rxGap
    refine ⟨fun h => ⟨b, last, rfl, by omega⟩, fun ⟨b', last', he, h⟩ => ?_⟩
    cases he
    omega

/-- The wait of a kind on a lane has ended. -/
theorem State.waitOf_expired_iff {k : WaitKind} : (s.expired (s.lanes[l].waitOf k)).isSome = true ↔
    ∃ t : Timer, s.lanes[l].wait = some ⟨k, t⟩ ∧ t.expiry ≤ s.time.now := by
  simp only [State.expired_isSome_iff, Lane.waitOf_eq_some_iff]

/-- The discharge timer of a lane's quiet wait has expired (R77). -/
theorem State.dischargeTimer_expired_iff : (s.expired s.lanes[l].dischargeTimer).isSome = true ↔
    ∃ q : QuietWait, s.lanes[l].quiet = some q ∧ ∃ t : Timer, q.timer = some t ∧ t.expiry ≤ s.time.now := by
  simp only [State.expired_isSome_iff, Lane.dischargeTimer, Option.bind_eq_some_iff]
  tauto

theorem State.silence_expired_iff : (s.expired s.time.silence.timer).isSome = true ↔
    ∃ t : Timer, s.time.silence = .running t ∧ t.expiry ≤ s.time.now := by
  simp only [State.expired_isSome_iff, Silence.timer_eq_some_iff]

theorem State.qualification_expired_iff : (s.expired s.time.monitor.timer).isSome = true ↔
    ∃ t : Timer, s.time.monitor = .qualifying t ∧ t.expiry ≤ s.time.now := by
  simp only [State.expired_isSome_iff, Monitor.timer_eq_some_iff]

/-! ### A command that is not due -/

theorem event_of_eq {f : State → State} {u : State} (hp : s.powered = true) (h : f s = u) (hu : u.noBacklog) :
    event f s = .next u.transmit := by
  subst h
  exact event_next f s hp hu

/-- An event that does nothing ends with the transmitter's choice. -/
theorem event_idle {f : State → State} (hb : s.awake) (h : f s = s) : event f s = .next s.transmit :=
  event_of_eq hb.1 h hb.2

theorem receiverEvent_idle {f : State → State} (hb : s.awake) (h : f s = s) : receiverEvent f s = .next s.transmit :=
  event_idle hb (by rw [h, ite_self])

/-- Without a range switch that has ended METER begins no pass (R108). -/
theorem State.rangeSwitchExpired_early (h : ¬s.meterExpired true) : s.rangeSwitchExpired = s := by
  unfold State.rangeSwitchExpired
  split
  · next a ha =>
    refine if_neg fun hx => h ⟨a, ha, ?_⟩
    obtain ⟨hsw, hx⟩ := Bool.and_eq_true_iff.mp hx
    obtain ⟨t, ht, hle⟩ := State.expired_isSome_iff.mp hx
    cases ht
    exact ⟨hsw, hle⟩
  · rfl

/-- A start-up that is not due does not begin (log entry 21). -/
theorem exec_startup_early (hb : s.awake) (h : ¬(s.inPhase .startup = true ∧ s.store.inFlight = none)) :
    exec .startup s = .next s.transmit := by
  refine event_idle hb ?_
  simp only [Bool.and_eq_true, Option.isNone_iff_eq_none, if_neg h]

/-- A timer that is absent, stopped or started anew does not expire (R166, R167, log entries 4 and 22). -/
theorem exec_of_not_comesDue (hb : s.awake) (hc : timerCommand c = true) (h : ¬s.comesDue c) :
    exec c s = .next s.transmit := by
  have hnone {o : Option Timer} (ho : ¬(s.expired o).isSome = true) : s.expired o = none :=
    Option.not_isSome_iff_eq_none.mp ho
  cases c with
  | claimTimerExpiry i => exact event_idle hb (by simp only [State.claimExpired, hnone h])
  | waitTimerExpiry i => exact event_idle hb (by simp only [State.waitExpired, hnone h])
  | operateWaitExpiry l => exact event_idle hb (by simp only [State.operateExpired, hnone h])
  | settleWaitExpiry l => exact event_idle hb (by simp only [State.settleExpired, hnone h])
  | releaseWaitExpiry l => exact event_idle hb (by simp only [State.releaseExpired, hnone h])
  | dischargeTimerExpiry l => exact event_idle hb (by simp only [State.dischargeExpired, hnone h])
  | ocPersistExpiry l => exact event_idle hb (by simp only [State.ocExpired, hnone h])
  | doneTimerExpiry p => exact event_idle hb (by simp only [State.doneExpired, hnone h])
  | pulseTimerExpiry p => exact event_idle hb (by simp only [State.pulseExpired, hnone h])
  | rangeSwitchExpiry => exact event_idle hb (State.rangeSwitchExpired_early h)
  | silenceExpiry => exact event_idle hb (by simp only [State.silenceExpired, hnone h])
  | qualificationEnd => exact event_idle hb (by simp only [State.qualificationEnds, hnone h])
  | rxGapTimeout => exact receiverEvent_idle hb (if_neg h)
  | startup => exact exec_startup_early hb h
  | _ => cases hc

/-- A step on an empty queue lets time pass (log entry 3). -/
theorem step_empty (hq : s.pending = []) : step s = .next s.tick := by
  unfold step
  rw [hq]

/-- Settles O2: the tick, the commands that have come due, and the expiries that have not. -/
theorem emptyQueuePassesTime : Obligations.EmptyQueuePassesTime := by
  refine ⟨fun s hq => ?_, fun s i l p v => ?_, fun s c hb hc hd => ?_⟩
  · intro later
    refine ⟨fun hp => ?_, fun hp => ?_⟩
    · have htick : s.tick = (later.withPending later.dueCommands).drew 1 := by
        unfold State.tick
        simp only [hp, if_true, State.modTime_pending, hq, List.nil_append]
        rfl
      rw [step_empty hq, htick]
    · rw [step_empty hq, State.tick, hp, if_neg (by decide)]
  · simp only [State.mem_dueCommands_iff]
    exact ⟨State.expired_isSome_iff, State.expired_isSome_iff, State.dischargeTimer_expired_iff, State.waitOf_expired_iff,
      State.waitOf_expired_iff, State.waitOf_expired_iff, State.expired_isSome_iff, State.expired_isSome_iff,
      State.expired_isSome_iff, Iff.rfl, Iff.rfl, State.silence_expired_iff,
      State.qualification_expired_iff, State.gapDue_iff, Iff.rfl⟩
  · exact exec_of_not_comesDue hb hc (mt State.mem_dueCommands_iff.mpr hd)

end Sys2Proof.Machine
end


section
set_option Elab.async false
/-! # A fault at several sites that run a WAIT (O52)

Each of them is SAFE at once; what is left for the event's follow-ups are their DONEs, then the closings of their blocks, in
ascending site order (log entry 36). -/

namespace Sys2Proof.Machine

variable {s t : State} {i j : SiteId} {f : Failure} {d : DoneFrame} {ds : List DoneFrame}
  {js : List SiteId} {ts : List Task}

/-! ### Lists of actions -/

/-- The part with other follow-ups to come. -/
def State.withAgenda (ts : List Task) (s : State) : State := { s with agenda := ts }

theorem State.withAgenda_self (h : s.agenda = ts) : s.withAgenda ts = s := by subst h; rfl

/-- An action that does not look at the agenda, over a list. -/
theorem forEach_withAgenda {α : Type} {g : α → State → State}
    (hg : ∀ (a : α) (t : State) (ts : List Task), g a (t.withAgenda ts) = (g a t).withAgenda ts) (as : List α)
    (s : State) (ts : List Task) : forEach as g (s.withAgenda ts) = (forEach as g s).withAgenda ts := by
  induction as generalizing s with
  | nil => rfl
  | cons a as ih => rw [forEach_cons, forEach_cons, hg, ih]

/-- A list of actions that each change the record of a site of their own. -/
theorem forEach_site {α : Type} {g : α → State → State} (key : α → SiteId) (F : Site → Site)
    (hg : ∀ (a : α) (t : State), (g a t).sites = upd t.sites (key a) F) (as : List α) (s : State)
    (hn : (as.map key).Nodup) (i : SiteId) :
    (forEach as g s).sites[i] = if i ∈ as.map key then F s.sites[i] else s.sites[i] := by
  induction as generalizing s with
  | nil => rfl
  | cons a as ih =>
    obtain ⟨hfresh, hn⟩ := List.nodup_cons.mp hn
    rw [forEach_cons, ih _ hn, hg, upd_get, List.map_cons]
    by_cases hi : key a = i
    · subst hi
      rw [if_neg hfresh, if_pos rfl, if_pos List.mem_cons_self]
    · simp only [if_neg hi, List.mem_cons, Ne.symm hi, false_or]

/-! ### The site that is taken -/

/-- The site runs a WAIT and holds nothing else: no route, no claim, no DONE of a step that carried a fault. -/
def State.onlyWaits (i : SiteId) (s : State) : Prop :=
  s.sites[i].state = .running ∧ s.sites[i].carried = [] ∧ s.routeLanes i = [] ∧ s.routelessPorts i = [] ∧
    ∃ (tag : Byte) (d : Duration) (rest : List Step) (n : Nat), s.sites[i].queue = ⟨tag, .wait d⟩ :: rest ∧
      s.sites[i].running = some ⟨.active .waiting, n⟩

theorem State.onlyWaits_congr (hsite : t.sites[i] = s.sites[i]) (hlanes : t.lanes = s.lanes) (hports : t.ports = s.ports)
    (h : s.onlyWaits i) : t.onlyWaits i := by
  have howners : s.sameOwners t := fun l => by rw [hlanes]
  unfold State.onlyWaits
  rw [hsite, howners.routeLanes, howners.routelessPorts fun p => by rw [hports]]
  exact h

/-- The DONE of a running WAIT that carries a fault: it lists the steps behind it (R12). -/
def Site.waitFailed (i : SiteId) (f : Failure) (x : Site) : DoneFrame :=
  ⟨i, (x.queue.map Step.tag).headD 0, .failed, some f, 0, 0, none, x.tailTags⟩

/-- The record of a site that is SAFE by a fault, its WAIT ENDED (R12, R88). -/
def Site.waitEnded (f : Failure) (x : Site) : Site :=
  { x with queue := x.queue.take 1, running := x.running.map fun r => { r with progress := .ended }, held := false,
           waitTimer := none, state := .safe, stopCause := some f, teardown := none }

/-- The part with a site that is SAFE by a fault, its WAIT ENDED and its notice raised (R3). -/
def State.waitSafe (f : Failure) (i : SiteId) (s : State) : State :=
  (s.modSite i (Site.waitEnded f)).notice (.siteState i .safe (some f))

theorem State.waitSafe_sites (f : Failure) (i : SiteId) (s : State) :
    (s.waitSafe f i).sites = upd s.sites i (Site.waitEnded f) :=
  State.notice_sites _ _

theorem State.notice_withAgenda (n : Notice) (s : State) (ts : List Task) :
    (s.withAgenda ts).notice n = (s.notice n).withAgenda ts := by
  rw [State.notice_eq, State.notice_eq]
  rfl

theorem State.closing_push_done (d : DoneFrame) (i : SiteId) : (s.push (.done d)).closing i = s.closing i := by
  rw [Bool.eq_iff_iff]
  simp [State.closing, mem_insertTask, Task.closes]

/-- A fault at such a site: SAFE at once, its DONE and the closing of its block to come (R12, R88, R140). -/
theorem State.takeFault_onlyWaits (h : s.onlyWaits i) (hc : s.closing i = false) (hreset : s.resetReq = none) :
    s.takeFault i f =
      ((s.waitSafe f i).push (.done (s.sites[i].waitFailed i f))).push (.closure i .ended) := by
  obtain ⟨hst, -, hl, hp, tag, d, rest, n, hq, hr⟩ := h
  have hdone : s.sites[i].waitFailed i f = ⟨i, tag, .failed, some f, 0, 0, none, rest.map Step.tag⟩ := by
    unfold Site.waitFailed Site.tailTags
    rw [hq]
    rfl
  rw [State.takeFault_open f (.inr (.inl hst)), State.carryFault_wait f hq hr]
  rw [State.beginTeardown_fault_none (f := f) (s := (s.modSite i _).push _) (by rw [State.push_sites, State.modSite_get])
      (by rw [State.push_sites, State.modSite_get]) hl hp hreset,
    State.enterSafe_push, State.noteClosure_push, hdone]
  · unfold State.enterSafe State.waitSafe
    rw [State.modSite_modSite]
    refine congrArg (fun v : State => ((v.notice _).push _).push _) (State.modSite_congr ?_)
    unfold Site.waitEnded
    rw [hq, hr]
    rfl
  · rw [State.closing_push_done, State.closing, State.enterSafe_agenda]
    exact hc

/-! ### The follow-ups of the sites that are taken (R138, R192) -/

/-- The DONEs in their order, then the closings of their sites' blocks in the same order. -/
def faultTasks (ds : List DoneFrame) : List Task := ds.map .done ++ (ds.map DoneFrame.site).map (.closure · .ended)

/-- A follow-up stands behind those of its rank and before those of a higher one. -/
theorem insertTask_between {k : Task} {us vs : List Task} (hu : ∀ u ∈ us, u.rank ≤ k.rank)
    (hv : ∀ v ∈ vs, k.rank < v.rank) : insertTask k (us ++ vs) = us ++ k :: vs := by
  induction us with
  | nil =>
    cases vs with
    | nil => rfl
    | cons v vs => exact if_pos (hv v List.mem_cons_self)
  | cons u us ih =>
    rw [List.cons_append, insertTask_cons, if_neg (Nat.not_lt.mpr (hu u List.mem_cons_self)),
      ih fun w hw => hu w (List.mem_cons_of_mem u hw)]
    rfl

/-- The follow-ups of a further site, above those taken so far, join in site order. -/
theorem insertTask_faultTasks (h : ∀ e ∈ ds, e.site < d.site) :
    insertTask (.closure d.site .ended) (insertTask (.done d) (faultTasks ds)) = faultTasks (ds ++ [d]) := by
  have hdone : insertTask (.done d) (faultTasks ds) =
      ds.map .done ++ .done d :: (ds.map DoneFrame.site).map (.closure · .ended) := by
    refine insertTask_between (fun u hu => ?_) fun v hv => ?_
    · obtain ⟨e, he, rfl⟩ := List.mem_map.mp hu
      have hlt : e.site.val < d.site.val := h e he
      simp only [Task.rank]; omega
    · obtain ⟨k, -, rfl⟩ := List.mem_map.mp hv
      simp only [Task.rank]; omega
  have hclosure := insertTask_between (k := .closure d.site .ended) (vs := [])
    (us := ds.map .done ++ .done d :: (ds.map DoneFrame.site).map (.closure · .ended)) (fun u hu => ?_) nofun
  · rw [hdone]
    simpa [faultTasks] using hclosure
  · simp only [List.mem_append, List.mem_cons, List.mem_map] at hu
    rcases hu with ⟨e, he, rfl⟩ | rfl | ⟨k, ⟨e, he, rfl⟩, rfl⟩
    · simp only [Task.rank]; omega
    · simp only [Task.rank]; omega
    · have hlt : e.site.val < d.site.val := h e he
      simp only [Task.rank]; omega

/-- None of them closes the block of a site above them. -/
theorem faultTasks_closes (h : ∀ e ∈ ds, e.site < i) : (faultTasks ds).any (Task.closes i) = false := by
  rw [List.any_eq_false]
  intro k hk
  unfold faultTasks at hk
  simp only [List.mem_append, List.mem_map] at hk
  rcases hk with ⟨e, -, rfl⟩ | ⟨-, ⟨e, he, rfl⟩, rfl⟩
  · exact Bool.false_ne_true
  · simpa [Task.closes] using (h e he).ne

/-- The sites that are taken, in ascending order: each is SAFE, and the follow-ups stand in site order. -/
theorem forEach_takeFault (hs : js.Pairwise (· < ·)) (hb : ∀ e ∈ ds, ∀ j ∈ js, e.site < j) (hw : ∀ j ∈ js, s.onlyWaits j)
    (hreset : s.resetReq = none) (ha : s.agenda = faultTasks ds) :
    forEach js (fun i t => t.takeFault i f) s =
      (forEach js (State.waitSafe f) s).withAgenda (faultTasks (ds ++ js.map fun j => s.sites[j].waitFailed j f)) := by
  induction js generalizing s ds with
  | nil =>
    rw [List.map_nil, List.append_nil]
    exact (State.withAgenda_self ha).symm
  | cons i js ih =>
    obtain ⟨hi, hs⟩ := List.pairwise_cons.mp hs
    have hc : s.closing i = false := by
      rw [State.closing, ha]
      exact faultTasks_closes fun e he => hb e he i List.mem_cons_self
    generalize hd : s.sites[i].waitFailed i f = d
    have hsite : d.site = i := by rw [← hd]; rfl
    have hother {k : SiteId} (hk : k ∈ js) : (s.waitSafe f i).sites[k] = s.sites[k] := by
      rw [State.waitSafe_sites, upd_get, if_neg (hi k hk).ne]
    have hstep : s.takeFault i f = (s.waitSafe f i).withAgenda (faultTasks (ds ++ [d])) := by
      have hagenda : (s.waitSafe f i).agenda = faultTasks ds := (State.notice_agenda _ _).trans ha
      rw [State.takeFault_onlyWaits (hw i List.mem_cons_self) hc hreset, hd, ← insertTask_faultTasks
        (d := d) fun e he => hsite ▸ hb e he i List.mem_cons_self, ← hagenda, hsite]
      rfl
    have hsame : js.map (fun k => ((s.waitSafe f i).sites[k]).waitFailed k f) = js.map fun k => s.sites[k].waitFailed k f :=
      List.map_congr_left fun k hk => by rw [hother hk]
    rw [forEach_cons, forEach_cons, hstep, ih (s := (s.waitSafe f i).withAgenda _) (ds := ds ++ [d]) hs,
      forEach_withAgenda (g := State.waitSafe f) fun k t ts => State.notice_withAgenda _ (t.modSite k _) ts,
      List.map_cons, hd, ← hsame, List.append_assoc, List.singleton_append]
    · rfl
    · intro e he k hk
      rcases List.mem_append.mp he with he | he
      · exact hb e he k (List.mem_cons_of_mem i hk)
      · rw [List.mem_singleton.mp he, hsite]
        exact hi k hk
    · exact fun k hk => State.onlyWaits_congr (hother hk) (State.notice_lanes _ _) (State.notice_ports _ _)
        (hw k (List.mem_cons_of_mem i hk))
    · exact (State.notice_resetReq _ _).trans hreset
    · rfl

/-! ### The DONEs (R192) -/

/-- A DONE enters the completion queue, and its step leaves the head of its site's queue (R8). -/
def State.doneEntered (d : DoneFrame) (s : State) : State :=
  (s.modLink fun k => { k with completion := k.completion ++ [d] }).modSite d.site fun x =>
    { x with queue := x.queue.tail, running := none }

theorem State.doneEntered_site (d : DoneFrame) (s : State) (i : SiteId) :
    (s.doneEntered d).sites[i].state = s.sites[i].state ∧ (s.doneEntered d).sites[i].carried = s.sites[i].carried := by
  unfold State.doneEntered
  rw [State.modSite_sites, State.modLink_sites, upd_get]
  split <;> exact ⟨rfl, rfl⟩

theorem forEach_doneEntered_completion (ds : List DoneFrame) (s : State) :
    (forEach ds State.doneEntered s).link.completion = s.link.completion ++ ds := by
  induction ds generalizing s with
  | nil => exact (List.append_nil _).symm
  | cons d ds ih =>
    rw [forEach_cons, ih]
    exact List.append_assoc _ _ _

/-- The DONEs of sites that are SAFE enter one after the other while there is room for all. -/
theorem drain_dones (n : Nat) (ha : s.agenda = ds.map .done ++ ts) (hfree : s.link.completion.length + ds.length ≤ 16)
    (hw : s.link.doneWaiting = []) (hst : ∀ d ∈ ds, s.sites[d.site].state = .safe ∧ s.sites[d.site].carried = []) :
    drain (n + ds.length) s = drain n ((forEach ds State.doneEntered s).withAgenda ts) := by
  induction ds generalizing s with
  | nil => exact congrArg (drain n) (State.withAgenda_self ha).symm
  | cons d ds ih =>
    obtain ⟨hsafe, hc⟩ := hst d List.mem_cons_self
    rw [List.length_cons] at hfree
    have hroom : s.link.completion.length < 16 := by omega
    have hdone : (s.withAgenda (ds.map .done ++ ts)).handleDone d = (s.doneEntered d).withAgenda (ds.map .done ++ ts) := by
      rw [State.handleDone_room (s := s.withAgenda (ds.map Task.done ++ ts)) hroom hw hc]
      refine State.siteMovesOn_stays ?_ ?_
      · rw [State.modSite_get]; exact fun h => nomatch hsafe.symm.trans h
      · rw [State.modSite_get]; exact fun h => nomatch hsafe.symm.trans h
    rw [List.length_cons, ← Nat.add_assoc, drain_cons _ s (.done d) (ds.map Task.done ++ ts) ha]
    refine (congrArg (drain (n + ds.length)) hdone).trans ?_
    rw [ih rfl, forEach_withAgenda (g := State.doneEntered) fun _ _ _ => rfl]
    · rfl
    · change (s.link.completion ++ [d]).length + ds.length ≤ 16
      rw [List.length_append, List.length_singleton]; omega
    · exact hw
    · intro e he
      obtain ⟨hstate, hcarried⟩ := s.doneEntered_site d e.site
      obtain ⟨hsafe, hc⟩ := hst e (List.mem_cons_of_mem d he)
      exact ⟨hstate.trans hsafe, hcarried.trans hc⟩

/-! ### The closings (R138) -/

theorem State.closeBlock_withAgenda (i : SiteId) (c : Cause) (s : State) (ts : List Task) :
    (s.withAgenda ts).closeBlock i c = (s.closeBlock i c).withAgenda ts := by
  rw [State.closeBlock_eq, State.closeBlock_eq]
  rfl

/-- RESULTS once the blocks of several sites have closed, one after the other. -/
def closedAll (js : List SiteId) (r : Results) : Results := js.foldl (fun r i => closedResults i .ended r) r

theorem forEach_closeBlock (js : List SiteId) (s : State) :
    forEach js (fun i v => v.closeBlock i .ended) s = { s with results := closedAll js s.results } := by
  induction js generalizing s with
  | nil => rfl
  | cons i js ih => rw [forEach_cons, ih, State.closeBlock_eq]; rfl

/-- The blocks of sites without a running step close one after the other. -/
theorem drain_closures (n : Nat) (ha : s.agenda = js.map (.closure · .ended)) (hr : ∀ i ∈ js, s.sites[i].running = none) :
    drain (n + js.length) s = (forEach js (fun i v => v.closeBlock i .ended) s).withAgenda [] := by
  induction js generalizing s with
  | nil =>
    refine (drain_nil _ s ha).trans ?_
    exact (State.withAgenda_self ha).symm
  | cons i js ih =>
    have hclosed : (s.withAgenda (js.map (.closure · .ended))).closeBlock i .ended =
        (s.closeBlock i .ended).withAgenda (js.map (.closure · .ended)) := State.closeBlock_withAgenda _ _ _ _
    rw [List.length_cons, ← Nat.add_assoc, drain_closure (i := i) (c := .ended) _ ha (hr i List.mem_cons_self)]
    refine (congrArg (drain (n + js.length)) hclosed).trans ?_
    rw [ih rfl fun k hk => ?_, forEach_withAgenda fun k => State.closeBlock_withAgenda k .ended]
    · rfl
    · rw [State.closeBlock_eq]
      exact hr k (List.mem_cons_of_mem i hk)

/-- Blocks that close while the outbound queue has room for all of them wait for none (R139). -/
theorem closedAll_waiting (js : List SiteId) (r : Results) (hw : r.waiting = []) (ho : r.outbound.length + js.length ≤ 16) :
    (closedAll js r).waiting = [] := by
  induction js generalizing r with
  | nil => exact hw
  | cons i js ih =>
    rw [List.length_cons] at ho
    have hone : (closedResults i .ended r).outbound.length ≤ r.outbound.length + 1 := by
      unfold closedResults
      split
      · simp only
        split <;> simp
      · omega
    have hroom : (closedResults i .ended r).outbound.length + js.length ≤ 16 := by omega
    exact ih _ (closedResults_waiting hw (by omega)) hroom

end Sys2Proof.Machine
end


section
set_option Elab.async false
/-! # The silence timer's expiry (O52) -/

namespace Sys2Proof.Machine

variable {s : State} {i : SiteId} {l : LaneId} {r : Route} {t : Timer} {f : Failure}

/-! ### The sites that are taken (R12, R172) -/

theorem State.takesFaults_iff : s.takesFaults i = true ↔
    s.sites[i].state ≠ .aborting ∧ s.sites[i].state ≠ .safing ∧ s.sites[i].state ≠ .safe := by
  unfold State.takesFaults State.tearing
  cases s.sites[i].state <;> simp

theorem State.routelessPorts_ne_nil_iff : s.routelessPorts i ≠ [] ↔
    ∃ (p : PortId) (c : Claim), s.ports[p].claim = some c ∧ c.site = i ∧ s.routeLane i c.handle = none := by
  unfold State.routelessPorts
  rw [Ne, List.filter_eq_nil_iff]
  push Not
  refine exists_congr fun p => ?_
  cases s.ports[p].claim with
  | none => simp
  | some c => simp [mem_allPorts]

/-- Behind one ENDED step it takes a second step to hold one that is not (R172). -/
theorem State.holdsWork_ended {n : Nat} (hn : s.sites[i].running = some ⟨.ended, n⟩) (hc : s.sites[i].carried = []) :
    s.holdsWork i = (decide (1 < s.sites[i].queue.length) || s.holdsRoute i || !(s.routelessPorts i).isEmpty) := by
  have hbegun : s.sites[i].begunSteps = 1 := by unfold Site.begunSteps; rw [hn, hc]; rfl
  unfold State.holdsWork
  simp only [hn, hbegun]

/-- Where no step is ENDED each step of the queue is one that is not. -/
theorem State.holdsWork_going (h : ¬∃ n : Nat, s.sites[i].running = some ⟨.ended, n⟩) :
    s.holdsWork i = (decide (0 < s.sites[i].queue.length) || s.holdsRoute i || !(s.routelessPorts i).isEmpty) := by
  unfold State.holdsWork
  simp only
  split
  · next n hn => exact absurd ⟨n, hn⟩ h
  · rfl

theorem State.holdsWork_iff (hc : s.sites[i].carried = []) :
    let ended := ∃ n : Nat, s.sites[i].running = some ⟨.ended, n⟩
    s.holdsWork i = true ↔ (¬ended ∧ s.sites[i].queue ≠ []) ∨ (ended ∧ 1 < s.sites[i].queue.length) ∨
      (∃ (l : LaneId) (r : Route), s.lanes[l].route = some r ∧ r.site = i) ∨
      ∃ (p : PortId) (c : Claim), s.ports[p].claim = some c ∧ c.site = i ∧ s.routeLane i c.handle = none := by
  intro ended
  have hports : (!(s.routelessPorts i).isEmpty) = true ↔
      ∃ (p : PortId) (c : Claim), s.ports[p].claim = some c ∧ c.site = i ∧ s.routeLane i c.handle = none := by
    rw [Bool.not_eq_true', List.isEmpty_eq_false_iff, State.routelessPorts_ne_nil_iff]
  by_cases he : ended
  · obtain ⟨n, hn⟩ := id he
    rw [State.holdsWork_ended hn hc]
    simp only [Bool.or_eq_true, State.holdsRoute_iff, hports, decide_eq_true_iff, he, true_and, not_true_eq_false,
      false_and, false_or, or_assoc]
  · rw [State.holdsWork_going he]
    simp only [Bool.or_eq_true, State.holdsRoute_iff, hports, decide_eq_true_iff, he, List.length_pos_iff,
      not_false_eq_true, true_and, false_and, false_or, or_assoc]

/-! ### The expiry -/

/-- The silence timer has expired (R172). -/
def State.silenceOver (s : State) : State := s.modTime fun b => { b with silence := .expired }

/-- The sites that the expiry takes. -/
def State.silencedSites (s : State) : List SiteId := allSites.filter fun i => s.holdsWork i && s.takesFaults i

theorem State.mem_silencedSites : i ∈ s.silencedSites ↔
    s.holdsWork i = true ∧ s.sites[i].state ≠ .aborting ∧ s.sites[i].state ≠ .safing ∧ s.sites[i].state ≠ .safe := by
  rw [State.silencedSites, List.mem_filter, Bool.and_eq_true, State.takesFaults_iff]
  exact and_iff_right (mem_allSites i)

theorem State.silencedSites_sorted : s.silencedSites.Pairwise (· < ·) :=
  List.Pairwise.filter _ (by decide : allSites.Pairwise (· < ·))

/-- The expiry: the fault HOST_SILENT at each site taken, and the notice that lists them. -/
theorem exec_silenceExpiry (hb : s.awake) (ht : s.time.silence = .running t) (hx : t.expiry ≤ s.time.now) :
    exec .silenceExpiry s = ((forEach s.silencedSites (fun i v => v.takeFault i .hostSilent) s.silenceOver).notice
      (.hostSilent s.time.now s.silencedSites)).finish := by
  refine (if_pos hb.1 : _ = s.silenceExpired.finish).trans (congrArg State.finish ?_)
  unfold State.silenceExpired
  rw [ht, Silence.timer, State.expired_of_le hx]
  rfl

/-- A site without a step whose one route is READY on a quiet lane: SAFING, its route OPENING (R12, R86). -/
theorem State.takeFault_opens (hi : s.sites[i].state ≠ .aborting ∧ s.sites[i].state ≠ .safing ∧ s.sites[i].state ≠ .safe)
    (hq : s.sites[i].queue = []) (hr : s.sites[i].running = none) (hl : s.routeLanes i = [l]) (hp : s.routelessPorts i = [])
    (hroute : s.lanes[l].route = some r) (hready : r.state = .ready) (hquiet : s.isLive l = false) :
    s.takeFault i f = (s.modSite i fun x =>
      { x with held := false, stopCause := none, state := .safing, teardown := some (.fault f) }).modLane l
      (Lane.opensRoute r) := by
  have hopen : s.sites[i].state = .idle ∨ s.sites[i].state = .running ∨ s.sites[i].state = .held ∨
      s.sites[i].state = .stopped := by
    revert hi
    cases s.sites[i].state <;> simp
  rw [State.takeFault_open f hopen, State.carryFault_none f hq hr]
  exact State.beginTeardown_opens (s := s.modSite i _) hl hp hroute hready hquiet

/-! ### Sites that run a WAIT -/

variable {js : List SiteId}

/-- The part with the sites `js`, each of which ran a WAIT, SAFE, and the notice raised. -/
def State.silencing (js : List SiteId) (s : State) : State :=
  (forEach js (State.waitSafe .hostSilent) s.silenceOver).notice (.hostSilent s.time.now js)

/-- Their DONEs have entered the completion queue. -/
def State.silencingDone (js : List SiteId) (s : State) : State :=
  forEach (js.map fun j => s.sites[j].waitFailed j .hostSilent) State.doneEntered (s.silencing js)

/-- The part at the end of the expiry: the blocks of the sites closed too. -/
def State.silenced (js : List SiteId) (s : State) : State :=
  { s.silencingDone js with results := closedAll js (s.silencingDone js).results, agenda := [] }

theorem State.silencing_frame {β : Type} (g : State → β) (hnotice : ∀ (n : Notice) (u : State), g (u.notice n) = g u)
    (hsite : ∀ (i : SiteId) (u : State), g (u.modSite i (Site.waitEnded .hostSilent)) = g u) :
    g (s.silencing js) = g s.silenceOver :=
  (hnotice _ _).trans (forEach_frame g _ (fun i u => (hnotice _ _).trans (hsite i u)) js s.silenceOver)

theorem State.silencingDone_frame {β : Type} (g : State → β) (hnotice : ∀ (n : Notice) (u : State), g (u.notice n) = g u)
    (hsite : ∀ (i : SiteId) (F : Site → Site) (u : State), g (u.modSite i F) = g u)
    (hdone : ∀ (u : State) (ds : List DoneFrame), g (u.modLink fun k => { k with completion := ds }) = g u) :
    g (s.silencingDone js) = g s.silenceOver :=
  (forEach_frame g State.doneEntered (fun _ u => (hsite _ _ _).trans (hdone u _)) _ _).trans
    (State.silencing_frame g hnotice fun i u => hsite i _ u)

theorem State.silencingDone_link {β : Type} (g : Link → β) (hnotices : ∀ (k : Link) (v : Vector (Option NoticeEntry) 9),
    g { k with notices := v } = g k) (hdone : ∀ (k : Link) (ds : List DoneFrame), g { k with completion := ds } = g k) :
    g (s.silencingDone js).link = g s.link :=
  State.silencingDone_frame (fun u => g u.link) (fun n _ => State.notice_link_frame g hnotices n) (fun _ _ _ => rfl)
    (fun u ds => hdone u.link ds)

theorem State.silencingDone_results : (s.silencingDone js).results = s.results :=
  State.silencingDone_frame State.results (fun n u => u.notice_results n) (fun _ _ _ => rfl) fun _ _ => rfl

theorem State.silencing_completion : (s.silencing js).link.completion = s.link.completion :=
  State.silencing_frame (fun u => u.link.completion)
    (fun n _ => State.notice_link_frame Link.completion (fun _ _ => rfl) n) fun _ _ => rfl

theorem State.silenced_completion : (s.silenced js).link.completion =
    s.link.completion ++ js.map fun j => s.sites[j].waitFailed j .hostSilent :=
  (forEach_doneEntered_completion _ _).trans (congrArg (· ++ _) State.silencing_completion)

/-- HOST_SILENT lists the sites that were taken (R172). -/
theorem State.silenced_notice (h : s.noticeMask.getLsbD 8 = true) : ∃ e : NoticeEntry,
    (s.silenced js).link.notices[(8 : Fin 9)] = some e ∧ e.notice = .hostSilent s.time.now js := by
  have hmask : (forEach js (State.waitSafe .hostSilent) s.silenceOver).noticeMask = s.noticeMask :=
    forEach_frame State.noticeMask (State.waitSafe .hostSilent) (fun i u => congrArg
      (fun t : Store => t.config[(2 : Fin 16)]) (State.notice_store (u.modSite i _) _)) js s.silenceOver
  obtain ⟨e, he, hn⟩ := State.notice_raised (s := forEach js (State.waitSafe .hostSilent) s.silenceOver)
    (.hostSilent s.time.now js) (by rw [hmask]; exact h)
  refine ⟨e, Eq.trans ?_ he, hn⟩
  exact forEach_frame (fun u : State => u.link.notices[(8 : Fin 9)]) State.doneEntered (fun _ _ => rfl) _ _

theorem State.silenced_results :
    (s.silenced js).results = (forEach js (fun i v => v.closeBlock i .ended) s).results := by
  rw [forEach_closeBlock]
  exact congrArg (closedAll js) State.silencingDone_results

section sites

variable (hn : js.Nodup)
include hn

theorem State.silencing_site (i : SiteId) :
    (s.silencing js).sites[i] = if i ∈ js then s.sites[i].waitEnded .hostSilent else s.sites[i] := by
  unfold State.silencing
  rw [State.notice_sites, forEach_site id (Site.waitEnded .hostSilent) (State.waitSafe_sites .hostSilent) js s.silenceOver
    (by rwa [List.map_id]), List.map_id]
  rfl

theorem State.silencingDone_site (i : SiteId) : (s.silencingDone js).sites[i] =
    if i ∈ js then { s.sites[i].waitEnded .hostSilent with queue := [], running := none } else s.sites[i] := by
  have hkeys : (js.map fun j => s.sites[j].waitFailed j .hostSilent).map DoneFrame.site = js := by
    rw [List.map_map]
    exact List.map_id js
  unfold State.silencingDone
  rw [forEach_site DoneFrame.site (fun x => { x with queue := x.queue.tail, running := none }) (fun _ _ => rfl) _ _
    (by rw [hkeys]; exact hn), hkeys, State.silencing_site hn]
  split
  · unfold Site.waitEnded
    cases s.sites[i].queue <;> rfl
  · rfl

end sites

/-- The follow-ups of the expiry: the DONEs, then the closings. -/
theorem drain_silencing (hs : js.Pairwise (· < ·)) (hlen : js.length ≤ 4) (ha : s.agenda = [])
    (hfree : s.link.completion.length + js.length ≤ 16) (hw : s.link.doneWaiting = [])
    (hjs : ∀ j ∈ js, s.onlyWaits j) (hreset : s.resetReq = none) :
    drain Config.cascadeBound ((forEach js (fun i v => v.takeFault i .hostSilent) s.silenceOver).notice
      (.hostSilent s.time.now js)) = s.silenced js := by
  have hn : js.Nodup := hs.imp fun h => h.ne
  generalize hds : js.map (fun j => s.sites[j].waitFailed j .hostSilent) = ds
  have hkeys : ds.map DoneFrame.site = js := by
    rw [← hds, List.map_map]
    exact List.map_id js
  have hdslen : ds.length = js.length := by rw [← hds, List.length_map]
  have htaken : (forEach js (fun i v => v.takeFault i .hostSilent) s.silenceOver).notice (.hostSilent s.time.now js) =
      (s.silencing js).withAgenda (faultTasks ds) := by
    rw [forEach_takeFault (s := s.silenceOver) (f := .hostSilent) (ds := []) hs nofun (fun j hj => hjs j hj) hreset
      ha, State.notice_withAgenda, ← hds]
    rfl
  have hbound : Config.cascadeBound = 4096 - js.length - js.length + js.length + ds.length := by
    rw [hdslen, Config.cascadeBound]; omega
  have hdone : forEach ds State.doneEntered (s.silencing js) = s.silencingDone js := by
    rw [← hds]; rfl
  rw [htaken, hbound, drain_dones (ds := ds) (ts := (ds.map DoneFrame.site).map (.closure · .ended)) _ rfl,
    forEach_withAgenda (g := State.doneEntered) fun _ _ _ => rfl, hdone, hkeys, drain_closures (js := js) _ rfl,
    forEach_closeBlock]
  · rfl
  · intro i hi
    change ((s.silencingDone js).sites[i]).running = none
    rw [State.silencingDone_site hn, if_pos hi]
  · change (s.silencing js).link.completion.length + ds.length ≤ 16
    rw [State.silencing_completion, hdslen]
    exact hfree
  · exact (State.silencing_frame (fun u => u.link.doneWaiting)
      (fun n _ => State.notice_link_frame Link.doneWaiting (fun _ _ => rfl) n) fun _ _ => rfl).trans hw
  · intro d hd
    have hmem : d.site ∈ js := hkeys ▸ List.mem_map_of_mem hd
    change ((s.silencing js).sites[d.site]).state = .safe ∧ ((s.silencing js).sites[d.site]).carried = []
    rw [State.silencing_site hn, if_pos hmem]
    exact ⟨rfl, (hjs _ hmem).2.1⟩

theorem State.silenced_noBacklog (hb : s.noBacklog) (ho : s.results.outbound.length + js.length ≤ 16) :
    (s.silenced js).noBacklog := by
  obtain ⟨-, hslots, hwait, hclosed⟩ := hb
  refine ⟨rfl, ?_, ?_, ?_⟩
  · exact (State.silencingDone_link Link.slots (fun _ _ => rfl) fun _ _ => rfl).trans hslots
  · exact (State.silencingDone_link Link.doneWaiting (fun _ _ => rfl) fun _ _ => rfl).trans hwait
  · change (closedAll js (s.silencingDone js).results).waiting = []
    rw [State.silencingDone_results]
    exact closedAll_waiting js _ hclosed ho

/-! ### What the expiry comes to -/

section expires

variable (hb : s.awake) (ht : s.time.silence = .running t) (hx : t.expiry ≤ s.time.now)
include hb ht hx

/-- It takes no site. -/
theorem exec_silenceExpiry_none (h : s.silencedSites = []) :
    exec .silenceExpiry s = .next (s.silenceOver.notice (.hostSilent s.time.now [])).transmit := by
  rw [exec_silenceExpiry hb ht hx, h, forEach_nil]
  exact State.finish_noBacklog _ (State.noBacklog.notice (s := s.silenceOver) hb.2 _)

/-- It takes one site, which runs no step and whose one route is READY on a quiet lane. -/
theorem exec_silenceExpiry_opens (h : s.silencedSites = [i]) (hq : s.sites[i].queue = []) (hr : s.sites[i].running = none)
    (hl : s.routeLanes i = [l]) (hp : s.routelessPorts i = []) (hroute : s.lanes[l].route = some r)
    (hready : r.state = .ready) (hquiet : s.isLive l = false) :
    exec .silenceExpiry s = .next (((s.silenceOver.modSite i fun x =>
      { x with held := false, stopCause := none, state := .safing, teardown := some (.fault .hostSilent) }).modLane l
      (Lane.opensRoute r)).notice (.hostSilent s.time.now [i])).transmit := by
  obtain ⟨-, hstate⟩ := State.mem_silencedSites.mp (h ▸ List.mem_singleton_self i)
  rw [exec_silenceExpiry hb ht hx, h, forEach_cons, forEach_nil,
    State.takeFault_opens (s := s.silenceOver) hstate hq hr hl hp hroute hready hquiet]
  exact State.finish_noBacklog _ (State.noBacklog.notice (s := (s.silenceOver.modSite i _).modLane l _) hb.2 _)

/-- It takes sites that each run a WAIT, with room for their DONEs and their blocks. -/
theorem exec_silenceExpiry_waits (hjs : ∀ j ∈ s.silencedSites, s.onlyWaits j)
    (hfree : s.link.completion.length + s.silencedSites.length ≤ 16)
    (ho : s.results.outbound.length + s.silencedSites.length ≤ 16) (hreset : s.resetReq = none) :
    exec .silenceExpiry s = .next (s.silenced s.silencedSites).transmit := by
  have hlen : s.silencedSites.length ≤ 4 := List.length_filter_le _ allSites
  rw [exec_silenceExpiry hb ht hx]
  exact State.finish_of_drain_noBacklog (drain_silencing State.silencedSites_sorted hlen hb.2.1 hfree hb.2.2.2.1 hjs hreset)
    (State.silenced_noBacklog hb.2 ho)

end expires

end Sys2Proof.Machine
end


section
set_option Elab.async false
/-! # The silence timer and the clock monitor (O52) -/

namespace Sys2Proof.Machine

variable {s : State} {i : SiteId} {t : Timer}

/-- One site alone is taken. -/
theorem State.silencedSites_eq_singleton (hi : i ∈ s.silencedSites) (h : ∀ j ∈ s.silencedSites, j = i) :
    s.silencedSites = [i] := by
  have hn : s.silencedSites.Nodup := State.silencedSites_sorted.imp fun h => h.ne
  exact List.perm_singleton.mp ((List.perm_ext_iff_of_nodup hn (List.nodup_singleton i)).mpr fun j =>
    ⟨fun hj => List.mem_singleton.mpr (h j hj), fun hj => List.mem_singleton.mp hj ▸ hi⟩)

/-! ### The clock monitor (R169) -/

theorem inputEvent_of_eq {p : Pins → Pins} {f : State → State} {u : State} (hp : s.powered = true) (h : f s = u)
    (hu : u.noBacklog) : inputEvent p f s = .next u.transmit := by
  subst h
  exact inputEvent_next p f s hp hu

section clock

variable (hb : s.awake)
include hb

/-- The reference is lost while it drives the count. -/
theorem exec_referenceLost_present (h : s.time.monitor = .present) : exec .referenceLost s =
    .next (((s.modPins fun p => { p with refEdges := false }).modTime fun b =>
      { b with monitor := .lost, source := .oscillator, uncertain := true }).notice
      (.clock .oscillator s.time.now)).transmit := by
  have hlost : s.referenceLost = ((s.modPins fun p => { p with refEdges := false }).modTime fun b =>
      { b with monitor := .lost, source := .oscillator, uncertain := true }).notice (.clock .oscillator s.time.now) := by
    unfold State.referenceLost
    simp only [State.modPins_time, h]
  exact inputEvent_of_eq hb.1 hlost (State.noBacklog.notice (s := (s.modPins _).modTime _) hb.2 _)

/-- The reference is lost during its qualification. -/
theorem exec_referenceLost_qualifying (h : s.time.monitor = .qualifying t) : exec .referenceLost s =
    .next ((s.modPins fun p => { p with refEdges := false }).modTime fun b =>
      { b with monitor := .lost, uncertain := true }).transmit := by
  have hlost : s.referenceLost = (s.modPins fun p => { p with refEdges := false }).modTime fun b =>
      { b with monitor := .lost, uncertain := true } := by
    unfold State.referenceLost
    simp only [State.modPins_time, h]
  exact inputEvent_of_eq hb.1 hlost hb.2

/-- An edge of a lost reference begins its qualification, 10,000 us of the count (log entry 27). -/
theorem exec_referenceEdge_lost (h : s.time.monitor = .lost) : exec .referenceEdge s =
    .next ((s.modPins fun p => { p with refEdges := true }).modTime fun b => { b with
      monitor := .qualifying ⟨s.time.now, s.time.now + 10000, s.time.now + 10000⟩ }).transmit := by
  have hedge : s.referenceEdge = (s.modPins fun p => { p with refEdges := true }).modTime fun b => { b with
      monitor := .qualifying ⟨s.time.now, s.time.now + 10000, s.time.now + 10000⟩ } := by
    unfold State.referenceEdge
    simp only [State.modPins_time, h]
    rfl
  exact inputEvent_of_eq hb.1 hedge hb.2

/-- The end of the qualification: the reference drives the count again. -/
theorem exec_qualificationEnd (h : s.time.monitor = .qualifying t) (hx : t.expiry ≤ s.time.now) :
    exec .qualificationEnd s = .next ((s.modTime fun b => { b with monitor := .present, source := .reference }).notice
      (.clock .reference s.time.now)).transmit := by
  have hqualified : s.qualificationEnds = (s.modTime fun b =>
      { b with monitor := .present, source := .reference }).notice (.clock .reference s.time.now) := by
    unfold State.qualificationEnds
    rw [h, Monitor.timer, State.expired_of_le hx]
    rfl
  exact event_of_eq hb.1 hqualified (State.noBacklog.notice (s := s.modTime _) hb.2 _)

end clock

/-- Settles O52: the expiry by the sites it takes, what holds work, and the four events of the monitor. -/
theorem silenceAndClock : Obligations.SilenceAndClock := by
  refine ⟨fun s t hb ht hx => ?_, fun s i hc => ⟨State.takesFaults_iff, State.holdsWork_iff hc⟩, fun s hb =>
    ⟨exec_referenceLost_present hb, fun _ => exec_referenceLost_qualifying hb, exec_referenceEdge_lost hb,
      fun _ => exec_qualificationEnd hb⟩⟩
  intro taken expired
  have htaken (i : SiteId) : i ∈ s.silencedSites ↔ taken i := State.mem_silencedSites
  refine ⟨fun h => ?_, fun i l r hi halone hq hr hl hroute hready hquiet hpins hp => ?_,
    fun on hon hwaits hfree ho hreset => ?_⟩
  · exact exec_silenceExpiry_none hb ht hx (List.eq_nil_iff_forall_not_mem.mpr fun i hi => h i ((htaken i).mp hi))
  · have hone : s.silencedSites = [i] :=
      State.silencedSites_eq_singleton ((htaken i).mpr hi) fun j hj => halone j ((htaken j).mp hj)
    rw [exec_silenceExpiry_opens hb ht hx hone hq hr hl hp hroute hready hquiet]
    refine congrArg (fun v : State => Host.Outcome.next (v.notice _).transmit) (State.modLane_congr ?_)
    exact Lane.opensRoute_pins hpins
  · change on = s.silencedSites at hon
    subst hon
    have hn : s.silencedSites.Nodup := State.silencedSites_sorted.imp fun h => h.ne
    refine ⟨s.silenced s.silencedSites, exec_silenceExpiry_waits hb ht hx hwaits hfree ho hreset,
      State.silenced_completion, State.silenced_results, fun i hi => ?_, fun i hi => ?_, ?_, State.silenced_notice,
      ?_, ?_, ?_, ?_, ?_⟩
    · exact (State.silencingDone_site hn i).trans (if_pos hi)
    · exact (State.silencingDone_site hn i).trans (if_neg hi)
    · exact State.silencingDone_frame State.time (fun n u => u.notice_time n) (fun _ _ _ => rfl) fun _ _ => rfl
    · exact State.silencingDone_frame State.lanes (fun n u => u.notice_lanes n) (fun _ _ _ => rfl) fun _ _ => rfl
    · exact State.silencingDone_frame State.ports (fun n u => u.notice_ports n) (fun _ _ _ => rfl) fun _ _ => rfl
    · exact State.silencingDone_frame State.meter (fun n u => u.notice_meter n) (fun _ _ _ => rfl) fun _ _ => rfl
    · exact State.silencingDone_frame State.health (fun n u => u.notice_health n) (fun _ _ _ => rfl) fun _ _ => rfl
    · exact State.silencingDone_frame State.store (fun n u => u.notice_store n) (fun _ _ _ => rfl) fun _ _ => rfl

end Sys2Proof.Machine
end


section
set_option Elab.async false
/-! # The end of a store write (O53)

A write that ends changes its item, or raises STORE_FAULT; then the requests that waited for it are answered, and the next
write begins (R176 to R178). -/

namespace Sys2Proof.Machine

variable {s u : State} {w : Write} {it : ItemId} {ok : Bool}

/-- What neither the store's writes nor a lane's unsaved sum change, a write that begins does not change (R152, R177). -/
theorem State.beginWrite_frame {β : Type} (g : State → β)
    (hstore : ∀ (f : Store → Store) (t : State), (f t.store).config = t.store.config → g (t.modStore f) = g t)
    (hwear : ∀ (l : LaneId) (t : State), g (t.modWear l fun x => { x with unsaved := 0 }) = g t) (s : State) :
    g s.beginWrite = g s := by
  unfold State.beginWrite
  split
  · split
    · rfl
    · simp only; split
      · exact (hwear _ _).trans (hstore _ _ rfl)
      · exact hstore _ _ rfl
  · rfl

theorem State.noBacklog.beginWrite (h : s.noBacklog) : s.beginWrite.noBacklog :=
  (State.beginWrite_frame State.noBacklog (fun _ _ _ => rfl) (fun _ _ => rfl) s).mpr h

/-- With no item due, no write begins. -/
theorem State.beginWrite_none (h : s.store.pendingWrites = []) : s.beginWrite = s := by
  unfold State.beginWrite
  split
  · next hp => rw [h] at hp; cases hp
  · rfl

/-- The part once a write has ended, before the requests that waited for it are looked at (R176, R178). -/
def State.writeEnded (w : Write) (ok : Bool) (s : State) : State :=
  if ok then s.modStore fun t => { t with
    inFlight := none, stored := t.stored.put w.content, differs := upd t.differs w.content.item fun _ => w.changed }
  else (s.modStore fun t => { t with inFlight := none }).notice (.storeFault w.content.item true)

theorem State.writeDone_eq (ok : Bool) (hw : s.store.inFlight = some w) :
    s.writeDone ok = ((s.writeEnded w ok).settleAwaits w.content.item ok).beginWrite := by
  unfold State.writeDone State.writeEnded
  simp only [hw]
  rfl

/-- The end of a write changes the store's items, its flags and the notices alone. -/
theorem State.writeEnded_frame {β : Type} (g : State → β)
    (hstore : ∀ (n : Stored) (d : Vector Bool 20) (t : State),
      g (t.modStore fun x => { x with inFlight := none, stored := n, differs := d }) = g t)
    (hnotice : ∀ (n : Notice) (t : State), g (t.notice n) = g t) (w : Write) (ok : Bool) (s : State) :
    g (s.writeEnded w ok) = g s := by
  cases ok with
  | true => exact hstore (s.store.stored.put w.content) (upd s.store.differs w.content.item fun _ => w.changed) s
  | false => exact (hnotice _ _).trans (hstore s.store.stored s.store.differs s)

theorem State.noBacklog.writeEnded (h : s.noBacklog) (w : Write) (ok : Bool) : (s.writeEnded w ok).noBacklog := by
  cases ok with
  | true => exact h
  | false => exact State.noBacklog.notice (s := s.modStore _) h _

theorem State.writeEnded_awaits (w : Write) (ok : Bool) (s : State) : (s.writeEnded w ok).store.awaits = s.store.awaits :=
  State.writeEnded_frame (fun t => t.store.awaits) (fun _ _ _ => rfl) (fun n t => by rw [t.notice_store n]) w ok s

theorem State.writeEnded_reqs (w : Write) (ok : Bool) (s : State) : (s.writeEnded w ok).store.reqs = s.store.reqs :=
  State.writeEnded_frame (fun t => t.store.reqs) (fun _ _ _ => rfl) (fun n t => by rw [t.notice_store n]) w ok s

theorem State.writeEnded_pendingWrites (w : Write) (ok : Bool) (s : State) :
    (s.writeEnded w ok).store.pendingWrites = s.store.pendingWrites :=
  State.writeEnded_frame (fun t => t.store.pendingWrites) (fun _ _ _ => rfl) (fun n t => by rw [t.notice_store n]) w ok s

theorem Await.hit_eq_false_iff {a : Await} : a.hit it = false ↔ ¬(a.item = it ∧ a.begun = true) := by
  unfold Await.hit
  rw [Bool.and_eq_false_iff, decide_eq_false_iff_not, not_and_or, Bool.not_eq_true]

/-- A write that no request awaits leaves the requests as they are (R177). -/
theorem State.settleAwaits_none (ok : Bool) (h : ∀ a ∈ s.store.awaits, ¬(a.item = it ∧ a.begun = true)) :
    s.settleAwaits it ok = s := by
  have hhits : s.store.awaits.filter (Await.hit it) = [] :=
    List.filter_eq_nil_iff.mpr fun a ha => Bool.not_eq_true _ ▸ Await.hit_eq_false_iff.mpr (h a ha)
  have hrest : (s.store.awaits.filter fun a => !a.hit it) = s.store.awaits :=
    List.filter_eq_self.mpr fun a ha => by rw [Await.hit_eq_false_iff.mpr (h a ha)]; rfl
  unfold State.settleAwaits
  simp only [hhits, hrest, List.map_nil, List.contains_nil, Bool.and_false, Bool.false_and, Bool.false_eq_true, if_false,
    List.map_id', Bool.not_false, List.filter_true, List.filter_false]
  rfl

/-- A write's done comes to what its requests make of it, and the next write (R177, R178). -/
theorem exec_storeWriteDone (hb : s.awake) (hw : s.store.inFlight = some w)
    (hu : (s.writeEnded w ok).settleAwaits w.content.item ok = u) (hub : u.noBacklog) :
    exec (.storeWriteDone ok) s = .next u.beginWrite.transmit :=
  event_of_eq hb.1 ((State.writeDone_eq ok hw).trans (congrArg State.beginWrite hu)) hub.beginWrite

/-- The done of a write that no request awaits. -/
theorem exec_storeWriteDone_unawaited (ok : Bool) (hb : s.awake) (hw : s.store.inFlight = some w)
    (h : ∀ a ∈ s.store.awaits, ¬(a.item = w.content.item ∧ a.begun = true)) :
    exec (.storeWriteDone ok) s = .next (s.writeEnded w ok).beginWrite.transmit :=
  exec_storeWriteDone hb hw (State.settleAwaits_none ok (by rw [State.writeEnded_awaits]; exact h)) (hb.2.writeEnded w ok)

/-- Settles O53: no request waits for the write and no item is due, so only the write's own end is left. -/
theorem storeWriteEnds : Obligations.StoreWriteEnds := by
  intro s w hb hw ha hp
  have hdone (ok : Bool) : exec (.storeWriteDone ok) s = .next (s.writeEnded w ok).transmit := by
    rw [exec_storeWriteDone_unawaited ok hb hw (by rw [ha]; exact nofun),
      State.beginWrite_none (by rw [State.writeEnded_pendingWrites, hp])]
  exact ⟨hdone true, hdone false⟩

end Sys2Proof.Machine
end


section
set_option Elab.async false
/-! # The save list of a SAVE and of a FULL reset (O31, O32) -/

namespace Sys2Proof.Machine

variable {s : State} {o : Owner} {tag : Byte} {it : ItemId}

/-! ### Several items become due (R177) -/

/-- While a write is in flight, the items that become due join the pending-write set in their order. -/
theorem forEach_due_busy {ls : List ItemId} (hn : ls.Nodup) (h : s.store.inFlight ≠ none) :
    forEach ls State.due s = s.modStore fun t => { t with
      pendingWrites := t.pendingWrites ++ ls.filter fun k => decide (k ∉ t.pendingWrites) } := by
  induction ls generalizing s with
  | nil => exact State.modStore_congr (fun t => t) _ (by simp)
  | cons it ls ih =>
    obtain ⟨hit, hn⟩ := List.nodup_cons.mp hn
    rw [forEach_cons, State.due_joins it h, ih hn (by exact h), State.modStore_modStore]
    refine State.modStore_congr _ _ ?_
    simp only [joined]
    by_cases hmem : it ∈ s.store.pendingWrites
    · simp only [hmem, if_true, not_true_eq_false, decide_false, Bool.false_eq_true, not_false_eq_true,
        List.filter_cons_of_neg]
    · have hrest : (ls.filter fun k => decide (k ∉ s.store.pendingWrites ++ [it])) =
          ls.filter fun k => decide (k ∉ s.store.pendingWrites) :=
        List.filter_congr fun k hk => by
          have hne : k ≠ it := fun e => hit (e ▸ hk)
          simp [hne]
      simp only [hmem, if_false, hrest, not_false_eq_true, decide_true, List.filter_cons_of_pos, List.append_assoc,
        List.singleton_append]

/-- The requests that wait for an item whose write begins wait for that write (R177). -/
def Await.begins (it : ItemId) (a : Await) : Await := if a.item = it then { a with begun := true } else a

/-- On an idle store, an item that becomes due begins to be written with its content as it stands. -/
theorem State.due_idle_store (it : ItemId) (hf : s.store.inFlight = none) (hp : s.store.pendingWrites = [])
    (hphase : s.inPhase .startup = false) : (s.due it).store = { s.store with
      inFlight := some ⟨s.itemContent it, false⟩, awaits := s.store.awaits.map (Await.begins it) } := by
  by_cases hit : it.val < 16
  · obtain ⟨l, rfl⟩ : ∃ l : LaneId, it = laneItem l := ⟨⟨it.val, hit⟩, rfl⟩
    have hcontent : s.itemContent (laneItem l) = .lane l s.health.lanes[l].counts s.health.lanes[l].marks := dif_pos hit
    rw [hcontent, State.due_lane_idle l hf hp hphase]
    rfl
  · rw [State.due_idle hit hf hp hphase]
    rfl

/-- On an idle store, the first of the items that become due is written and the others wait. -/
theorem forEach_due_idle {rest : List ItemId} (hn : (it :: rest).Nodup) (hf : s.store.inFlight = none)
    (hp : s.store.pendingWrites = []) (hphase : s.inPhase .startup = false) :
    (forEach (it :: rest) State.due s).store = { s.store with
      inFlight := some ⟨s.itemContent it, false⟩, pendingWrites := rest
      awaits := s.store.awaits.map (Await.begins it) } := by
  have hfirst := State.due_idle_store it hf hp hphase
  rw [forEach_cons, forEach_due_busy (List.nodup_cons.mp hn).2 (by rw [hfirst]; exact Option.some_ne_none _),
    State.modStore_store, hfirst]
  simp [hp]

/-! ### The save list (R179) -/

/-- The items that differ from the store, in item order (R179). -/
def State.saveList (s : State) : List ItemId := allItems.filter fun it => s.store.differs[it]

theorem State.saveList_nodup : s.saveList.Nodup := List.Nodup.filter _ (by decide)

theorem State.saveList_eq_nil (h : ∀ it : ItemId, s.store.differs[it] = false) : s.saveList = [] :=
  List.filter_eq_nil_iff.mpr fun it _ => by rw [h it]; decide

/-- A save with nothing to save is answered at once (R179). -/
theorem State.takeSave_nothing (o : Owner) (tag : Byte) (h : s.saveList = []) :
    s.takeSave o tag = s.answerReq ⟨o, tag, []⟩ := by
  have hnone : s.saveList.isEmpty = true := by rw [h]; rfl
  exact if_pos hnone

/-- A request waits for the items of the save list (R177, R179). -/
def State.savesAwaited (o : Owner) (tag : Byte) (s : State) : State := s.await ⟨o, tag, []⟩ s.saveList

theorem State.takeSave_list (o : Owner) (tag : Byte) (h : s.saveList ≠ []) :
    s.takeSave o tag = forEach s.saveList State.due (s.savesAwaited o tag) := by
  have hsome : ¬s.saveList.isEmpty = true := fun he => h (List.isEmpty_iff.mp he)
  exact if_neg hsome

/-- What the store's work leaves as it is, a save leaves as it is. -/
theorem State.takeSave_frame {β : Type} (g : State → β) (h : s.saveList ≠ [])
    (hstore : ∀ (f : Store → Store) (t : State), (f t.store).config = t.store.config → g (t.modStore f) = g t)
    (hwear : ∀ (l : LaneId) (t : State), g (t.modWear l fun x => { x with unsaved := 0 }) = g t) (o : Owner) (tag : Byte) :
    g (s.takeSave o tag) = g s := by
  have hawaited : g (s.savesAwaited o tag) = g s := by
    unfold State.savesAwaited State.await
    exact hstore _ _ rfl
  rw [State.takeSave_list o tag h]
  exact (forEach_frame g State.due (fun it t => State.due_frame g hstore hwear it t) _ _).trans hawaited

/-- While a write is in flight, the list joins the pending-write set behind what stands there (R179). -/
theorem State.takeSave_busy (o : Owner) (tag : Byte) (h : s.saveList ≠ []) (hf : s.store.inFlight ≠ none) :
    s.takeSave o tag = s.modStore fun t => { t with
      reqs := t.reqs ++ [⟨o, tag, []⟩], awaits := t.awaits ++ s.saveList.map fun it => ⟨o, it, false⟩
      pendingWrites := t.pendingWrites ++ s.saveList.filter fun it => decide (it ∉ t.pendingWrites) } := by
  rw [State.takeSave_list o tag h, forEach_due_busy State.saveList_nodup (by exact hf)]
  rfl

/-- On an idle store, the write of the list's first item begins (R177, R179). -/
theorem State.takeSave_idle {rest : List ItemId} (o : Owner) (tag : Byte) (h : s.saveList = it :: rest)
    (hf : s.store.inFlight = none) (hp : s.store.pendingWrites = []) (ha : s.store.awaits = [])
    (hphase : s.inPhase .startup = false) : (s.takeSave o tag).store = { s.store with
      inFlight := some ⟨s.itemContent it, false⟩, pendingWrites := rest, reqs := s.store.reqs ++ [⟨o, tag, []⟩]
      awaits := ⟨o, it, true⟩ :: rest.map fun k => ⟨o, k, false⟩ } := by
  have hn : (it :: rest).Nodup := h ▸ State.saveList_nodup
  have hwaits : ((it :: rest).map fun k => (⟨o, k, false⟩ : Await)).map (Await.begins it) =
      ⟨o, it, true⟩ :: rest.map fun k => ⟨o, k, false⟩ := by
    rw [List.map_cons, List.map_cons, List.map_map]
    refine congrArg₂ List.cons (if_pos rfl) (List.map_congr_left fun k hk => if_neg ?_)
    rintro rfl
    exact (List.nodup_cons.mp hn).1 hk
  rw [State.takeSave_list o tag (by rw [h]; exact List.cons_ne_nil _ _), h,
    forEach_due_idle hn (by exact hf) (by exact hp) (by exact hphase)]
  have hcontent : (s.savesAwaited o tag).itemContent it = s.itemContent it := rfl
  have hawaited : (s.savesAwaited o tag).store = { s.store with
      reqs := s.store.reqs ++ [⟨o, tag, []⟩], awaits := (it :: rest).map fun k => ⟨o, k, false⟩ } := by
    unfold State.savesAwaited State.await
    rw [State.modStore_store, ha, h]
    rfl
  rw [hcontent, hawaited]
  simp only [hwaits]

end Sys2Proof.Machine
end


section
set_option Elab.async false
/-! # SAVE, and the answers at a write's done (O31) -/

namespace Sys2Proof.Machine

variable {s : State} {q : StoreReq} {it : ItemId} {more : List Await} {ok : Bool} {tag : Byte} {bad : List ItemId}

/-! ### The waiting requests (R177, R178) -/

/-- The items whose awaited write has failed, once a write has ended (R178). -/
def StoreReq.failedAfter (it : ItemId) (ok : Bool) (q : StoreReq) : List ItemId :=
  if ok then q.failed else q.failed ++ [it]

/-- The one request in flight takes the write's result: it waits on for another write, or is answered (R177, R178). -/
theorem State.settleAwaits_one (ok : Bool) (hr : s.store.reqs = [q]) (ha : s.store.awaits = ⟨q.owner, it, true⟩ :: more)
    (hmore : ∀ a ∈ more, ¬(a.item = it ∧ a.begun = true)) :
    ((∃ a ∈ more, a.owner = q.owner) → s.settleAwaits it ok =
      s.modStore fun t => { t with awaits := more, reqs := [{ q with failed := q.failedAfter it ok }] }) ∧
    ((∀ a ∈ more, a.owner ≠ q.owner) → s.settleAwaits it ok =
      (s.modStore fun t => { t with awaits := more, reqs := [] }).answerReq { q with failed := q.failedAfter it ok }) := by
  have hhit : Await.hit it ⟨q.owner, it, true⟩ = true := by simp [Await.hit]
  have hhits : (s.store.awaits.filter (Await.hit it)).map Await.owner = [q.owner] := by
    rw [ha, List.filter_cons_of_pos hhit,
      List.filter_eq_nil_iff.mpr fun a h => Bool.not_eq_true _ ▸ Await.hit_eq_false_iff.mpr (hmore a h)]
    rfl
  have hrest : (s.store.awaits.filter fun a => !a.hit it) = more := by
    rw [ha, List.filter_cons_of_neg (by rw [hhit]; decide)]
    exact List.filter_eq_self.mpr fun a h => by rw [Await.hit_eq_false_iff.mpr (hmore a h)]; rfl
  have hreq : (if (!ok && [q.owner].contains q.owner) = true then { q with failed := q.failed ++ [it] } else q) =
      { q with failed := q.failedAfter it ok } := by
    cases ok <;> simp [StoreReq.failedAfter]
  have hask : (more.any fun a => decide (a.owner = q.owner)) = true ↔ ∃ a ∈ more, a.owner = q.owner := by
    simp only [List.any_eq_true, decide_eq_true_eq]
  unfold State.settleAwaits
  simp only [hhits, hrest, hr, List.map_cons, List.map_nil, hreq]
  refine ⟨fun h => ?_, fun h => ?_⟩
  · have hany := hask.mpr h
    simp [hany, forEach_nil]
  · have hany : (more.any fun a => decide (a.owner = q.owner)) = false :=
      Bool.eq_false_iff.mpr fun e => by obtain ⟨a, hmem, he⟩ := hask.mp e; exact h a hmem he
    simp [hany, forEach_nil, forEach_cons]

/-- An answer to a store request leaves nothing waiting for a place. -/
theorem State.noBacklog.answerReq (h : s.noBacklog) (r : StoreReq) : (s.answerReq r).noBacklog := by
  obtain ⟨o, tag, bad⟩ := r
  cases o with
  | reachSet i =>
    unfold State.answerReq
    simp only
    split <;> exact h
  | laneRenew | save | fullReset => exact h

/-! ### The answers (R25, R164, R179, R184) -/

/-- The result code of a store request (R199). -/
def savedCode (bad : List ItemId) : ReplyCode := if bad = [] then .ok else .storeFailed

theorem savedCode_eq (bad : List ItemId) : (if bad.isEmpty then ReplyCode.ok else .storeFailed) = savedCode bad := by
  simp only [savedCode, List.isEmpty_iff]

theorem State.answerReq_save (tag : Byte) (bad : List ItemId) :
    s.answerReq ⟨.save, tag, bad⟩ = s.reply 0x14 tag 0xFF (savedCode bad) (failedBytes bad) := by
  rw [← savedCode_eq]; rfl

theorem State.answerReq_laneRenew (l : LaneId) (tag : Byte) (bad : List ItemId) :
    s.answerReq ⟨.laneRenew l, tag, bad⟩ = s.reply 0x13 tag 0xFF (savedCode bad) [byte l.val] := by
  rw [← savedCode_eq]; rfl

theorem State.answerReq_reachSet_failed (i : SiteId) (tag : Byte) (h : bad ≠ []) :
    s.answerReq ⟨.reachSet i, tag, bad⟩ = s.reply 0x08 tag (siteByte i) .storeFailed [] := by
  have hsome : ¬bad.isEmpty = true := fun he => h (List.isEmpty_iff.mp he)
  exact if_neg hsome

theorem stateBytes_eq (v : Vector SiteState 4) : stateBytes v = allSites.map fun i => byte v[i].code := by
  obtain ⟨⟨l⟩, hl⟩ := v
  match l, hl with
  | [_, _, _, _], _ => rfl

theorem State.answerReq_fullReset {z : ResetReq} (tag : Byte) (bad : List ItemId) (hz : s.resetReq = some z) :
    s.answerReq ⟨.fullReset, tag, bad⟩ = { s.replyWith ⟨0x15, tag, 0xFF, savedCode bad,
      1 :: (allSites.map fun i => byte s.sites[i].state.code) ++ failedBytes bad, true⟩ with
      resetReq := some { z with phase := .reply } } := by
  have hstates : stateBytes (s.sites.map Site.state) = allSites.map fun i => byte s.sites[i].state.code := by
    rw [stateBytes_eq]
    simp
  rw [← hstates, ← savedCode_eq]
  unfold State.answerReq
  simp only [State.replyWith_resetReq, hz]
  rfl

/-- A site's working reach and its retained flag (R199). -/
theorem State.workingBytes_eq (i : SiteId) : s.workingBytes i 0 = match s.sites[i].reach.range with
    | some (a, b) => [a, b, byte (2 * s.sites[i].reach.hv.toNat + 4 * s.sites[i].retainedFlag.toNat)]
    | none => [Config.freeByte s.freeReads, Config.freeByte (s.freeReads + 1),
        byte (1 + 2 * s.sites[i].reach.hv.toNat + 4 * s.sites[i].retainedFlag.toNat)] := by
  unfold State.workingBytes State.reachBytes
  rcases s.sites[i].reach.range with _ | ⟨a, b⟩
  · simp only [flags_three]
    rfl
  · simp only [flags_three, Bool.toNat_false, Nat.zero_add]

/-! ### The request (R179) -/

theorem State.takeSaveRequest_busy (h : s.hasReq .save = true ∨ s.fullReset = true) :
    s.takeSaveRequest ⟨tag, partByte⟩ = s.reply 0x14 tag partByte .busy [] := by
  have hbusy : (s.hasReq .save || s.fullReset) = true := Bool.or_eq_true_iff.mpr h
  unfold State.takeSaveRequest
  simp only [ne_eq, not_true_eq_false, if_false, hbusy, if_true]
  rfl

theorem State.takeSaveRequest_taken (h : s.hasReq .save = false) (hf : s.fullReset = false) :
    s.takeSaveRequest ⟨tag, partByte⟩ = s.takeSave .save tag := by
  unfold State.takeSaveRequest
  simp only [ne_eq, not_true_eq_false, if_false, h, hf, Bool.or_self, Bool.false_eq_true]

@[simp] theorem State.arrive_hasReq (o : Owner) : s.arrive.hasReq o = s.hasReq o := by
  unfold State.hasReq; rw [State.arrive_store]

@[simp] theorem State.arrive_saveList : s.arrive.saveList = s.saveList := by
  unfold State.saveList; rw [State.arrive_store]

@[simp] theorem State.arrive_itemContent (it : ItemId) : s.arrive.itemContent it = s.itemContent it :=
  s.arrive_frame (fun t => t.itemContent it) (fun _ _ => rfl) fun _ _ => rfl

theorem State.noBacklog.arrive (h : s.noBacklog) : s.arrive.noBacklog := by
  obtain ⟨ha, hs, hd, hw⟩ := h
  exact ⟨s.arrive_agenda.trans ha, by rw [State.arrive_link], by rw [State.arrive_link]; exact hd,
    (congrArg Results.waiting s.arrive_results).trans hw⟩

/-- SAVE of a part that is not saving (R179). -/
theorem exec_save (hr : s.ready) (h : s.hasReq .save = false) (hf : s.fullReset = false) (hlist : s.saveList ≠ [])
    (hb : s.noBacklog) : exec (.save tag 0xFF) s = .next ((s.arrive.takeSave .save tag).marked 0x14 0xFF) := by
  refine request_marked (r := .save) hr trivial ?_ ?_
  · exact State.takeSaveRequest_taken (by rw [State.arrive_hasReq, h]) (by rw [State.arrive_fullReset, hf])
  · exact (State.takeSave_frame State.noBacklog (by rw [State.arrive_saveList]; exact hlist) (fun _ _ _ => rfl)
      (fun _ _ => rfl) _ _).mpr hb.arrive

/-- Settles O31: SAVE by its list and the store's state; at a write's done by what its one request still waits for. -/
theorem saveOutcomes : Obligations.SaveOutcomes := by
  refine ⟨fun tag s hr => ⟨fun h hf hd => ?_, fun h hf hlist hb hflight => ?_,
    fun it rest h hf hlist hb hflight hp ha => ?_, fun h => ?_⟩,
    fun s w ok q more hb hw hreqs hawaits hmore => ?_, fun s w hb hw h => exec_storeWriteDone_unawaited true hb hw h⟩
  · refine request_refused (r := .save) hr trivial ?_
    refine (State.takeSaveRequest_taken (by rw [State.arrive_hasReq, h]) (by rw [State.arrive_fullReset, hf])).trans ?_
    rw [State.takeSave_nothing _ _ (by rw [State.arrive_saveList, State.saveList_eq_nil hd])]
    rfl
  · rw [exec_save hr h hf hlist hb, State.takeSave_busy _ _ (by rw [State.arrive_saveList]; exact hlist)
      (by rw [State.arrive_store]; exact hflight), State.arrive_saveList]
    rfl
  · have hsave : s.arrive.saveList = it :: rest := by rw [State.arrive_saveList]; exact hlist
    have hne : s.arrive.saveList ≠ [] := by rw [hsave]; exact List.cons_ne_nil _ _
    refine ⟨s.arrive.takeSave .save tag, exec_save hr h hf (by rw [← State.arrive_saveList]; exact hne) hb, ?_,
      State.takeSave_frame State.link hne (fun _ _ _ => rfl) (fun _ _ => rfl) _ _, ?_⟩
    · rw [State.takeSave_idle _ _ hsave (by rw [State.arrive_store, hflight]) (by rw [State.arrive_store, hp])
        (by rw [State.arrive_store, ha]) (by rw [State.arrive_inPhase, State.inPhase_startup_of_linkUp hr.2.1]),
        State.arrive_store, State.arrive_itemContent]
    · have hkept {β : Type} (g : State → β) (hstore : ∀ (f : Store → Store) (t : State), g (t.modStore f) = g t)
          (hhealth : ∀ (l : LaneId) (f : LaneHealth → LaneHealth) (t : State), g (t.modWear l f) = g t) :
          g (s.arrive.takeSave .save tag) = g s.arrive :=
        State.takeSave_frame g hne (fun f t _ => hstore f t) (fun l t => hhealth l _ t) _ _
      exact ⟨(hkept State.sites (fun _ _ => rfl) fun _ _ _ => rfl).trans s.arrive_sites,
        (hkept State.ports (fun _ _ => rfl) fun _ _ _ => rfl).trans s.arrive_ports,
        (hkept State.lanes (fun _ _ => rfl) fun _ _ _ => rfl).trans s.arrive_lanes,
        (hkept State.results (fun _ _ => rfl) fun _ _ _ => rfl).trans s.arrive_results,
        (hkept State.meter (fun _ _ => rfl) fun _ _ _ => rfl).trans s.arrive_meter⟩
  · exact request_refused (r := .save) hr trivial
      (State.takeSaveRequest_busy (by rw [State.arrive_hasReq, State.arrive_fullReset]; exact h))
  · intro it bad base gone code failed
    obtain ⟨o, tag, before⟩ := q
    have hbase : base.noBacklog := hb.2.writeEnded w ok
    obtain ⟨hwaits, hanswered⟩ := State.settleAwaits_one (s := base) ok ((s.writeEnded_reqs w ok).trans hreqs)
      ((s.writeEnded_awaits w ok).trans hawaits) hmore
    have hanswer {u : State} (hlast : ∀ a ∈ more, a.owner ≠ o) (hu : gone.answerReq ⟨o, tag, bad⟩ = u) :
        exec (.storeWriteDone ok) s = .next u.beginWrite.transmit :=
      exec_storeWriteDone hb hw ((hanswered hlast).trans hu) (hu ▸ State.noBacklog.answerReq (s := gone) hbase _)
    refine ⟨fun h => exec_storeWriteDone hb hw (hwaits h) hbase, fun hlast =>
      ⟨fun ho => hanswer hlast ?_, fun l ho => hanswer hlast ?_, fun i ho hbad => hanswer hlast ?_,
        fun i ho hgood => hanswer hlast ?_, fun z ho hz => hanswer hlast ?_⟩⟩
    all_goals obtain rfl : o = _ := ho
    · exact State.answerReq_save tag bad
    · exact State.answerReq_laneRenew l tag bad
    · exact State.answerReq_reachSet_failed i tag hbad
    · have hempty : bad.isEmpty = true := List.isEmpty_iff.mpr hgood
      have hsites : gone.sites = s.sites :=
        State.writeEnded_frame State.sites (fun _ _ _ => rfl) (fun n t => t.notice_sites n) w ok s
      have hreads : gone.freeReads = s.freeReads :=
        State.writeEnded_frame State.freeReads (fun _ _ _ => rfl) (fun n t => t.notice_freeReads n) w ok s
      have hreply : gone.answerReq ⟨.reachSet i, tag, bad⟩ =
          (gone.reply 0x08 tag (siteByte i) .ok (gone.workingBytes i 0)).drew 2 := if_pos hempty
      rw [hreply, State.workingBytes_eq, hsites, hreads] <;> rfl
    · have hreset : gone.resetReq = some z :=
        (State.writeEnded_frame State.resetReq (fun _ _ _ => rfl) (fun n t => t.notice_resetReq n) w ok s).trans hz
      have hsites : gone.sites = s.sites :=
        State.writeEnded_frame State.sites (fun _ _ _ => rfl) (fun n t => t.notice_sites n) w ok s
      rw [State.answerReq_fullReset tag bad hreset, hsites]
      rfl

end Sys2Proof.Machine
end


section
set_option Elab.async false
/-! # Start-ups, and a write that is cut off (O9) -/

namespace Sys2Proof.Machine

variable {s : State} {w : Write} {it : ItemId} {l : LaneId} {p : PortId} {r : Range} {i : SiteId}

/-! ### What a write that is cut off leaves (R178) -/

/-- All stored items but one stand as they were. -/
structure Stored.SameBut (it : ItemId) (n m : Stored) : Prop where
  lanes : ∀ l : LaneId, laneItem l ≠ it → m.lanes[l] = n.lanes[l]
  config : configItem ≠ it → m.config = n.config
  cal : calItem ≠ it → m.cal = n.cal
  reach : reachItem ≠ it → m.reach = n.reach
  health : healthItem ≠ it → m.health = n.health

theorem Stored.SameBut.refl (it : ItemId) (n : Stored) : n.SameBut it n :=
  ⟨fun _ _ => rfl, fun _ => rfl, fun _ => rfl, fun _ => rfl, fun _ => rfl⟩

theorem upd_lane_of_item_ne {α : Type} (v : Vector α 16) {k : LaneId} (f : α → α) (h : laneItem k ≠ laneItem l) :
    (upd v l f)[k] = v[k] := by
  rw [upd_get, if_neg]
  rintro rfl
  exact h rfl

/-- A write puts its own item alone. -/
theorem Stored.put_sameBut (c : ItemContent) (n : Stored) : n.SameBut c.item (n.put c) := by
  cases c with
  | lane l c m =>
    have hlanes : (n.put (.lane l c m)).lanes = upd n.lanes l fun _ => Item.write laneRecordBytes (c, m) := rfl
    exact { Stored.SameBut.refl _ n with lanes := fun k hk => by rw [hlanes]; exact upd_lane_of_item_ne _ _ hk }
  | config => exact { Stored.SameBut.refl _ n with config := fun h => absurd rfl h }
  | cal => exact { Stored.SameBut.refl _ n with cal := fun h => absurd rfl h }
  | reach => exact { Stored.SameBut.refl _ n with reach := fun h => absurd rfl h }
  | health => exact { Stored.SameBut.refl _ n with health := fun h => absurd rfl h }

/-- A write that is cut off spoils its own item alone. -/
theorem Stored.spoil_sameBut (c : ItemContent) (n : Stored) : n.SameBut c.item (n.spoil c) := by
  cases c with
  | lane l c m =>
    have hlanes : (n.spoil (.lane l c m)).lanes = upd n.lanes l (Item.spoil laneRecordBytes) := rfl
    exact { Stored.SameBut.refl _ n with lanes := fun k hk => by rw [hlanes]; exact upd_lane_of_item_ne _ _ hk }
  | config => exact { Stored.SameBut.refl _ n with config := fun h => absurd rfl h }
  | cal => exact { Stored.SameBut.refl _ n with cal := fun h => absurd rfl h }
  | reach => exact { Stored.SameBut.refl _ n with reach := fun h => absurd rfl h }
  | health => exact { Stored.SameBut.refl _ n with health := fun h => absurd rfl h }

/-- A spoilt item fails its check (R178). -/
theorem Stored.spoil_fails (c : ItemContent) (n : Stored) : (n.spoil c).fails c.item = true := by
  cases c with
  | lane l c m =>
    have hl : (laneItem l).val < 16 := l.isLt
    have hread : (n.spoil (.lane l c m)).readLane l = none := by
      unfold Stored.readLane Stored.spoil
      rw [upd_get, if_pos rfl]
      exact Item.read_spoil _ _
    unfold Stored.fails ItemContent.item
    rw [dif_pos hl]
    exact congrArg Option.isNone hread
  | config => exact congrArg Option.isNone (Item.read_spoil configRecordBytes n.config)
  | cal => exact congrArg Option.isNone (Item.read_spoil calRecordBytes n.cal)
  | reach => exact congrArg Option.isNone (Item.read_spoil reachRecordBytes n.reach)
  | health => exact congrArg Option.isNone (Item.read_spoil healthRecordBytes n.health)

theorem Stored.put_readLane (l : LaneId) (c : Counts) (m : List Relay) (n : Stored) :
    (n.put (.lane l c m)).readLane l = some (c, m) := by
  unfold Stored.readLane Stored.put
  rw [upd_get, if_pos rfl]
  exact Item.read_write _ _

theorem Stored.put_readConfig (c : ConfigItems) (d : Vector PortDesc 12) (n : Stored) :
    (n.put (.config c d)).readConfig = some (c, d) := by
  unfold Stored.readConfig Stored.put
  exact Item.read_write _ _

theorem Stored.put_readCal (v : Vector Cal 6) (n : Stored) : (n.put (.cal v)).readCal = some v := by
  unfold Stored.readCal Stored.put
  exact Item.read_write _ _

theorem Stored.put_readReach (v : Vector Reach 4) (n : Stored) : (n.put (.reach v)).readReach = some v := by
  unfold Stored.readReach Stored.put
  exact Item.read_write _ _

theorem Stored.put_readHealth (r : HealthRecord) (n : Stored) : (n.put (.health r)).readHealth = some r := by
  unfold Stored.readHealth Stored.put
  exact Item.read_write _ _

theorem State.cutWrite_stored {cut : CutOff} {o : Option Write} (hw : s.store.inFlight = o) :
    (s.cutWrite cut).store.stored = s.store.stored.cutOff o cut := by
  subst hw; rfl

/-- The three outcomes of a write that is cut off (R178). -/
theorem State.cutWrite_outcomes (hw : s.store.inFlight = some w) :
    (s.cutWrite .earlier).store.stored = s.store.stored ∧
    (s.cutWrite .new).store.stored = s.store.stored.put w.content ∧
    (s.cutWrite .mixture).store.stored = s.store.stored.spoil w.content :=
  ⟨State.cutWrite_stored hw, State.cutWrite_stored hw, State.cutWrite_stored hw⟩

theorem State.cutWrite_sameBut (hw : s.store.inFlight = some w) (cut : CutOff) :
    s.store.stored.SameBut w.content.item (s.cutWrite cut).store.stored := by
  obtain ⟨hearlier, hnew, hmixture⟩ := State.cutWrite_outcomes hw
  cases cut with
  | earlier => rw [hearlier]; exact .refl _ _
  | new => rw [hnew]; exact Stored.put_sameBut _ _
  | mixture => rw [hmixture]; exact Stored.spoil_sameBut _ _

/-! ### What a start-up takes from each item (R182) -/

theorem State.startUp_config (s : State) : s.startUp.store.config = s.store.stored.loadConfig.1 := by
  rw [State.startUp_store]; rfl

theorem State.startUp_desc (s : State) (p : PortId) : s.startUp.ports[p].desc = s.store.stored.loadConfig.2[p] := by
  simp [Port.fresh]

theorem State.startUp_retained (s : State) (i : SiteId) : s.startUp.sites[i].retained = s.store.stored.loadReach[i] := by
  simp [Site.started]

/-- The wear that the lane records give, with the lives of RATED_LIFE (R154, R165). -/
theorem State.startUp_wear (s : State) (l : LaneId) : s.startUp.health.lanes[l] =
    loadWear (s.store.stored.loadConfig.1[(4 : Fin 16)]).toNat (s.store.stored.readLane l) := by
  rw [State.startUp_health, State.recompute_health]
  simp [State.loaded]

theorem PortDesc.defaults_get (hp : p ≠ 0) : PortDesc.defaults[p] = PortDesc.default := by
  revert p; decide

theorem Stored.loadConfig_good {n : Stored} {c : ConfigItems} {d : Vector PortDesc 12} (h : n.readConfig = some (c, d)) :
    n.loadConfig = (c, d.set 0 PortDesc.meter) := by
  unfold Stored.loadConfig; rw [h]

theorem Stored.loadConfig_failed {n : Stored} (h : n.readConfig = none) : n.loadConfig = (.default, PortDesc.defaults) := by
  unfold Stored.loadConfig; rw [h]

theorem Stored.loadCal_good {n : Stored} {v : Vector Cal 6} (h : n.readCal = some v) :
    n.loadCal[r] = { v[r] with uncal := false } := by
  unfold Stored.loadCal; rw [h]; simp

theorem Stored.loadCal_failed {n : Stored} (h : n.readCal = none) : n.loadCal[r] = { z := 0, g := 32768, uncal := true } := by
  unfold Stored.loadCal; rw [h]; simp [Cal.default]

/-- The record of HEALTH after a start-up: the stored one, once its recomputation has taken part (R156, R158). -/
theorem State.startUp_record (s : State) {h : HealthRecord} (hh : s.store.stored.loadHealth = h) :
    s.startUp.health.record = { h with
    lifeWorst := min h.lifeWorst s.startUp.health.life
    latch := s.startUp.health.record.latch } := by
  rw [← hh, State.startUp_health, State.recompute_health]
  rfl

theorem State.startUp_latch_iff (s : State) {h : HealthRecord} (hh : s.store.stored.loadHealth = h) :
    s.startUp.health.record.latch = true ↔ h.latch = true ∨
    ∃ l : LaneId, s.startUp.lanes[l].state ≠ .retired ∧ (s.startUp.health.lanes[l]).life ≤ s.startUp.levelThreshold := by
  have hthreshold : s.startUp.levelThreshold = s.loaded.levelThreshold := by
    unfold State.levelThreshold State.cfg
    rw [State.startUp_store]; rfl
  have hwear : s.startUp.health.lanes = s.loaded.health.lanes := by rw [State.startUp_health, State.recompute_health]
  rw [← hh, hthreshold, hwear, State.startUp_lanes, State.startUp_health]
  exact State.recompute_latch_iff s.loaded

theorem Store.started_flags (n : Stored) (it : ItemId) :
    (Store.started n).loadFailed[it] = n.fails it ∧ (Store.started n).differs[it] = n.fails it := by
  simp [Store.started]

/-! ### The commands -/

theorem State.startUp_noBacklog (s : State) : s.startUp.noBacklog :=
  ⟨s.startUp_agenda, State.startUp_link_frame Link.slots (fun _ _ => rfl) s,
    State.startUp_link_frame Link.doneWaiting (fun _ _ => rfl) s, congrArg Results.waiting s.startUp_results⟩

theorem State.startUp_finish (s : State) : s.startUp.finish = .next s.startUp.transmit :=
  State.finish_noBacklog _ s.startUp_noBacklog

theorem exec_resetPin (cut : CutOff) (hp : s.powered = true) :
    exec (.resetPin cut) s = .next (s.cutWrite cut).startUp.transmit :=
  (if_pos hp : exec (.resetPin cut) s = (s.cutWrite cut).startUp.finish).trans (State.startUp_finish _)

theorem exec_startup (hp : s.powered = true) (hphase : s.inPhase .startup = true) (hw : s.store.inFlight = none) :
    exec .startup s = .next s.startUp.transmit := by
  have hstarts : (if s.inPhase .startup && s.store.inFlight.isNone then s.startUp else s) = s.startUp :=
    if_pos (by rw [hphase, hw]; rfl)
  have hexec : exec .startup s = (if s.inPhase .startup && s.store.inFlight.isNone then s.startUp else s).finish := if_pos hp
  rw [hexec, hstarts]
  exact State.startUp_finish s

theorem exec_powerLoss (cut : CutOff) (hp : s.powered = true) :
    exec (.powerLoss cut) s = .next (s.cutWrite cut).unpowered := if_pos hp

/-- Items that stand as they were read as before. -/
theorem Stored.SameBut.reads {n m : Stored} (h : n.SameBut it m) :
    (∀ l : LaneId, laneItem l ≠ it → m.readLane l = n.readLane l) ∧ (configItem ≠ it → m.readConfig = n.readConfig) ∧
    (calItem ≠ it → m.readCal = n.readCal) ∧ (reachItem ≠ it → m.readReach = n.readReach) ∧
    (healthItem ≠ it → m.readHealth = n.readHealth) := by
  obtain ⟨hlanes, hconfig, hcal, hreach, hhealth⟩ := h
  unfold Stored.readLane Stored.readConfig Stored.readCal Stored.readReach Stored.readHealth
  exact ⟨fun l hl => by rw [hlanes l hl], fun h => by rw [hconfig h], fun h => by rw [hcal h], fun h => by rw [hreach h],
    fun h => by rw [hhealth h]⟩

/-- Settles O9: the commands come to the start-up, whose blocks are the items as they load; a cut-off write leaves all
items but its own. -/
theorem powerAndResetCommands : Obligations.PowerAndResetCommands := by
  refine ⟨⟨State.startUp_finish, fun s cut hp => exec_resetPin cut hp, fun s hp hphase hw => exec_startup hp hphase hw,
    fun s cut hp => ⟨_, exec_powerLoss cut hp, rfl, rfl, rfl, rfl⟩⟩, fun s cut hn => State.cutWrite_stored hn,
    fun s w hw => ?_, fun s => ?_⟩
  · obtain ⟨hearlier, hnew, hmixture⟩ := State.cutWrite_outcomes hw
    refine ⟨hearlier, by rw [hmixture]; exact Stored.spoil_fails _ _, ?_, fun cut => (State.cutWrite_sameBut hw cut).reads⟩
    rw [hnew]
    cases w.content with
    | lane l c m => exact Stored.put_readLane l c m _
    | config c d => exact Stored.put_readConfig c d _
    | cal v => exact Stored.put_readCal v _
    | reach v => exact Stored.put_readReach v _
    | health r => exact Stored.put_readHealth r _
  · have hrecord := s.startUp_record rfl
    have hlatch := s.startUp_latch_iff rfl
    have hconfig := s.startUp_config
    have hdesc := s.startUp_desc
    have hcal : s.startUp.meter.cal = s.store.stored.loadCal := congrArg Meter.cal s.startUp_meter
    have hretained := s.startUp_retained
    have hwear := s.startUp_wear
    have hstore := s.startUp_store
    -- From here on the stored items stand for themselves: their checks are not to be evaluated.
    obtain ⟨u, hu⟩ : ∃ u, s.startUp = u := ⟨_, rfl⟩
    obtain ⟨n, hn⟩ : ∃ n, s.store.stored = n := ⟨_, rfl⟩
    rw [hn] at hrecord hlatch hconfig hdesc hcal hretained hwear hstore ⊢
    rw [hu] at hrecord hlatch hconfig hdesc hcal hretained hwear hstore ⊢
    intro _ _ record
    have hload : n.loadHealth = record := rfl
    clear_value record
    rw [hload] at hrecord hlatch
    refine ⟨fun c d h => ⟨?_, fun p hp => ?_⟩, fun h => ⟨?_, fun p hp => ?_⟩, ?_, fun v r h => ?_, fun r h => ?_,
      fun v i h => ?_, fun i h => ?_, fun l c m h => ?_, fun l h => ?_, ?_, ?_, ?_, ?_, hlatch, fun it => ?_, ?_, ?_⟩
    · rw [hconfig, Stored.loadConfig_good h]
    · rw [hdesc, Stored.loadConfig_good h]
      exact Vector.getElem_set_ne (by decide) p.isLt fun e => hp (Fin.ext e.symm)
    · rw [hconfig, Stored.loadConfig_failed h]
    · rw [hdesc, Stored.loadConfig_failed h]
      exact PortDesc.defaults_get hp
    · rw [hdesc]; exact n.loadConfig_meterPort
    · rw [hcal, Stored.loadCal_good h]
    · rw [hcal, Stored.loadCal_failed h]
    · rw [hretained, Stored.loadReach, h]; rfl
    · rw [hretained, Stored.loadReach, h]
      simp [Reach.none]
    · rw [hwear, h]
      exact ⟨rfl, rfl, rfl⟩
    · rw [hwear, h]
      exact ⟨rfl, rfl, rfl⟩
    · rw [hrecord]
    · rw [hrecord]
    · rw [hrecord]
    · rw [hrecord]
    · rw [hstore]
      exact Store.started_flags n it
    · rw [hstore]; rfl
    · rw [hstore]; rfl

end Sys2Proof.Machine
end


section
set_option Elab.async false
/-! # The pairs of a CONFIG_SET (O23) -/

namespace Sys2Proof.Machine

variable {s t u : State}

/-! ### The pairs and their values (R180) -/

/-- The value that a list of pairs gives an item: that of the last pair with its index. -/
def givenValue (pairs : List (Fin 16 × BitVec 32)) (k : Fin 16) : Option (BitVec 32) :=
  (pairs.reverse.find? fun e => decide (e.1 = k)).map Prod.snd

/-- The pairs with their values clamped. -/
def clampPairs (pairs : List (Fin 16 × BitVec 32)) : List (Fin 16 × BitVec 32) :=
  pairs.map fun e => (e.1, clampConfig e.1 e.2)

theorem configPairs_bytes (pairs : List (Fin 16 × BitVec 32)) :
    configPairs (pairs.map fun e => (byte e.1.val, e.2)) = some (clampPairs pairs) := by
  induction pairs with
  | nil => rfl
  | cons e pairs ih =>
    simp only [List.map_cons, configPairs, itemIndex, fin?_byte (by decide : 16 ≤ 256), ih]
    rfl

/-- An index above 15 names no item. -/
theorem configPairs_none {pairs : List (Byte × BitVec 32)} (h : ∃ e ∈ pairs, 15 < e.1.toNat) : configPairs pairs = none := by
  induction pairs with
  | nil => obtain ⟨e, he, -⟩ := h; cases he
  | cons p pairs ih =>
    obtain ⟨e, he, hindex⟩ := h
    unfold configPairs
    split
    · next i ps hi hps =>
      rcases List.mem_cons.mp he with rfl | he
      · rw [itemIndex, fin?_eq_none_iff.mpr (by omega)] at hi; cases hi
      · rw [ih ⟨e, he, hindex⟩] at hps; cases hps
    · rfl

theorem givenValue_append (pairs : List (Fin 16 × BitVec 32)) (e : Fin 16 × BitVec 32) (k : Fin 16) :
    givenValue (pairs ++ [e]) k = if e.1 = k then some e.2 else givenValue pairs k := by
  unfold givenValue
  rw [List.reverse_append, List.reverse_singleton, List.singleton_append, List.find?_cons]
  by_cases h : e.1 = k <;> simp [h]

/-- The value of an item once the pairs are stored. -/
def newValue (pairs : List (Fin 16 × BitVec 32)) (cfg : ConfigItems) (k : Fin 16) : BitVec 32 :=
  match givenValue pairs k with
  | some v => clampConfig k v
  | none => cfg[k]

/-- Of two pairs with one index the later stands (R180). -/
theorem storePairs_get (pairs : List (Fin 16 × BitVec 32)) (cfg : ConfigItems) (k : Fin 16) :
    (storePairs (clampPairs pairs) cfg)[k] = newValue pairs cfg k := by
  induction pairs using List.reverseRecOn with
  | nil => rfl
  | append_singleton pairs e ih =>
    have hstore : storePairs (clampPairs (pairs ++ [e])) cfg =
        upd (storePairs (clampPairs pairs) cfg) e.1 fun _ => clampConfig e.1 e.2 := by
      unfold storePairs clampPairs
      rw [List.map_append, List.foldl_append]
      rfl
    unfold newValue at ih ⊢
    rw [hstore, upd_get, givenValue_append, ih]
    by_cases h : e.1 = k
    · rw [if_pos h, if_pos h, h]
    · rw [if_neg h, if_neg h]

/-- The request sets the items its pairs name. -/
theorem setsItem_clampPairs (pairs : List (Fin 16 × BitVec 32)) (k : Fin 16) :
    setsItem k (clampPairs pairs) = (givenValue pairs k).isSome := by
  rw [Bool.eq_iff_iff]
  simp [setsItem, clampPairs, givenValue]

/-! ### The notices of masked kinds (R193) -/

/-- The links with the notices of some kinds removed. -/
def Link.without (ks : List (Fin 9)) (x : Link) : Link :=
  { x with notices := Vector.ofFn fun m => if m ∈ ks then none else x.notices[m] }

theorem forEach_dropNotice (ks : List (Fin 9)) (s : State) :
    forEach ks (fun k s => s.modLink fun x => { x with notices := upd x.notices k fun _ => none }) s =
      s.modLink (Link.without ks) := by
  induction ks generalizing s with
  | nil =>
    refine State.modLink_congr s (fun x => x) _ ?_
    unfold Link.without
    simp
  | cons k ks ih =>
    rw [forEach_cons, ih, State.modLink_modLink]
    refine State.modLink_congr s _ _ ?_
    unfold Link.without
    simp only
    congr 2
    funext m
    rw [upd_get]
    by_cases hks : m ∈ ks
    · simp [hks]
    · by_cases hk : k = m <;> simp [hks, hk, Ne.symm]

theorem State.dropMasked_eq (s : State) : s.dropMasked = s.modLink fun k =>
    { k with notices := Vector.ofFn fun m => if s.noticeMask.getLsbD m.val then k.notices[m] else none } := by
  have hkinds (m : Fin 9) : m ∈ allKinds := by revert m; decide
  unfold State.dropMasked
  rw [forEach_dropNotice]
  refine State.modLink_congr s _ _ ?_
  unfold Link.without
  congr 2
  funext m
  cases h : s.noticeMask.getLsbD m.val <;> simp [hkinds, h]

/-- The notices that HEALTH's work leaves as they are: those of other kinds than LANE_RETIRED and HEALTH, and those of
masked kinds. -/
def State.noticesKept (s t : State) : Prop := t.store.config = s.store.config ∧
  ∀ m : Fin 9, (m ≠ 2 ∧ m ≠ 3 ∨ s.noticeMask.getLsbD m.val = false) → t.link.notices[m] = s.link.notices[m]

theorem State.noticesKept_of_link (hconfig : t.store.config = s.store.config) (hlink : t.link = s.link) : s.noticesKept t :=
  ⟨hconfig, fun m _ => by rw [hlink]⟩

theorem State.noticesKept.trans (h : s.noticesKept t) (h' : t.noticesKept u) : s.noticesKept u := by
  have hmask : t.noticeMask = s.noticeMask := by simp only [State.noticeMask, h.1]
  exact ⟨h'.1.trans h.1, fun m hm => (h'.2 m (by rw [hmask]; exact hm)).trans (h.2 m hm)⟩

theorem forEach_noticesKept {α : Type} (f : α → State → State) (h : ∀ (a : α) (t : State), t.noticesKept (f a t))
    (l : List α) (s : State) :
    s.noticesKept (forEach l f s) := by
  induction l generalizing s with
  | nil => exact State.noticesKept_of_link rfl rfl
  | cons a l ih => exact (h a s).trans (ih (f a s))

theorem State.notice_noticesKept (n : Notice) (h : n.kind = 2 ∨ n.kind = 3) (s : State) : s.noticesKept (s.notice n) := by
  refine ⟨by rw [State.notice_store], fun m hm => ?_⟩
  by_cases hkind : n.kind = m
  · have hmasked : s.noticeMask.getLsbD n.kind.val = false := by
      rcases hm with ⟨h2, h3⟩ | hm
      · rcases h with h | h
        · exact absurd (hkind.symm.trans h) h2
        · exact absurd (hkind.symm.trans h) h3
      · rw [hkind]; exact hm
    unfold State.notice
    rw [hmasked, if_neg (by decide)]
  · exact State.notice_other n hkind

theorem State.recompute_noticesKept (s : State) : s.noticesKept s.recompute := by
  have hlink : ∀ m : Fin 9, (m ≠ 2 ∧ m ≠ 3 ∨ s.noticeMask.getLsbD m.val = false) →
      s.recompute.link.notices[m] = s.link.notices[m] := by
    intro m hm
    rw [State.recompute_link]
    split
    · rfl
    · exact (State.notice_noticesKept (.health _ _ _) (.inr rfl) s).2 m hm
  exact ⟨by rw [State.recompute_store], hlink⟩

theorem State.retire_noticesKept (l : LaneId) (s : State) : s.noticesKept (s.retire l) := by
  have hlane : s.noticesKept (s.modLane l fun x => { x with state := .retired }) := State.noticesKept_of_link rfl rfl
  exact (hlane.trans (State.notice_noticesKept (.laneRetired l _ _ _) (.inl rfl) _)).trans (State.recompute_noticesKept _)

theorem State.checkEndOfLife_noticesKept (l : LaneId) (s : State) : s.noticesKept (s.checkEndOfLife l) := by
  unfold State.checkEndOfLife State.condemn
  split
  · split
    · exact State.retire_noticesKept l s
    · exact State.noticesKept_of_link rfl rfl
    · exact State.noticesKept_of_link rfl rfl
    · exact State.noticesKept_of_link rfl rfl
  · exact State.noticesKept_of_link rfl rfl

theorem State.healthDue_noticesKept (old : HealthRecord) (s : State) : s.noticesKept (s.healthDue old) :=
  State.noticesKept_of_link (s.healthDue_kept old).config
    (State.healthDue_frame State.link (fun _ _ _ => rfl) (fun _ _ => rfl) _ _)

theorem State.configDue_noticesKept (c : Bool) (s : State) : s.noticesKept (s.configDue c) :=
  State.noticesKept_of_link (s.configDue_kept c).config
    (State.configDue_frame State.link (fun _ _ _ => rfl) (fun _ _ => rfl) _ _)

end Sys2Proof.Machine
end


section
set_option Elab.async false
/-! # CONFIG_SET of any pairs (O23)

The effects on the silence timer and the pending notices come first; the lives, the end-of-life checks, the attributes and
HEALTH's record follow on what is then stored. -/

namespace Sys2Proof.Machine

variable {s t : State} {l : LaneId}

/-! ### The silence timer and the notices (R171, R193) -/

/-- The effects of SILENCE and NOTICE_MASK, where they are set. -/
def State.linkEffects (silence mask : Bool) (s : State) : State :=
  let u := if silence then s.startSilence else s
  if mask then u.dropMasked else u

/-- The silence timer where SILENCE is set (R171). -/
def State.newSilence (s : State) : Silence :=
  if Duration.count s.silenceTime = 0 then .off else .running (Timer.begin s.silenceTime s.time.now)

theorem State.linkEffects_eq (silence mask : Bool) (s : State) : s.linkEffects silence mask = (s.modTime fun b =>
    if silence then { b with silence := s.newSilence } else b).modLink fun k =>
      if mask then { k with notices := Vector.ofFn fun m => if s.noticeMask.getLsbD m.val then k.notices[m] else none }
      else k := by
  unfold State.linkEffects
  simp only [State.dropMasked_eq]
  cases silence <;> cases mask <;> rfl

/-! ### The figures of HEALTH (R153 to R160) -/

/-- The lives, where RATED_LIFE is set (R154). -/
def State.livesIf (lives : Bool) (s : State) : State := if lives then s.computeLives else s

/-- The end-of-life checks, where they are made (R159). -/
def State.endsIf (ends : Bool) (s : State) : State := if ends then forEach allLanes State.checkEndOfLife s else s

/-- The attributes, where they are recomputed (R156). -/
def State.attributesIf (attributes : Bool) (s : State) : State := if attributes then s.recompute else s

/-- The effects on HEALTH's figures: lives, ends of life, attributes, and its record that becomes due. -/
def State.figureEffects (lives ends attributes : Bool) (s : State) : State :=
  (((s.livesIf lives).endsIf ends).attributesIf attributes).healthDue s.health.record

theorem State.retireAtEnd_of_config (h : t.store.config = s.store.config) : t.retireAtEnd = s.retireAtEnd := by
  simp only [State.retireAtEnd, State.cfg, h]

theorem State.livesIf_kept (lives : Bool) (s : State) : EffectsKept s (s.livesIf lives) := by
  cases lives with
  | true => exact s.computeLives_kept
  | false => exact .refl s

theorem State.endsIf_kept (ends : Bool) (s : State) : EffectsKept s (s.endsIf ends) := by
  cases ends with
  | true => exact forEach_kept _ (fun l t => t.checkEndOfLife_kept l) _ s
  | false => exact .refl s

theorem State.attributesIf_kept (attributes : Bool) (s : State) : EffectsKept s (s.attributesIf attributes) := by
  cases attributes with
  | true => exact s.recompute_kept
  | false => exact .refl s

theorem State.figureEffects_kept (lives ends attributes : Bool) (s : State) :
    EffectsKept s (s.figureEffects lives ends attributes) :=
  (((s.livesIf_kept lives).trans (State.endsIf_kept ends _)).trans (State.attributesIf_kept attributes _)).trans
    (State.healthDue_kept _ _)

/-- The effects of a CONFIG_SET in their order (log entry 12). -/
theorem State.configEffects_eq (ps : List (Fin 16 × BitVec 32)) (s : State) : s.configEffects ps =
    (s.linkEffects (setsItem 1 ps) (setsItem 2 ps)).figureEffects (setsItem 4 ps)
      (setsItem 4 ps || (setsItem 12 ps && s.retireAtEnd)) (setsItem 3 ps || setsItem 4 ps || setsItem 5 ps) := by
  have hhealth : (s.linkEffects (setsItem 1 ps) (setsItem 2 ps)).health = s.health := by rw [State.linkEffects_eq]; rfl
  have hconfig : (s.linkEffects (setsItem 1 ps) (setsItem 2 ps)).store.config = s.store.config := by
    rw [State.linkEffects_eq]; rfl
  have hretire : ((s.linkEffects (setsItem 1 ps) (setsItem 2 ps)).livesIf (setsItem 4 ps)).retireAtEnd = s.retireAtEnd :=
    State.retireAtEnd_of_config ((State.livesIf_kept _ _).config.trans hconfig)
  unfold State.figureEffects
  rw [hhealth, ← hretire]
  rfl

theorem State.computeLives_noticesKept (s : State) : s.noticesKept s.computeLives := by
  have hlife (l : LaneId) (t : State) : t.noticesKept (t.computeLife l) := by
    unfold State.computeLife
    exact State.noticesKept_of_link rfl rfl
  exact forEach_noticesKept State.computeLife hlife allLanes s

theorem State.figureEffects_noticesKept (lives ends attributes : Bool) (s : State) :
    s.noticesKept (s.figureEffects lives ends attributes) := by
  have hlives : s.noticesKept (s.livesIf lives) := by
    unfold State.livesIf
    split
    · exact s.computeLives_noticesKept
    · exact State.noticesKept_of_link rfl rfl
  have hends (t : State) : t.noticesKept (t.endsIf ends) := by
    unfold State.endsIf
    split
    · exact forEach_noticesKept State.checkEndOfLife State.checkEndOfLife_noticesKept _ t
    · exact State.noticesKept_of_link rfl rfl
  have hattributes (t : State) : t.noticesKept (t.attributesIf attributes) := by
    unfold State.attributesIf
    split
    · exact t.recompute_noticesKept
    · exact State.noticesKept_of_link rfl rfl
  exact ((hlives.trans (hends _)).trans (hattributes _)).trans (State.healthDue_noticesKept _ _)

/-- The life of a lane after a RATED_LIFE, or as it was (R154). -/
def State.newLife (lives : Bool) (s : State) (l : LaneId) : Nat :=
  if lives then lifePercent s.ratedLife (s.health.lanes[l]).counts.largest else (s.health.lanes[l]).life

theorem State.livesIf_life (lives : Bool) (s : State) (l : LaneId) :
    ((s.livesIf lives).health.lanes[l]).life = s.newLife lives l := by
  cases lives with
  | true => exact s.computeLives_life l
  | false => rfl

theorem State.livesIf_lanes (lives : Bool) (s : State) : (s.livesIf lives).lanes = s.lanes := by
  cases lives with
  | true => exact s.computeLives_lanes
  | false => rfl

theorem State.endsIf_wear (ends : Bool) (s : State) : (s.endsIf ends).health.lanes = s.health.lanes := by
  unfold State.endsIf
  split
  · rw [forEach_checkEndOfLife_wear]
  · rfl

theorem State.attributesIf_wear (attributes : Bool) (s : State) :
    (s.attributesIf attributes).health.lanes = s.health.lanes := by
  unfold State.attributesIf
  split
  · rw [State.recompute_health]
  · rfl

theorem State.attributesIf_lanes (attributes : Bool) (s : State) : (s.attributesIf attributes).lanes = s.lanes := by
  cases attributes with
  | true => exact s.recompute_lanes
  | false => rfl

theorem State.figureEffects_life (lives ends attributes : Bool) (s : State) (l : LaneId) :
    ((s.figureEffects lives ends attributes).health.lanes[l]).life = s.newLife lives l := by
  unfold State.figureEffects
  rw [State.healthDue_life, ← State.livesIf_life]
  simp only [State.attributesIf_wear, State.endsIf_wear]

/-- A lane at its end of life by the new figures (R159). -/
def State.endsLife (lives : Bool) (s : State) (l : LaneId) : Prop := s.retireAtEnd = true ∧ s.newLife lives l = 0

theorem State.livesIf_worn (lives : Bool) (s : State) (l : LaneId) : (s.livesIf lives).worn l = true ↔ s.endsLife lives l := by
  unfold State.worn State.endsLife
  rw [Bool.and_eq_true, decide_eq_true_eq, State.livesIf_life, State.retireAtEnd_of_config (s.livesIf_kept lives).config]

theorem State.figureEffects_lanes (lives ends attributes : Bool) (s : State) :
    (s.figureEffects lives ends attributes).lanes = ((s.livesIf lives).endsIf ends).lanes := by
  unfold State.figureEffects
  rw [State.healthDue_frame State.lanes (fun _ _ _ => rfl) (fun _ _ => rfl), State.attributesIf_lanes]

/-- The lanes at their ends of life are condemned, where the checks are made (R159). -/
theorem State.figureEffects_condemned (lives ends attributes : Bool) (h : ends = true ∧ s.endsLife lives l) :
    (s.figureEffects lives ends attributes).lanes[l] = s.lanes[l].condemned := by
  obtain ⟨rfl, hends⟩ := h
  simp only [State.figureEffects_lanes]
  refine (forEach_checkEndOfLife_lane allLanes (s.livesIf lives) l).trans ?_
  rw [if_pos ⟨mem_allLanes l, (s.livesIf_worn lives l).mpr hends⟩]
  simp only [State.livesIf_lanes]

/-- A lane that is not at its end of life, or where no check is made, stays as it is. -/
theorem State.figureEffects_spared (lives ends attributes : Bool) (h : ¬(ends = true ∧ s.endsLife lives l)) :
    (s.figureEffects lives ends attributes).lanes[l] = s.lanes[l] := by
  simp only [State.figureEffects_lanes]
  cases ends with
  | false => simp only [State.endsIf, Bool.false_eq_true, if_false, State.livesIf_lanes]
  | true =>
    refine (forEach_checkEndOfLife_lane allLanes (s.livesIf lives) l).trans ?_
    rw [if_neg fun hw => h ⟨rfl, (s.livesIf_worn lives l).mp hw.2⟩]
    simp only [State.livesIf_lanes]

/-- The attributes are up to date where they are recomputed, and where a lane retires (R156, R160). -/
theorem State.figureEffects_current {lives ends attributes : Bool} (s : State)
    (h : attributes = true ∨ ∃ l : LaneId, (ends = true ∧ s.endsLife lives l) ∧ s.lanes[l].state = .free) :
    (s.figureEffects lives ends attributes).healthCurrent := by
  refine State.healthDue_current ?_ _
  cases attributes with
  | true => exact State.recompute_current _
  | false =>
    obtain ⟨l, ⟨rfl, hworn⟩, hfree⟩ := h.resolve_left (by decide)
    exact forEach_checkEndOfLife_retires (mem_allLanes l) ((s.livesIf_worn lives l).mpr hworn)
      (by simp only [State.livesIf_lanes]; exact hfree)

end Sys2Proof.Machine
end


section
set_option Elab.async false
/-! # CONFIG_SET (O23) -/

namespace Sys2Proof.Machine

variable {s t : State} {l : LaneId} {tag : Byte}

/-! ### The refusals, and one pair of an item without an effect at once (R180) -/

theorem State.takeConfigSet_badField {pairs : List (Byte × BitVec 32)} (s : State) (tag : Byte)
    (h : pairs = [] ∨ 16 < pairs.length ∨ ∃ e ∈ pairs, 15 < e.1.toNat) :
    s.takeConfigSet pairs ⟨tag, partByte⟩ = s.reply 0x10 tag partByte .badField [] := by
  unfold State.takeConfigSet
  rcases h with rfl | hlong | hindex
  · rfl
  · simp only [ne_eq, not_true_eq_false, if_false, hlong, decide_true, Bool.or_true, if_true]
    rfl
  · simp only [ne_eq, not_true_eq_false, if_false, configPairs_none hindex, ite_self]
    rfl

theorem State.withItem_same {k : Fin 16} {v : BitVec 32} (h : s.store.config[k] = v) : s.withItem k v = s := by
  refine State.modStore_congr _ (fun n => n) ?_
  rw [upd_id _ _ _ h.symm]

/-- An item that acts at its next use has no effect at once. -/
theorem State.configEffects_later {k : Fin 16} (s : State) (hk : k ∈ ([0, 6, 7, 8, 9, 10, 11, 13, 14, 15] : List (Fin 16)))
    (v : BitVec 32) : s.configEffects [(k, v)] = s := by
  have hnone (i : Fin 16) (hi : i ∈ ([1, 2, 3, 4, 5, 12] : List (Fin 16))) : decide (k = i) = false := by
    revert hk hi; revert k i; decide
  unfold State.configEffects
  simp only [setsItem_one, hnone 1 (by decide), hnone 2 (by decide), hnone 3 (by decide), hnone 4 (by decide),
    hnone 5 (by decide), hnone 12 (by decide)]
  exact State.healthDue_same rfl

/-- NOTICE_MASK removes the entries of masked kinds, and nothing else follows (R193). -/
theorem State.configEffects_mask (s : State) (v : BitVec 32) : s.configEffects [(2, v)] = s.dropMasked := by
  have hrecord : s.dropMasked.health.record = s.health.record := by rw [State.dropMasked_eq]; rfl
  unfold State.configEffects
  simp only [setsItem_one]
  exact State.healthDue_same hrecord

/-- One item set whose effects leave the agenda and the slots alone: CONFIG is due exactly on a change (R177, R180). -/
theorem exec_configSet_effects {u : State} (k : Fin 16) (v : BitVec 32) (hr : s.ready)
    (hu : (s.arrive.withItem k (clampConfig k v)).configEffects [(k, clampConfig k v)] = u) (ha : u.agenda = [])
    (hs : u.link.slots = []) :
    (s.store.config[k] = clampConfig k v → exec (.configSet tag 0xFF [(byte k.val, v)]) s =
      .next (u.answered 0x10 tag 0xFF .ok (byte k.val :: bytes32 (clampConfig k v)))) ∧
    (s.store.config[k] ≠ clampConfig k v → exec (.configSet tag 0xFF [(byte k.val, v)]) s =
      .next (((u.touch configItem).due configItem).answered 0x10 tag 0xFF .ok (byte k.val :: bytes32 (clampConfig k v)))) := by
  refine ⟨fun hsame => ?_, fun hchanged => ?_⟩
  · exact exec_configSet_one k v hr (by rw [hu, decide_eq_false (not_not_intro hsame)]; rfl) ha hs
  · refine exec_configSet_one k v hr (by rw [hu, decide_eq_true hchanged]; rfl) ?_ ?_
    · exact ((u.touch_due_kept configItem).agenda).trans ha
    · exact ((u.touch_due_kept configItem).slots).trans hs

/-! ### Any pairs (R180) -/

/-- The state on which the effects of the pairs are taken: the frame has arrived and the values are stored. -/
def State.withPairs (pairs : List (Fin 16 × BitVec 32)) (s : State) : State :=
  s.arrive.modStore fun t => { t with config := storePairs (clampPairs pairs) s.store.config }

/-- What is stored has changed. -/
def State.pairsChange (pairs : List (Fin 16 × BitVec 32)) (s : State) : Bool :=
  decide (storePairs (clampPairs pairs) s.store.config ≠ s.store.config)

/-- The silence timer and the notices once a CONFIG_SET has taken effect. -/
def State.pairsLinked (pairs : List (Fin 16 × BitVec 32)) (s : State) : State :=
  (s.withPairs pairs).linkEffects (setsItem 1 (clampPairs pairs)) (setsItem 2 (clampPairs pairs))

/-- The end-of-life checks are made. -/
def State.pairsEnd (pairs : List (Fin 16 × BitVec 32)) (s : State) : Bool :=
  setsItem 4 (clampPairs pairs) || (setsItem 12 (clampPairs pairs) && (s.withPairs pairs).retireAtEnd)

/-- The figures of HEALTH once a CONFIG_SET has taken effect. -/
def State.pairsFigured (pairs : List (Fin 16 × BitVec 32)) (s : State) : State :=
  (s.pairsLinked pairs).figureEffects (setsItem 4 (clampPairs pairs)) (s.pairsEnd pairs)
    (setsItem 3 (clampPairs pairs) || setsItem 4 (clampPairs pairs) || setsItem 5 (clampPairs pairs))

/-- The state that a CONFIG_SET of any pairs answers with. -/
def State.pairsTaken (pairs : List (Fin 16 × BitVec 32)) (s : State) : State :=
  (s.pairsFigured pairs).configDue (s.pairsChange pairs)

theorem State.withPairs_frame {β : Type} (g : State → β) (pairs : List (Fin 16 × BitVec 32)) (s : State)
    (hstore : ∀ (f : Store → Store) (t : State), g (t.modStore f) = g t) (harrive : g s.arrive = g s) :
    g (s.withPairs pairs) = g s :=
  (hstore _ _).trans harrive

theorem State.withPairs_get (pairs : List (Fin 16 × BitVec 32)) (s : State) (k : Fin 16) :
    (s.withPairs pairs).store.config[k] = newValue pairs s.store.config k :=
  storePairs_get pairs s.store.config k

theorem State.pairsLinked_frame {β : Type} (g : State → β) (pairs : List (Fin 16 × BitVec 32)) (s : State)
    (htime : ∀ (f : TimeBase → TimeBase) (t : State), g (t.modTime f) = g t)
    (hlink : ∀ (f : Link → Link) (t : State), g (t.modLink f) = g t) : g (s.pairsLinked pairs) = g (s.withPairs pairs) := by
  unfold State.pairsLinked
  rw [State.linkEffects_eq, hlink, htime]

theorem State.pairsTaken_kept (pairs : List (Fin 16 × BitVec 32)) (s : State) :
    EffectsKept (s.pairsLinked pairs) (s.pairsTaken pairs) :=
  (State.figureEffects_kept _ _ _ _).trans (State.configDue_kept _ _)

theorem State.takeConfigSet_pairs {pairs : List (Fin 16 × BitVec 32)} (s : State) (tag : Byte) (hsome : pairs ≠ [])
    (hfew : pairs.length ≤ 16) : s.arrive.takeConfigSet (pairs.map fun e => (byte e.1.val, e.2)) ⟨tag, partByte⟩ =
      (s.pairsTaken pairs).reply 0x10 tag partByte .ok
        (pairs.map fun e => byte e.1.val :: bytes32 (clampConfig e.1 e.2)).flatten := by
  have hbytes : ((clampPairs pairs).map fun p => byte p.1.val :: bytes32 p.2) =
      pairs.map fun e => byte e.1.val :: bytes32 (clampConfig e.1 e.2) := by
    unfold clampPairs
    rw [List.map_map]
    rfl
  have hlength : ¬((pairs.map fun e => (byte e.1.val, e.2)).isEmpty ||
      decide (16 < (pairs.map fun e => (byte e.1.val, e.2)).length)) = true := by
    simp [hsome, hfew]
  unfold State.takeConfigSet State.pairsTaken State.pairsFigured State.pairsLinked State.pairsEnd
  rw [← State.configEffects_eq, if_neg (not_not_intro rfl), if_neg hlength, configPairs_bytes, ← hbytes]
  simp only [State.arrive_store]
  rfl

theorem exec_configSet_pairs {pairs : List (Fin 16 × BitVec 32)} (hr : s.ready) (hsome : pairs ≠ [])
    (hfew : pairs.length ≤ 16) : exec (.configSet tag 0xFF (pairs.map fun e => (byte e.1.val, e.2))) s =
      .next ((s.pairsTaken pairs).answered 0x10 tag 0xFF .ok
        (pairs.map fun e => byte e.1.val :: bytes32 (clampConfig e.1 e.2)).flatten) := by
  refine request_answered (r := .configSet _) hr trivial (s.takeConfigSet_pairs tag hsome hfew) ?_ ?_
  · rw [(s.pairsTaken_kept pairs).agenda, State.pairsLinked_frame State.agenda _ _ (fun _ _ => rfl) (fun _ _ => rfl)]
    exact s.arrive_agenda.trans hr.2.2.1
  · rw [(s.pairsTaken_kept pairs).slots]
    unfold State.pairsLinked
    rw [State.linkEffects_eq, State.modLink_link]
    split <;> exact congrArg Link.slots s.arrive_link

/-- The values stored are those of the pairs (R180). -/
theorem State.pairsTaken_config (pairs : List (Fin 16 × BitVec 32)) (s : State) :
    (s.pairsTaken pairs).store.config = (s.withPairs pairs).store.config :=
  (s.pairsTaken_kept pairs).config.trans
    (State.pairsLinked_frame (fun t => t.store.config) _ _ (fun _ _ => rfl) (fun _ _ => rfl))

/-- A part of the state that a CONFIG_SET does not speak of. -/
theorem State.pairsTaken_frame {β : Type} (g : State → β) (pairs : List (Fin 16 × BitVec 32)) (s : State)
    (hkept : g (s.pairsTaken pairs) = g (s.pairsLinked pairs))
    (hstore : ∀ (f : Store → Store) (t : State), g (t.modStore f) = g t)
    (htime : ∀ (f : TimeBase → TimeBase) (t : State), g (t.modTime f) = g t)
    (hlink : ∀ (f : Link → Link) (t : State), g (t.modLink f) = g t) : g (s.pairsTaken pairs) = g s :=
  (hkept.trans (State.pairsLinked_frame g pairs s htime hlink)).trans
    (State.withPairs_frame g pairs s hstore (s.arrive_frame g hlink htime))

/-! ### The silence timer (R171) -/

theorem State.pairsTaken_time (pairs : List (Fin 16 × BitVec 32)) (s : State) : (s.pairsTaken pairs).time =
    if setsItem 1 (clampPairs pairs) then { s.arrive.time with silence := (s.withPairs pairs).newSilence }
    else s.arrive.time := by
  rw [(s.pairsTaken_kept pairs).time]
  unfold State.pairsLinked
  rw [State.linkEffects_eq]
  rfl

theorem State.withPairs_newSilence (pairs : List (Fin 16 × BitVec 32)) (s : State) : (s.withPairs pairs).newSilence =
    if Duration.count ((newValue pairs s.store.config 1).setWidth 16) = 0 then .off
    else .running (Timer.begin ((newValue pairs s.store.config 1).setWidth 16) s.time.now) := by
  have hnow : (s.withPairs pairs).time.now = s.time.now := s.arrive_now
  have htime : (s.withPairs pairs).silenceTime = (newValue pairs s.store.config 1).setWidth 16 := by
    unfold State.silenceTime State.cfgDuration
    rw [State.withPairs_get]
  unfold State.newSilence
  rw [htime, hnow]

/-! ### The notices (R193) -/

theorem State.withPairs_noticeMask (pairs : List (Fin 16 × BitVec 32)) (s : State) (m : Fin 9) :
    (s.withPairs pairs).noticeMask.getLsbD m.val = (newValue pairs s.store.config 2).getLsbD m.val := by
  have h := s.withPairs_get pairs 2
  unfold State.noticeMask
  rw [h]

theorem State.pairsLinked_notices (pairs : List (Fin 16 × BitVec 32)) (s : State) (m : Fin 9) :
    (s.pairsLinked pairs).link.notices[m] =
      if setsItem 2 (clampPairs pairs) && !(newValue pairs s.store.config 2).getLsbD m.val then none
      else s.link.notices[m] := by
  rw [← State.withPairs_noticeMask]
  unfold State.pairsLinked
  rw [State.linkEffects_eq, State.modLink_link]
  have harrive : (s.withPairs pairs).link.notices = s.link.notices := by
    show s.arrive.link.notices = s.link.notices
    rw [State.arrive_link]
  cases setsItem 2 (clampPairs pairs) with
  | false => exact congrArg (·[m]) harrive
  | true =>
    simp only [if_true, Bool.true_and, State.modTime_link, harrive, Fin.getElem_fin, Vector.getElem_ofFn]
    cases (s.withPairs pairs).noticeMask.getLsbD m.val <;> rfl

/-- A kind that HEALTH's work does not speak of, or that is masked, keeps its entry through that work. -/
theorem State.pairsTaken_notices (pairs : List (Fin 16 × BitVec 32)) (s : State) (m : Fin 9)
    (h : m ≠ 2 ∧ m ≠ 3 ∨ (newValue pairs s.store.config 2).getLsbD m.val = false) :
    (s.pairsTaken pairs).link.notices[m] = (s.pairsLinked pairs).link.notices[m] := by
  have hmask : (s.pairsLinked pairs).noticeMask = (s.withPairs pairs).noticeMask :=
    State.pairsLinked_frame State.noticeMask _ _ (fun _ _ => rfl) (fun _ _ => rfl)
  refine ((State.figureEffects_noticesKept _ _ _ _).trans (State.configDue_noticesKept _ _)).2 m ?_
  rw [hmask, State.withPairs_noticeMask]
  exact h

/-! ### HEALTH (R154, R156, R159) -/

/-- The life of a lane by the pairs (R154). -/
def State.pairsLife (pairs : List (Fin 16 × BitVec 32)) (s : State) (l : LaneId) : Nat :=
  if setsItem 4 (clampPairs pairs) then
    lifePercent (newValue pairs s.store.config 4).toNat (s.health.lanes[l]).counts.largest
  else (s.health.lanes[l]).life

theorem State.pairsLinked_health (pairs : List (Fin 16 × BitVec 32)) (s : State) : (s.pairsLinked pairs).health = s.health :=
  (State.pairsLinked_frame State.health _ _ (fun _ _ => rfl) (fun _ _ => rfl)).trans s.arrive_health

theorem State.pairsLinked_lanes (pairs : List (Fin 16 × BitVec 32)) (s : State) : (s.pairsLinked pairs).lanes = s.lanes :=
  (State.pairsLinked_frame State.lanes _ _ (fun _ _ => rfl) (fun _ _ => rfl)).trans s.arrive_lanes

theorem State.pairsLinked_get (pairs : List (Fin 16 × BitVec 32)) (s : State) (k : Fin 16) :
    (s.pairsLinked pairs).store.config[k] = newValue pairs s.store.config k := by
  rw [← State.withPairs_get]
  exact State.pairsLinked_frame (fun t => t.store.config[k]) _ _ (fun _ _ => rfl) (fun _ _ => rfl)

theorem State.pairsLinked_newLife (pairs : List (Fin 16 × BitVec 32)) (s : State) (l : LaneId) :
    (s.pairsLinked pairs).newLife (setsItem 4 (clampPairs pairs)) l = s.pairsLife pairs l := by
  have hrated : (s.pairsLinked pairs).ratedLife = (newValue pairs s.store.config 4).toNat := by
    unfold State.ratedLife State.cfg
    rw [State.pairsLinked_get]
  unfold State.newLife State.pairsLife
  rw [hrated, State.pairsLinked_health]

theorem State.pairsLinked_retireAtEnd (pairs : List (Fin 16 × BitVec 32)) (s : State) :
    (s.pairsLinked pairs).retireAtEnd = true ↔ newValue pairs s.store.config 12 ≠ 0 := by
  unfold State.retireAtEnd State.cfg
  rw [State.pairsLinked_get, bne_iff_ne]
  exact not_congr (BitVec.toNat_eq (y := 0)).symm

/-- The lanes at their ends of life by the pairs (R159). -/
theorem State.pairsEnd_iff (pairs : List (Fin 16 × BitVec 32)) (s : State) (l : LaneId) :
    (s.pairsEnd pairs = true ∧ (s.pairsLinked pairs).endsLife (setsItem 4 (clampPairs pairs)) l) ↔
      (setsItem 4 (clampPairs pairs) = true ∨ setsItem 12 (clampPairs pairs) = true) ∧
        newValue pairs s.store.config 12 ≠ 0 ∧ s.pairsLife pairs l = 0 := by
  have hretire : (s.withPairs pairs).retireAtEnd = (s.pairsLinked pairs).retireAtEnd :=
    (State.pairsLinked_frame State.retireAtEnd _ _ (fun _ _ => rfl) (fun _ _ => rfl)).symm
  unfold State.pairsEnd State.endsLife
  rw [State.pairsLinked_newLife, hretire, ← State.pairsLinked_retireAtEnd, Bool.or_eq_true, Bool.and_eq_true]
  tauto

theorem State.pairsTaken_lanes (pairs : List (Fin 16 × BitVec 32)) (s : State) :
    (s.pairsTaken pairs).lanes = (s.pairsFigured pairs).lanes :=
  State.configDue_frame State.lanes (fun _ _ _ => rfl) (fun _ _ => rfl) _ _

theorem State.pairsChange_iff (pairs : List (Fin 16 × BitVec 32)) (s : State) :
    s.pairsChange pairs = true ↔ ∃ k : Fin 16, newValue pairs s.store.config k ≠ s.store.config[k] := by
  unfold State.pairsChange
  rw [decide_eq_true_eq, ← not_forall_not]
  refine not_congr ⟨fun h k hk => hk ?_, fun h => Vector.ext fun k hk => ?_⟩
  · rw [← storePairs_get, h]
  · exact (storePairs_get pairs s.store.config ⟨k, hk⟩).trans (not_not.mp (h ⟨k, hk⟩))

/-- A change makes CONFIG due, or puts its write under way with the new content (R177). -/
theorem State.pairsTaken_pending {pairs : List (Fin 16 × BitVec 32)} (h : s.pairsChange pairs = true) :
    configItem ∈ (s.pairsTaken pairs).store.pendingWrites ∨ ∃ w : Write, (s.pairsTaken pairs).store.inFlight = some w ∧
      w.content = .config (s.pairsTaken pairs).store.config (s.ports.map Port.desc) := by
  have hports : (s.pairsFigured pairs).ports = s.ports :=
    (State.figureEffects_kept _ _ _ _).ports.trans
      ((State.pairsLinked_frame State.ports _ _ (fun _ _ => rfl) (fun _ _ => rfl)).trans s.arrive_ports)
  have hpending := (s.pairsFigured pairs).configDue_pending
  have hconfig : (s.pairsTaken pairs).store.config = (s.pairsFigured pairs).store.config := (State.configDue_kept _ _).config
  rw [hconfig]
  unfold State.pairsTaken
  rw [h, ← hports]
  exact hpending

/-- Settles O23: one pair by its effects, and any pairs by what each effect leaves to the others. -/
theorem configSetOutcomes : Obligations.ConfigSetOutcomes := by
  refine ⟨fun tag s k v hr hk => ?_, fun tag s pairs hr h => ?_, fun tag s v hr => ?_, fun tag s pairs hr hsome hfew => ?_⟩
  · intro new c data
    obtain ⟨hsame, hchanged⟩ := exec_configSet_effects (tag := tag) k v hr (State.configEffects_later _ hk _)
      (s.arrive_agenda.trans hr.2.2.1) (congrArg Link.slots s.arrive_link)
    refine ⟨fun h => ?_, hchanged⟩
    have hstored : s.arrive.store.config[k] = new := by rw [State.arrive_store]; exact h
    rw [← State.withItem_same hstored]
    exact hsame h
  · exact request_refused (r := .configSet pairs) hr trivial (s.arrive.takeConfigSet_badField tag h)
  · intro new u data
    refine exec_configSet_effects (u := u) 2 v hr ?_ (s.arrive_agenda.trans hr.2.2.1) (congrArg Link.slots s.arrive_link)
    have hmask : (s.arrive.withItem 2 new).noticeMask = new := (upd_get _ _ _ _).trans (if_pos rfl)
    rw [State.configEffects_mask, State.dropMasked_eq, hmask] <;> rfl
  · intro given value sets life atEnd silence
    have hsets (k : Fin 16) : setsItem k (clampPairs pairs) = sets k := setsItem_clampPairs pairs k
    have hlife (l : LaneId) : s.pairsLife pairs l = life l := by
      unfold State.pairsLife
      rw [hsets]
      rfl
    have hend (l : LaneId) : (s.pairsEnd pairs = true ∧ (s.pairsLinked pairs).endsLife (setsItem 4 (clampPairs pairs)) l) ↔
        atEnd l := by
      rw [State.pairsEnd_iff, hlife, hsets, hsets]
      rfl
    have hkept := s.pairsTaken_kept pairs
    have hframe {β : Type} (g : State → β) := s.pairsTaken_frame g pairs
    refine ⟨s.pairsTaken pairs, exec_configSet_pairs hr hsome hfew, fun k => ?_, fun h => ?_, fun h => ?_, fun m h hm => ?_,
      fun m h2 h3 hm => ?_, fun l => ⟨?_, ?_, ?_, fun hl => ?_, fun hl => ?_⟩, fun h => ?_, fun h => ?_, ?_, ?_, ?_, ?_, ?_,
      ?_, ?_, ?_⟩
    · rw [State.pairsTaken_config]
      exact s.withPairs_get pairs k
    · rw [State.pairsTaken_time, hsets, h]
      rfl
    · rw [State.pairsTaken_time, hsets, h, State.withPairs_newSilence]
      rfl
    · rw [State.pairsTaken_notices _ _ _ (.inr hm), State.pairsLinked_notices, hsets, h]
      exact if_pos (by rw [Bool.true_and, Bool.not_eq_true']; exact hm)
    · rw [State.pairsTaken_notices _ _ _ (.inl ⟨h2, h3⟩), State.pairsLinked_notices, hsets]
      refine if_neg fun hboth => ?_
      rw [Bool.and_eq_true, Bool.not_eq_true'] at hboth
      rcases hm with hm | hm
      · exact absurd (hm.symm.trans hboth.1) (by decide)
      · exact absurd (hm.symm.trans hboth.2) (by decide)
    · rw [← hlife, ← State.pairsLinked_newLife]
      exact (State.configDue_life _ _ l).trans (State.figureEffects_life _ _ _ _ l)
    · rw [hkept.counts l, State.pairsLinked_health]
    · rw [hkept.marks l, State.pairsLinked_health]
    · rw [← hend] at hl
      simp only [State.pairsTaken_lanes]
      refine (State.figureEffects_spared _ _ _ hl).trans ?_
      simp only [State.pairsLinked_lanes]
    · simp only [State.pairsTaken_lanes]
      refine (State.figureEffects_condemned _ _ _ ((hend l).mpr hl)).trans ?_
      simp only [State.pairsLinked_lanes]
      exact Lane.condemned_eq _
    · refine State.configDue_current (State.figureEffects_current _ ?_) _
      simp only [Bool.or_eq_true, or_assoc, hend, State.pairsLinked_lanes]
      simp only [hsets]
      exact h
    · exact State.pairsTaken_pending ((s.pairsChange_iff pairs).mpr h)
    · exact hframe State.sites hkept.sites (fun _ _ => rfl) (fun _ _ => rfl) (fun _ _ => rfl)
    · exact hframe State.ports hkept.ports (fun _ _ => rfl) (fun _ _ => rfl) (fun _ _ => rfl)
    · exact hframe State.results hkept.results (fun _ _ => rfl) (fun _ _ => rfl) (fun _ _ => rfl)
    · exact hframe State.meter hkept.meter (fun _ _ => rfl) (fun _ _ => rfl) (fun _ _ => rfl)
    · exact hframe State.pins hkept.pins (fun _ _ => rfl) (fun _ _ => rfl) (fun _ _ => rfl)
    · exact hframe State.freeze hkept.freeze (fun _ _ => rfl) (fun _ _ => rfl) (fun _ _ => rfl)
    · exact hframe State.laneWaiters hkept.laneWaiters (fun _ _ => rfl) (fun _ _ => rfl) (fun _ _ => rfl)
    · exact hframe State.resetReq hkept.resetReq (fun _ _ => rfl) (fun _ _ => rfl) (fun _ _ => rfl)

end Sys2Proof.Machine
end


section
set_option Elab.async false
/-! # What a RESET does to each site (O32)

A site at rest ends at once; the fold over the four sites follows which of them the RESET still waits for. -/

namespace Sys2Proof.Machine

variable {s t : State} {i : SiteId} {l : LaneId} {r : Route} {q : ResetReq} {js : List SiteId}

/-! ### The sites stop (R28) -/

/-- The blocks and the completion queue are emptied (R145, R192). -/
def State.emptied (s : State) : State := s.discardResults.modLink fun k => { k with completion := [], doneWaiting := [] }

/-- The RESET in flight is set. -/
def State.withReset (o : Option ResetReq) (s : State) : State := { s with resetReq := o }

/-- Some sites have got new records. -/
def State.withSites (js : List SiteId) (f : SiteId → Site) (s : State) : State :=
  { s with sites := Vector.ofFn fun j => if j ∈ js then f j else s.sites[j] }

theorem State.withSites_get (f : SiteId → Site) (j : SiteId) : (s.withSites js f).sites[j] =
    if j ∈ js then f j else s.sites[j] := by
  unfold State.withSites
  exact Vector.getElem_ofFn _

theorem State.withSites_nil (f : SiteId → Site) : s.withSites [] f = s := by
  have hsites : (Vector.ofFn fun j : SiteId => if j ∈ ([] : List SiteId) then f j else s.sites[j]) = s.sites := by
    simp
  unfold State.withSites
  rw [hsites]

theorem State.withSites_cons (f : SiteId → Site) (hi : i ∉ js) :
    (s.modSite i fun _ => f i).withSites js f = s.withSites (i :: js) f := by
  have hsites : (Vector.ofFn fun j => if j ∈ js then f j else (s.modSite i fun _ => f i).sites[j]) =
      Vector.ofFn fun j => if j ∈ i :: js then f j else s.sites[j] := by
    refine congrArg Vector.ofFn (funext fun j => ?_)
    rw [State.modSite_sites, upd_get]
    by_cases hj : i = j
    · subst hj; simp [hi]
    · simp [hj, Ne.symm hj]
  unfold State.withSites
  rw [hsites]
  rfl

theorem State.withSites_congr {f g : SiteId → Site} (h : ∀ j ∈ js, f j = g j) : s.withSites js f = s.withSites js g := by
  unfold State.withSites
  congr 2
  funext j
  split
  · next hj => exact h j hj
  · rfl

theorem State.modSite_others {f : Site → Site} {j : SiteId} (h : i ≠ j) : (s.modSite i f).sites[j] = s.sites[j] := by
  rw [State.modSite_sites, upd_get, if_neg h]

/-- A site that a RESET has stopped (R28). -/
def Site.resetStopped (x : Site) : Site :=
  { x with
    queue := [], running := none, held := false, carried := []
    waitTimer := match x.running with
      | some ⟨.active .waiting, _⟩ => none
      | _ => x.waitTimer }

/-- The site has no running step, an ENDED one or a WAIT: none whose stop reaches beyond the site. -/
def Site.stopsAlone (x : Site) : Prop :=
  x.running = none ∨ (∃ n, x.running = some ⟨.ended, n⟩) ∨
    ∃ n t d rest, x.running = some ⟨.active .waiting, n⟩ ∧ x.queue = (⟨t, .wait d⟩ : Step) :: rest

theorem State.stopRunning_ended {n : Nat} (hr : s.sites[i].running = some ⟨.ended, n⟩) : s.stopRunning i = s := by
  have hactive : s.active i = none := by
    unfold State.active
    rw [hr]
    cases s.sites[i].queue <;> rfl
  unfold State.stopRunning
  rw [hactive]

theorem State.resetStop_alone (h : s.sites[i].stopsAlone) :
    s.resetStop i = s.modSite i fun _ => s.sites[i].resetStopped := by
  unfold State.resetStop
  rcases h with hr | ⟨n, hr⟩ | ⟨n, t, d, rest, hr, hq⟩
  · rw [State.stopRunning_none hr]
    exact State.modSite_congr (by unfold Site.resetStopped; rw [hr])
  · rw [State.stopRunning_ended hr]
    exact State.modSite_congr (by unfold Site.resetStopped; rw [hr])
  · rw [State.stopRunning_wait hq hr, State.modSite_modSite]
    exact State.modSite_congr (by unfold Site.resetStopped; rw [hr])

theorem forEach_resetStop (hn : js.Nodup) (h : ∀ i ∈ js, s.sites[i].stopsAlone) :
    forEach js State.resetStop s = s.withSites js fun i => s.sites[i].resetStopped := by
  induction js generalizing s with
  | nil => exact (State.withSites_nil _).symm
  | cons i js ih =>
    obtain ⟨hi, hn⟩ := List.nodup_cons.mp hn
    have hothers (j : SiteId) (hj : j ∈ js) : (s.modSite i fun _ => s.sites[i].resetStopped).sites[j] = s.sites[j] :=
      State.modSite_others fun e => hi (e ▸ hj)
    rw [forEach_cons, State.resetStop_alone (h i List.mem_cons_self),
      ih hn fun j hj => by rw [hothers j hj]; exact h j (List.mem_cons_of_mem i hj),
      State.withSites_congr fun j hj => congrArg Site.resetStopped (hothers j hj), State.withSites_cons (fun j => _) hi]

/-! ### A site that counts as torn down (R88, R89) -/

theorem State.resetTornDown_withReset (o : Option ResetReq) :
    (s.withReset o).resetTornDown q = s.resetTornDown q := rfl

/-- The last site that counts as torn down ends phase 1 (R183, R184). -/
theorem State.siteEnded_last (hq : s.resetReq = some q) (hp : q.phase = .teardown) (hw : q.waiting = [i]) :
    s.siteEnded i = s.resetTornDown { q with waiting := [], ends := q.ends.set i s.sites[i].state } := by
  unfold State.siteEnded
  simp [hq, hp, hw]

/-- The RESET once sites have ended in the given states. -/
def ResetReq.ended (q : ResetReq) (js : List SiteId) (f : SiteId → Site) : ResetReq :=
  { q with waiting := q.waiting.filter fun j => decide (j ∉ js)
           ends := Vector.ofFn fun j => if j ∈ js then (f j).state else q.ends[j] }

/-- The sites have ended with new records. -/
def State.sitesEnded (js : List SiteId) (f : SiteId → Site) (q : ResetReq) (s : State) : State :=
  (s.withSites js f).withReset (some (q.ended js f))

/-- A site's part in the RESET, on any state with the same routes and claims, ends it with the record `x`. -/
def State.endsAs (i : SiteId) (x : Site) (s : State) : Prop :=
  ∀ u : State, u.lanes = s.lanes → u.ports = s.ports → u.sites[i] = s.sites[i] →
    u.resetSite i = (u.modSite i fun _ => x).siteEnded i

theorem ResetReq.ended_nil (f : SiteId → Site) : q.ended [] f = q := by
  unfold ResetReq.ended
  simp

theorem ResetReq.ended_cons (f : SiteId → Site) (hi : i ∉ js) :
    ({ q with waiting := q.waiting.filter fun j => decide (j ≠ i), ends := q.ends.set i (f i).state } : ResetReq).ended js f =
      q.ended (i :: js) f := by
  unfold ResetReq.ended
  congr 1
  · rw [List.filter_filter]
    refine List.filter_congr fun j _ => ?_
    simp [Bool.and_comm]
  · refine congrArg Vector.ofFn (funext fun j => ?_)
    by_cases hj : i = j
    · subst hj; simp [hi]
    · have hval : i.val ≠ j.val := fun e => hj (Fin.ext e)
      simp [Ne.symm hj, hval]

theorem State.endsAs.of_eq {x : Site} (h : s.endsAs i x) (hl : t.lanes = s.lanes) (hp : t.ports = s.ports)
    (hs : t.sites[i] = s.sites[i]) : t.endsAs i x :=
  fun u hul hup hus => h u (hul.trans hl) (hup.trans hp) (hus.trans hs)

/-- The sites of a list end one after the other, while the RESET still waits for a site that is not among them. -/
theorem forEach_resetSite_left {f : SiteId → Site} {k : SiteId} (hn : js.Nodup) (hq : s.resetReq = some q)
    (hp : q.phase = .teardown) (hjs : ∀ i ∈ js, i ∈ q.waiting) (hk : k ∈ q.waiting) (hkjs : k ∉ js)
    (h : ∀ i ∈ js, s.endsAs i (f i)) : forEach js State.resetSite s = s.sitesEnded js f q := by
  induction js generalizing s q with
  | nil =>
    unfold State.sitesEnded
    rw [State.withSites_nil, ResetReq.ended_nil, ← hq]
    rfl
  | cons i js ih =>
    obtain ⟨hi, hn⟩ := List.nodup_cons.mp hn
    have hki : k ≠ i := fun e => hkjs (e ▸ List.mem_cons_self)
    have hended := State.siteEnded_left (s := s.modSite i fun _ => f i) (i := i) hq hp (hjs i List.mem_cons_self) ⟨k, hk, hki⟩
    rw [State.modSite_get] at hended
    have hwaits {j : SiteId} (hj : j ∈ q.waiting) (hne : j ≠ i) : j ∈ q.waiting.filter fun j => decide (j ≠ i) :=
      List.mem_filter.mpr ⟨hj, decide_eq_true hne⟩
    have hne (j : SiteId) (hj : j ∈ js) : j ≠ i := fun e => hi (e ▸ hj)
    rw [forEach_cons, h i List.mem_cons_self s rfl rfl rfl, hended]
    refine Eq.trans (ih hn rfl hp (fun j hj => ?_) (hwaits hk hki) (fun hkj => hkjs (List.mem_cons_of_mem i hkj))
      fun j hj => ?_) ?_
    · exact hwaits (hjs j (List.mem_cons_of_mem i hj)) (hne j hj)
    · exact (h j (List.mem_cons_of_mem i hj)).of_eq rfl rfl (State.modSite_others (hne j hj).symm)
    · unfold State.sitesEnded
      rw [ResetReq.ended_cons f hi, ← State.withSites_cons f hi]
      rfl

theorem State.withSites_snoc (f : SiteId → Site) (hi : i ∉ js) :
    (s.withSites js f).modSite i (fun _ => f i) = s.withSites (js ++ [i]) f := by
  have hsites : upd (Vector.ofFn fun j => if j ∈ js then f j else s.sites[j]) i (fun _ => f i) =
      Vector.ofFn fun j => if j ∈ js ++ [i] then f j else s.sites[j] := by
    refine Vector.ext fun j hj => (upd_get _ (i := i) (f := fun _ => f i) (j := ⟨j, hj⟩)).trans ?_
    by_cases hij : i = ⟨j, hj⟩
    · subst hij; simp
    · have hne : (⟨j, hj⟩ : SiteId) ≠ i := fun e => hij e.symm
      simp [hij, hne]
  unfold State.withSites State.modSite
  rw [hsites]

/-- Every site ends at once: the last of them ends phase 1. -/
theorem forEach_resetSite_all {f : SiteId → Site} (hq : s.resetReq = some q) (hp : q.phase = .teardown)
    (hw : q.waiting = allSites) (h : ∀ i, s.endsAs i (f i)) : forEach allSites State.resetSite s =
      (s.withSites allSites f).resetTornDown { q with waiting := [], ends := Vector.ofFn fun j => (f j).state } := by
  have hwaits (i : SiteId) : i ∈ q.waiting := hw ▸ mem_allSites i
  have hfirst : forEach [0, 1, 2] State.resetSite s = s.sitesEnded [0, 1, 2] f q :=
    forEach_resetSite_left (k := 3) (by decide) hq hp (fun i _ => hwaits i) (hwaits 3) (by decide) fun i _ => h i
  have hlast := h 3 (s.sitesEnded [0, 1, 2] f q) rfl rfl (State.withSites_get f 3)
  have hleft : (q.ended [0, 1, 2] f).waiting = [3] := by
    show q.waiting.filter (fun j => decide (j ∉ [0, 1, 2])) = [3]
    rw [hw]
    decide
  have hends : (q.ended [0, 1, 2] f).ends.set (3 : SiteId) (f 3).state = Vector.ofFn fun j => (f j).state := by
    refine Vector.ext fun j hj => ?_
    have hmem : 3 ≠ j → (⟨j, hj⟩ : SiteId) ∈ ([0, 1, 2] : List SiteId) := by
      intro hne
      simp only [List.mem_cons, Fin.ext_iff, List.not_mem_nil, or_false]
      simp only [Fin.isValue, Fin.val_zero, Fin.val_one, Fin.val_two]
      omega
    unfold ResetReq.ended
    simp only [Vector.getElem_set, Vector.getElem_ofFn]
    by_cases h3 : 3 = j
    · subst h3; rfl
    · exact (if_neg h3).trans (if_pos (hmem h3))
  have hmod : (s.sitesEnded [0, 1, 2] f q).modSite 3 (fun _ => f 3) =
      (s.withSites allSites f).withReset (some (q.ended [0, 1, 2] f)) :=
    congrArg (State.withReset _) (State.withSites_snoc (js := [0, 1, 2]) (i := 3) f (by decide))
  have hstate : ((s.withSites allSites f).sites[(3 : SiteId)]).state = (f 3).state := by
    rw [State.withSites_get, if_pos (mem_allSites 3)]
  have hsplit : forEach allSites State.resetSite s = (forEach [0, 1, 2] State.resetSite s).resetSite 3 := rfl
  rw [hsplit, hfirst, hlast, hmod, State.siteEnded_last (q := q.ended [0, 1, 2] f) rfl hp hleft, State.resetTornDown_withReset,
    ← hends, ← hstate]
  rfl

end Sys2Proof.Machine
end


section
set_option Elab.async false
/-! # A RESET of sites that end at once, and of one that holds a READY route (O32) -/

namespace Sys2Proof.Machine

variable {s t u : State} {i : SiteId} {l : LaneId} {r : Route} {q : ResetReq} {js : List SiteId} {tag : Byte} {full : Bool}

/-! ### Sites without routes and SAFE sites (R88, R89) -/

theorem State.routeLanes_of_lanes (h : t.lanes = s.lanes) (i : SiteId) : t.routeLanes i = s.routeLanes i := by
  unfold State.routeLanes
  rw [h]

theorem State.routelessPorts_of_eq (hl : t.lanes = s.lanes) (hp : t.ports = s.ports) (i : SiteId) :
    t.routelessPorts i = s.routelessPorts i := by
  unfold State.routelessPorts State.routeLane
  rw [hl, hp]

theorem State.routeLanes_eq_nil (h : ∀ (l : LaneId) (r : Route), s.lanes[l].route = some r → r.site ≠ i) :
    s.routeLanes i = [] :=
  List.eq_nil_iff_forall_not_mem.mpr fun l hl => by
    obtain ⟨r, hr, hi⟩ := State.mem_routeLanes.mp hl
    exact h l r hr hi

theorem State.routelessPorts_eq_nil (h : ∀ p : PortId, ∀ c ∈ s.ports[p].claim, c.site ≠ i) : s.routelessPorts i = [] := by
  unfold State.routelessPorts
  refine List.filter_eq_nil_iff.mpr fun p _ => ?_
  split
  · next c hc => simp [h p c hc]
  · decide

/-- The site goes on to a teardown at a RESET (R89). -/
def Site.tornByReset (x : Site) : Prop := x.state = .idle ∨ x.state = .running ∨ x.state = .held ∨ x.state = .stopped

/-- The record of a site that a RESET tears down. -/
def Site.resetBegun (x : Site) : Site := { x with state := .aborting, stopCause := none, teardown := some .runReset }

/-- The record of a site whose teardown by a RESET has ended without a route (R88). -/
def Site.reset (x : Site) : Site := { x with state := .idle, stopCause := none, teardown := none }

theorem State.resetSite_torn (h : s.sites[i].tornByReset) :
    s.resetSite i = (s.modSite i Site.resetBegun).beginTeardown i := by
  unfold State.resetSite
  rcases h with h | h | h | h <;> rw [h] <;> rfl

/-- A teardown by a RESET that finds no route ends at once (R88). -/
theorem State.checkTeardown_resetNone (hst : u.sites[i].state = .aborting) (ht : u.sites[i].teardown = some .runReset)
    (hab : u.sites[i].abort = none) (hl : u.routeLanes i = []) :
    u.checkTeardown i = (u.modSite i Site.reset).siteEnded i := by
  have hholds : u.holdsRoute i = false := by unfold State.holdsRoute; rw [hl]; rfl
  have hanswer : (u.modSite i Site.reset).answerAbort i = u.modSite i Site.reset := by
    have habort : ((u.modSite i Site.reset).sites[i]).abort = none := by rw [State.modSite_get]; exact hab
    unfold State.answerAbort
    rw [habort]
  unfold State.checkTeardown
  simp only [State.tearing_of (.inl hst), State.allStuck_none hl, Bool.and_self, if_true, ht, hholds, Bool.false_eq_true,
    if_false]
  exact congrArg (State.siteEnded i) hanswer

/-- A site that holds no route and no claim ends at once (R88). -/
theorem State.endsAs_reset (hst : s.sites[i].tornByReset) (hab : s.sites[i].abort = none) (hl : s.routeLanes i = [])
    (hp : s.routelessPorts i = []) : s.endsAs i s.sites[i].reset := by
  intro u hlanes hports hsite
  have hul : u.routeLanes i = [] := (State.routeLanes_of_lanes hlanes i).trans hl
  have hup : u.routelessPorts i = [] := (State.routelessPorts_of_eq hlanes hports i).trans hp
  have hbegun : (u.modSite i Site.resetBegun).sites[i] = u.sites[i].resetBegun := State.modSite_get _ _ _
  rw [State.resetSite_torn (by rw [hsite]; exact hst)]
  unfold State.beginTeardown
  rw [State.handOverAll_none (by exact hul) (by exact hup),
    State.checkTeardown_resetNone (by rw [hbegun]; rfl) (by rw [hbegun]; rfl) (by rw [hbegun, hsite]; exact hab)
      (by exact hul),
    State.modSite_modSite]
  refine congrArg (State.siteEnded i) (State.modSite_congr ?_)
  rw [hsite]
  rfl

/-- A SAFE site with a route, and no CLEAR in flight, counts as torn down as it is (R89). -/
theorem State.endsAs_safe (hst : s.sites[i].state = .safe) (hc : s.sites[i].clear = none) (hh : s.holdsRoute i = true) :
    s.endsAs i s.sites[i] := by
  intro u hlanes _ hsite
  have hholds : u.holdsRoute i = true := by
    unfold State.holdsRoute
    rw [State.routeLanes_of_lanes hlanes]
    exact hh
  have hsame : (u.modSite i fun _ => s.sites[i]) = u := State.modSite_id hsite.symm
  unfold State.resetSite
  simp only [hsite, hst, hc, hholds, hsame, Option.isSome_none, Bool.false_eq_true, if_false, if_true]

/-! ### The RESET is taken (R183, R184) -/

theorem State.takeReset_begins (mode : Byte) (hm : mode.toNat ≤ 1) (h : s.resetReq = none) :
    s.takeReset mode ⟨tag, partByte⟩ = s.beginReset (decide (mode = 1)) tag := by
  unfold State.takeReset
  rw [if_neg (not_not_intro rfl), if_neg (by omega), h]
  rfl

theorem State.takeReset_busy (mode : Byte) (hm : mode.toNat ≤ 1) (h : s.resetReq ≠ none) :
    s.takeReset mode ⟨tag, partByte⟩ = s.reply 0x15 tag partByte .busy [] := by
  have hsome : s.resetReq.isSome = true := Option.isSome_iff_ne_none.mpr h
  unfold State.takeReset
  rw [if_neg (not_not_intro rfl), if_neg (by omega), if_pos hsome]
  rfl

/-- The part once every site has been stopped. -/
def State.resetStopped (s : State) : State := s.emptied.withSites allSites fun i => s.sites[i].resetStopped

/-- The RESET at the event it is taken. -/
def ResetReq.begun (full : Bool) (tag : Byte) (s : State) : ResetReq :=
  ⟨tag, full, .teardown, allSites, s.resetStopped.sites.map Site.state⟩

theorem State.beginReset_eq (h : ∀ i : SiteId, s.sites[i].stopsAlone) : s.beginReset full tag =
    forEach allSites State.resetSite (s.resetStopped.withReset (some (.begun full tag s))) := by
  have hstops : forEach allSites State.resetStop s.emptied = s.resetStopped :=
    forEach_resetStop (by decide) fun i _ => h i
  unfold State.beginReset ResetReq.begun
  rw [← hstops]
  rfl

theorem State.resetStopped_get (i : SiteId) : s.resetStopped.sites[i] = s.sites[i].resetStopped :=
  (State.withSites_get _ _).trans (if_pos (mem_allSites i))

theorem State.withSites_withSites (f g : SiteId → Site) : (s.withSites js f).withSites js g = s.withSites js g := by
  have hsites : (Vector.ofFn fun j => if j ∈ js then g j else (s.withSites js f).sites[j]) =
      Vector.ofFn fun j => if j ∈ js then g j else s.sites[j] := by
    refine congrArg Vector.ofFn (funext fun j => ?_)
    rw [State.withSites_get]
    split <;> rfl
  unfold State.withSites at hsites ⊢
  simp only [hsites]

/-- Every site ends at once. -/
theorem State.beginReset_all {f : SiteId → Site} (h : ∀ i : SiteId, s.sites[i].stopsAlone)
    (hf : ∀ i, s.resetStopped.endsAs i (f i)) : s.beginReset full tag =
      (s.emptied.withSites allSites f).resetTornDown ⟨tag, full, .teardown, [], Vector.ofFn fun j => (f j).state⟩ := by
  have hends (i : SiteId) : (s.resetStopped.withReset (some (.begun full tag s))).endsAs i (f i) := (hf i).of_eq rfl rfl rfl
  have hsites : (s.resetStopped.withReset (some (.begun full tag s))).withSites allSites f =
      (s.emptied.withSites allSites f).withReset (some (.begun full tag s)) :=
    congrArg (State.withReset _) (State.withSites_withSites _ f)
  rw [State.beginReset_eq h, forEach_resetSite_all rfl rfl rfl hends, hsites]
  rfl

theorem State.resetTornDown_run (h : q.full = false) : s.resetTornDown q = (s.withReset none).reply 0x15 q.tag 0xFF .ok
    ([0] ++ (allSites.map fun i => byte q.ends[i].code) ++ [0]) := by
  unfold State.resetTornDown
  rw [h, stateBytes_eq]
  rfl

end Sys2Proof.Machine
end


section
set_option Elab.async false
/-! # RESET at rest, with steps, with items to save, and with a STUCK route (O32) -/

namespace Sys2Proof.Machine

variable {s t u : State} {i : SiteId} {l : LaneId} {r : Route} {q : ResetReq} {tag : Byte} {full : Bool}

/-! ### The request (R183, R184) -/

theorem State.withReset_same {o : Option ResetReq} (h : s.resetReq = o) : s.withReset o = s := by
  subst h; rfl

theorem State.noBacklog_emptied (hr : s.ready) : s.arrive.emptied.noBacklog :=
  ⟨s.arrive_agenda.trans hr.2.2.1, congrArg Link.slots s.arrive_link, rfl, rfl⟩

/-- The command of a RESET. -/
def resetCommand (full : Bool) (tag : Byte) : Instr := if full then .resetFull tag 0xFF else .resetRun tag 0xFF

/-- The MODE byte of a RESET. -/
def resetMode (full : Bool) : Byte := if full then 1 else 0

theorem exec_resetCommand (full : Bool) (tag : Byte) (s : State) :
    exec (resetCommand full tag) s = request (.reset (resetMode full)) tag partByte s := by
  cases full <;> rfl

theorem State.takeReset_taken (full : Bool) (hq : s.resetReq = none) :
    s.arrive.takeRequest (.reset (resetMode full)) ⟨tag, partByte⟩ = s.arrive.beginReset full tag := by
  have hmode : (resetMode full).toNat ≤ 1 := by cases full <;> decide
  refine (State.takeReset_begins (resetMode full) hmode (by rw [State.arrive_resetReq]; exact hq)).trans ?_
  cases full <;> rfl

/-- A RESET that is answered at once. -/
theorem exec_reset_answered {data : List Byte} (full : Bool) (hr : s.ready) (hq : s.resetReq = none)
    (hu : s.arrive.beginReset full tag = u.reply 0x15 tag 0xFF .ok data) (ha : u.agenda = []) (hs : u.link.slots = []) :
    exec (resetCommand full tag) s = .next (u.answered 0x15 tag 0xFF .ok data) := by
  rw [exec_resetCommand]
  exact request_answered (r := .reset (resetMode full)) hr trivial ((State.takeReset_taken full hq).trans hu) ha hs

/-- A RESET that goes on. -/
theorem exec_reset_marked (full : Bool) (hr : s.ready) (hq : s.resetReq = none) (hu : s.arrive.beginReset full tag = u)
    (hb : u.noBacklog) : exec (resetCommand full tag) s = .next (u.marked 0x15 0xFF) := by
  rw [exec_resetCommand]
  exact request_marked (r := .reset (resetMode full)) hr trivial ((State.takeReset_taken full hq).trans hu) hb

/-- While a RESET is in flight another is refused (R183). -/
theorem exec_reset_busy (full : Bool) (hr : s.ready) (hq : s.resetReq ≠ none) :
    exec (resetCommand full tag) s = .next (s.arrive.answered 0x15 tag 0xFF .busy []) := by
  have hmode : (resetMode full).toNat ≤ 1 := by cases full <;> decide
  rw [exec_resetCommand]
  exact request_refused (r := .reset (resetMode full)) hr trivial
    (State.takeReset_busy (resetMode full) hmode (by rw [State.arrive_resetReq]; exact hq))

/-! ### Sites with steps, without routes and claims (R28) -/

/-- Each site goes on to a teardown with nothing to give up, and stops with nothing but its own. -/
def State.resetsAlone (s : State) : Prop :=
  (∀ i : SiteId, s.sites[i].tornByReset ∧ s.sites[i].abort = none ∧ s.sites[i].stopsAlone) ∧
    (∀ l : LaneId, s.lanes[l].route = none) ∧ ∀ p : PortId, s.ports[p].claim = none

theorem State.resetsAlone.endsAs (h : s.resetsAlone) (i : SiteId) :
    s.arrive.resetStopped.endsAs i s.sites[i].resetStopped.reset := by
  obtain ⟨hsites, hroutes, hclaims⟩ := h
  obtain ⟨htorn, habort, -⟩ := hsites i
  have hsite : s.arrive.resetStopped.sites[i] = s.sites[i].resetStopped := by
    rw [State.resetStopped_get]
    simp only [State.arrive_sites]
  rw [← hsite]
  refine State.endsAs_reset (by rw [hsite]; exact htorn) (by rw [hsite]; exact habort)
    (State.routeLanes_eq_nil fun l r hr => ?_) (State.routelessPorts_eq_nil fun p c hc => ?_)
  · have hnone : s.arrive.lanes[l].route = none := by simp only [State.arrive_lanes]; exact hroutes l
    exact absurd ((hr : s.arrive.lanes[l].route = some r).symm.trans hnone) nofun
  · have hnone : s.arrive.ports[p].claim = none := by simp only [State.arrive_ports]; exact hclaims p
    exact absurd ((hc : s.arrive.ports[p].claim = some c).symm.trans hnone) nofun

/-- The sites once a RESET has stopped and idled them. -/
def State.resetSites (s : State) : State :=
  s.arrive.emptied.withSites allSites fun i => s.sites[i].resetStopped.reset

theorem exec_resetRun_alone (hr : s.ready) (hq : s.resetReq = none) (h : s.resetsAlone) :
    exec (.resetRun tag 0xFF) s = .next ((s.resetSites.withReset none).answered 0x15 tag 0xFF .ok [0, 0, 0, 0, 0, 0]) := by
  have hstops (i : SiteId) : s.arrive.sites[i].stopsAlone := by simp only [State.arrive_sites]; exact (h.1 i).2.2
  refine exec_reset_answered false hr hq ((State.beginReset_all hstops h.endsAs).trans
    ((State.resetTornDown_run rfl).trans ?_)) (s.arrive_agenda.trans hr.2.2.1) (congrArg Link.slots s.arrive_link)
  refine congrArg (State.reply 0x15 tag 0xFF .ok · _) ?_
  simp only [Fin.getElem_fin, Vector.getElem_ofFn]
  rfl

/-! ### Phase 2 without STUCK routes, and the save (R73, R184) -/

theorem State.unstick_none (h : s.lanes[l].route = none) : s.unstick l = s := by
  unfold State.unstick Lane.routeIs
  rw [h]
  rfl

theorem State.stuckPhaseEnd_saves (hq : s.resetReq = some q) (hf : q.full = true) (hp : q.phase = .stuck)
    (hn : ∀ l : LaneId, s.lanes[l].route = none) : s.stuckPhaseEnd =
      (s.withReset (some { q with phase := .save })).takeSave .fullReset q.tag := by
  have hroutes : s.anyRoute = false := by
    unfold State.anyRoute
    exact List.any_eq_false.mpr fun l _ => by rw [hn l]; decide
  unfold State.stuckPhaseEnd State.resetSave
  simp only [hq, hf, hp, hroutes, decide_true, Bool.not_false, Bool.and_self, if_true, Option.map_some]
  rfl

theorem State.stuckPhaseEnd_waits (hr : s.lanes[l].route = some r) : s.stuckPhaseEnd = s := by
  have hroutes : s.anyRoute = true := List.any_eq_true.mpr ⟨l, mem_allLanes l, by rw [hr]; rfl⟩
  unfold State.stuckPhaseEnd
  rw [hroutes]
  split
  · rw [Bool.not_true, Bool.and_false]; rfl
  · rfl

theorem State.resetTornDown_full (h : q.full = true) : s.resetTornDown q =
    (forEach allLanes State.unstick (s.withReset (some { q with phase := .stuck }))).stuckPhaseEnd := if_pos h

/-- Without a route the reset goes on to its save at once (R184). -/
theorem State.resetTornDown_save (h : q.full = true) (hn : ∀ l : LaneId, s.lanes[l].route = none) :
    s.resetTornDown q = (s.withReset (some { q with phase := .save })).takeSave .fullReset q.tag := by
  have hfixed : forEach allLanes State.unstick (s.withReset (some { q with phase := .stuck })) =
      s.withReset (some { q with phase := .stuck }) := forEach_fixed fun l _ => State.unstick_none (hn l)
  rw [State.resetTornDown_full h, hfixed]
  exact State.stuckPhaseEnd_saves (q := { q with phase := .stuck }) rfl h rfl hn

/-- With nothing to save the FULL reset goes on to its REPLY (R184). -/
theorem State.takeSave_replies (hq : s.resetReq = some q) (hd : ∀ it : ItemId, s.store.differs[it] = false) :
    s.takeSave .fullReset q.tag = (s.withReset (some { q with phase := .reply })).replyWith ⟨0x15, q.tag, 0xFF, .ok,
      1 :: (allSites.map fun j => byte s.sites[j].state.code) ++ [0], true⟩ := by
  rw [State.takeSave_nothing _ _ (State.saveList_eq_nil hd), State.answerReq_fullReset q.tag [] hq]
  rfl

/-! ### Sites that stay as they are (R183, R184) -/

theorem map_state_ofFn (v : Vector Site 4) : (Vector.ofFn fun j : SiteId => v[j].state) = v.map Site.state := by
  refine Vector.ext fun j hj => ?_
  simp

theorem State.withSites_same (js : List SiteId) : s.withSites js (fun j => s.sites[j]) = s := by
  have hsites : (Vector.ofFn fun j : SiteId => if j ∈ js then s.sites[j] else s.sites[j]) = s.sites := by
    simp
  unfold State.withSites
  rw [hsites]

/-- Every site ends with the record it has. -/
theorem State.beginReset_same (h : ∀ i : SiteId, s.sites[i].running = none)
    (hf : ∀ i : SiteId, s.arrive.resetStopped.endsAs i s.sites[i]) : s.arrive.beginReset full tag =
      s.arrive.emptied.resetTornDown ⟨tag, full, .teardown, [], s.sites.map Site.state⟩ := by
  have hstops (i : SiteId) : s.arrive.sites[i].stopsAlone := .inl (by simp only [State.arrive_sites]; exact h i)
  have hsites : s.arrive.emptied.sites = s.sites := s.arrive_sites
  rw [State.beginReset_all hstops hf, map_state_ofFn, ← hsites, State.withSites_same]

/-- The record of a site with nothing but its reach. -/
def Site.bare (x : Site) : Site :=
  { Site.fresh with reach := x.reach, retainedFlag := x.retainedFlag, retained := x.retained }

theorem State.atRest.resetsAlone (h : s.atRest) : s.resetsAlone := by
  obtain ⟨hsites, hroutes, hclaims, -⟩ := h
  refine ⟨fun i => ?_, hroutes, hclaims⟩
  rw [hsites i]
  exact ⟨.inl rfl, rfl, .inl rfl⟩

theorem State.atRest.states (h : s.atRest) : s.sites.map Site.state = Vector.replicate 4 .idle := by
  refine Vector.ext fun j hj => ?_
  have hidle : s.sites[(⟨j, hj⟩ : SiteId)].state = .idle := by rw [h.1 ⟨j, hj⟩]; rfl
  simpa using hidle

theorem State.atRest.beginReset (h : s.atRest) : s.arrive.beginReset full tag =
    s.arrive.emptied.resetTornDown ⟨tag, full, .teardown, [], Vector.replicate 4 .idle⟩ := by
  rw [← h.states]
  refine State.beginReset_same (fun i => by rw [h.1 i]; rfl) fun i => ?_
  have hsame : s.sites[i].resetStopped.reset = s.sites[i] := by rw [h.1 i]; rfl
  have hends := h.resetsAlone.endsAs i
  rwa [hsame] at hends

end Sys2Proof.Machine
end


section
set_option Elab.async false
/-! # RESET with a route: READY, STUCK and OPENING (O32) -/

namespace Sys2Proof.Machine

variable {s t u : State} {i : SiteId} {l : LaneId} {r : Route} {q : ResetReq} {tag : Byte} {full : Bool} {js : List SiteId}

/-! ### Sites that are bare but for one (R89) -/

/-- The routes and the claims are those of one site, with a route on one lane. -/
structure State.OneOwner (s : State) (i : SiteId) (l : LaneId) (r : Route) : Prop where
  others : ∀ k : LaneId, k ≠ l → s.lanes[k].route = none
  route : s.lanes[l].route = some r
  site : r.site = i
  claims : ∀ p : PortId, ∀ c ∈ s.ports[p].claim, c.site = i

/-- Each lane stands once among the lanes. -/
theorem allLanes_split (l : LaneId) :
    ∃ as bs : List LaneId, allLanes = as ++ l :: bs ∧ (∀ k ∈ as, k ≠ l) ∧ ∀ k ∈ bs, k ≠ l := by
  obtain ⟨as, bs, hsplit⟩ := List.append_of_mem (mem_allLanes l)
  have hnodup : (as ++ l :: bs).Nodup := hsplit ▸ (by decide : allLanes.Nodup)
  refine ⟨as, bs, hsplit, ?_, ?_⟩
  · rintro k hk rfl
    exact (List.nodup_append.mp hnodup).2.2 k hk k List.mem_cons_self rfl
  · rintro k hk rfl
    exact (List.nodup_cons.mp (List.nodup_append.mp hnodup).2.1).1 hk

theorem State.OneOwner.of_eq (h : s.OneOwner i l r) (hl : t.lanes = s.lanes) (hp : t.ports = s.ports) : t.OneOwner i l r := by
  obtain ⟨hothers, hroute, hsite, hclaims⟩ := h
  refine ⟨fun k hk => ?_, ?_, hsite, fun p => ?_⟩
  · simp only [hl]; exact hothers k hk
  · simp only [hl]; exact hroute
  · simp only [hp]; exact hclaims p

theorem State.OneOwner.route_iff (h : s.OneOwner i l r) {k : LaneId} {x : Route} :
    s.lanes[k].route = some x ↔ k = l ∧ x = r := by
  refine ⟨fun hx => ?_, fun ⟨hk, hx⟩ => by rw [hk, hx]; exact h.route⟩
  by_cases hk : k = l
  · subst hk
    exact ⟨rfl, Option.some.inj (hx.symm.trans h.route)⟩
  · exact absurd (hx.symm.trans (h.others k hk)) nofun

/-- The owner's route changes its state. -/
theorem State.OneOwner.reroute {f : Lane → Lane} {x : Route} {g : Site → Site} (h : s.OneOwner i l r)
    (hf : (f s.lanes[l]).route = some x) (hx : x.site = r.site) : ((s.modSite i g).modLane l f).OneOwner i l x := by
  obtain ⟨hothers, hroute, hsite, hclaims⟩ := h
  refine ⟨fun k hk => ?_, ?_, hx.trans hsite, hclaims⟩
  · rw [State.modLane_lanes, upd_get, if_neg hk.symm]
    exact hothers k hk
  · rw [State.modLane_get]
    exact hf

theorem State.OneOwner.routeLanes_other (h : s.OneOwner i l r) {j : SiteId} (hj : j ≠ i) : s.routeLanes j = [] :=
  State.routeLanes_eq_nil fun k x hx e => hj (by rw [← e, (h.route_iff.mp hx).2, h.site])

theorem State.OneOwner.routelessPorts_other (h : s.OneOwner i l r) {j : SiteId} (hj : j ≠ i) : s.routelessPorts j = [] :=
  State.routelessPorts_eq_nil fun p c hc e => hj (by rw [← e, h.claims p c hc])

theorem State.OneOwner.holdsRoute (h : s.OneOwner i l r) : s.holdsRoute i = true :=
  State.holdsRoute_iff.mpr ⟨l, r, h.route, h.site⟩

theorem State.OneOwner.routeLanes (h : s.OneOwner i l r) : s.routeLanes i = [l] := by
  obtain ⟨as, bs, hsplit, has, hbs⟩ := allLanes_split l
  have hnone (k : LaneId) (hk : k ≠ l) : ¬s.lanes[k].ownedBy i = true := by
    unfold Lane.ownedBy
    rw [h.others k hk]
    exact Bool.false_ne_true
  have hown : s.lanes[l].ownedBy i = true := by
    unfold Lane.ownedBy
    rw [h.route]
    exact decide_eq_true h.site
  have hbefore : (as.filter fun k => s.lanes[k].ownedBy i) = [] := List.filter_eq_nil_iff.mpr fun k hk => hnone k (has k hk)
  have hafter : (bs.filter fun k => s.lanes[k].ownedBy i) = [] := List.filter_eq_nil_iff.mpr fun k hk => hnone k (hbs k hk)
  unfold State.routeLanes
  rw [hsplit, List.filter_append, hbefore, List.filter_cons, hafter]
  exact if_pos hown

/-- A bare site ends with the record it has, beside the one that owns what there is. -/
theorem State.OneOwner.endsAs (h : s.OneOwner i l r) {j : SiteId} (hj : j ≠ i) (hbare : s.sites[j] = s.sites[j].bare) :
    s.endsAs j s.sites[j] := by
  have hends := State.endsAs_reset (s := s) (i := j) (by rw [hbare]; exact .inl rfl) (by rw [hbare]; rfl)
    (h.routeLanes_other hj) (h.routelessPorts_other hj)
  have hsame : s.sites[j].reset = s.sites[j] := by rw [hbare]; rfl
  rwa [hsame] at hends

theorem State.emptied_oneOwner (h : s.OneOwner i l r) : s.arrive.resetStopped.OneOwner i l r :=
  h.of_eq s.arrive_lanes s.arrive_ports

/-! ### Phase 2 (R73) -/

/-- The only route in the table, as phase 2 finds it. -/
theorem forEach_unstick_one {f : Lane → Lane} (h : ∀ k : LaneId, k ≠ l → s.lanes[k].route = none)
    (hl : s.unstick l = s.modLane l f) : forEach allLanes State.unstick s = s.modLane l f := by
  obtain ⟨as, bs, hsplit, has, hbs⟩ := allLanes_split l
  rw [hsplit, forEach_append, forEach_fixed fun k hk => State.unstick_none (h k (has k hk)), forEach_cons, hl]
  refine forEach_fixed fun k hk => State.unstick_none ?_
  rw [State.modLane_lanes, upd_get, if_neg (hbs k hk).symm]
  exact h k (hbs k hk)

/-- A STUCK lane behind a quiet wait without a timer (R73). -/
def Lane.unsticks (x : Lane) : Lane := { x with quiet := some ⟨.unstick, none⟩ }

/-- The lane of a STUCK route that phase 2 opens: at once where it reads quiet, else behind a quiet wait (R73). -/
def Lane.unstuck (live : Bool) (r : Route) (x : Lane) : Lane := if live then x.unsticks else x.opensRoute r

theorem Lane.unstuck_route (live : Bool) {x : Lane} (hr : x.route = some r) : ∃ y, (x.unstuck live r).route = some y := by
  cases live with
  | true => exact ⟨r, hr⟩
  | false => exact ⟨_, rfl⟩

theorem State.unstick_stuck (hr : s.lanes[l].route = some r) (hst : r.state = .stuck) (hc : s.sites[r.site].clear = none)
    (hphase : s.inPhase .stuck = true) : s.unstick l = s.modLane l (Lane.unstuck (s.isLive l) r) := by
  have hstuck : s.lanes[l].routeIs .stuck = true := by unfold Lane.routeIs; rw [hr]; exact decide_eq_true hst
  have hclearing : s.clearing l = false := by unfold State.clearing; simp only [hr, hc]; rfl
  have hunbounded : s.unbounded l = true := by unfold State.unbounded; rw [hphase, hclearing]; rfl
  unfold State.unstick
  rw [hstuck, hclearing]
  cases hlive : s.isLive l with
  | true =>
    refine (if_pos rfl).trans ((if_pos rfl).trans ?_)
    unfold State.startQuiet
    rw [hunbounded]
    rfl
  | false => exact State.enterOpening_of_quiet hr (by rw [hst]; decide) hlive

/-- Phase 2 finds one route, STUCK, and waits for it (R73). -/
theorem State.resetTornDown_unsticks (hf : q.full = true) (ho : ∀ k : LaneId, k ≠ l → s.lanes[k].route = none)
    (hr : s.lanes[l].route = some r) (hst : r.state = .stuck) (hc : s.sites[r.site].clear = none) : s.resetTornDown q =
      (s.withReset (some { q with phase := .stuck })).modLane l (Lane.unstuck (s.isLive l) r) := by
  have hphase : (s.withReset (some { q with phase := .stuck })).inPhase .stuck = true := by
    show (q.full && decide (ResetPhase.stuck = .stuck)) = true
    rw [hf]
    rfl
  have hall := forEach_unstick_one (s := s.withReset (some { q with phase := .stuck })) ho
    (State.unstick_stuck hr hst hc hphase)
  obtain ⟨y, hy⟩ := Lane.unstuck_route (s.isLive l) hr
  rw [State.resetTornDown_full hf, hall]
  exact State.stuckPhaseEnd_waits (l := l) (r := y) (by rw [State.modLane_get]; exact hy)

/-! ### A FULL reset of a part with a SAFE site (R73, R88) -/

theorem exec_resetFull_safe {f : Failure} (hr : s.ready) (hq : s.resetReq = none) (h : s.OneOwner i l r)
    (hst : r.state = .stuck) (hsites : ∀ j : SiteId, s.sites[j] = { Site.fresh with
      reach := s.sites[j].reach, retainedFlag := s.sites[j].retainedFlag, retained := s.sites[j].retained,
      state := if j = i then .safe else .idle, stopCause := if j = i then some f else none }) :
    exec (.resetFull tag 0xFF) s =
      .next (((s.arrive.emptied.withReset (some ⟨tag, true, .stuck, [], s.sites.map Site.state⟩)).modLane l
        (Lane.unstuck (s.isLive l) r)).marked 0x15 0xFF) := by
  have hstopped (j : SiteId) : s.arrive.resetStopped.sites[j] = s.sites[j] := by
    rw [State.resetStopped_get]
    simp only [State.arrive_sites]
    rw [hsites j]
    rfl
  have howner := State.emptied_oneOwner h
  have hends (j : SiteId) : s.arrive.resetStopped.endsAs j s.sites[j] := by
    rw [← hstopped j]
    by_cases hj : j = i
    · subst hj
      refine State.endsAs_safe ?_ ?_ howner.holdsRoute
      · rw [hstopped, hsites j]; exact if_pos rfl
      · rw [hstopped, hsites j]; rfl
    · refine howner.endsAs hj ?_
      rw [hstopped, hsites j]
      simp only [if_neg hj]
      rfl
  have hempty : s.arrive.emptied.OneOwner i l r := h.of_eq s.arrive_lanes s.arrive_ports
  have hclear : s.arrive.emptied.sites[r.site].clear = none := by
    show s.arrive.sites[r.site].clear = none
    simp only [State.arrive_sites]
    rw [hsites r.site]
    rfl
  refine exec_reset_marked true hr hq ((State.beginReset_same (fun j => by rw [hsites j]; rfl) hends).trans
    ((State.resetTornDown_unsticks rfl hempty.others hempty.route hst hclear).trans ?_)) (by exact State.noBacklog_emptied hr)
  have hlive : s.arrive.emptied.isLive l = s.isLive l := State.arrive_isLive
  rw [hlive]

/-! ### A READY route, which the RESET waits for (R85, R86) -/

/-- Bare sites end as they are, while the RESET waits for the one that owns what there is. -/
theorem forEach_resetSite_bare (hn : js.Nodup) (hq : s.resetReq = some q) (hp : q.phase = .teardown)
    (hjs : ∀ j ∈ js, j ∈ q.waiting) (hi : i ∈ q.waiting) (hijs : i ∉ js) (h : s.OneOwner i l r)
    (hsites : ∀ j ∈ js, s.sites[j] = s.sites[j].bare) (hends : q.ends = Vector.replicate 4 .idle) :
    forEach js State.resetSite s =
      s.withReset (some { q with waiting := q.waiting.filter fun j => decide (j ∉ js) }) := by
  have hne (j : SiteId) (hj : j ∈ js) : j ≠ i := fun e => hijs (e ▸ hj)
  have hstates : (Vector.ofFn fun j : SiteId => if j ∈ js then s.sites[j].state else q.ends[j]) = q.ends := by
    refine Vector.ext fun j hj => ?_
    rw [Vector.getElem_ofFn]
    split
    · next hmem =>
      rw [hsites _ hmem]
      simp only [hends, Vector.getElem_replicate]
      rfl
    · rfl
  rw [forEach_resetSite_left (f := fun j => s.sites[j]) hn hq hp hjs hi hijs fun j hj => h.endsAs (hne j hj) (hsites j hj)]
  unfold State.sitesEnded ResetReq.ended
  rw [State.withSites_same, hstates]

/-- The four sites, split at one of them. -/
theorem allSites_split (i : SiteId) : allSites = (allSites.filter fun j => decide (j < i)) ++ i ::
    (allSites.filter fun j => decide (i < j)) := by
  revert i; decide

theorem allSites_left (i : SiteId) : ((allSites.filter fun j => decide (j ∉ allSites.filter fun j => decide (j < i))).filter
    fun j => decide (j ∉ allSites.filter fun j => decide (i < j))) = [i] := by
  revert i; decide

/-- Every other site is bare; the RESET waits for the site whose READY route it opens. -/
theorem forEach_resetSite_ready (hq : s.resetReq = some q) (hp : q.phase = .teardown) (hw : q.waiting = allSites)
    (hends : q.ends = Vector.replicate 4 .idle) (h : s.OneOwner i l r) (hst : r.state = .ready)
    (hsites : ∀ j : SiteId, s.sites[j] = s.sites[j].bare) (hlive : s.isLive l = false) (hports : s.routelessPorts i = []) :
    forEach allSites State.resetSite s = ((s.withReset (some { q with waiting := [i] })).modSite i Site.resetBegun).modLane l
      (Lane.opensRoute r) := by
  generalize hbefore : (allSites.filter fun j => decide (j < i)) = before
  generalize hafter : (allSites.filter fun j => decide (i < j)) = after
  have hsplit : allSites = before ++ i :: after := by rw [← hbefore, ← hafter]; exact allSites_split i
  have hnodup : (before ++ i :: after).Nodup := hsplit ▸ (by decide : allSites.Nodup)
  obtain ⟨-, -, hdisjoint⟩ := List.nodup_append.mp hnodup
  have hib : i ∉ before := by rw [← hbefore]; simp
  have hia : i ∉ after := by rw [← hafter]; simp
  have hwaits (j : SiteId) : j ∈ q.waiting := hw ▸ mem_allSites j
  have hleft : (q.waiting.filter fun j => decide (j ∉ before)).filter (fun j => decide (j ∉ after)) = [i] := by
    rw [hw, ← hbefore, ← hafter]
    exact allSites_left i
  have hfirst := forEach_resetSite_bare (List.nodup_append.mp hnodup).1 hq hp (fun j _ => hwaits j) (hwaits i) hib h
    (fun j _ => hsites j) hends
  generalize hq' : ({ q with waiting := q.waiting.filter fun j => decide (j ∉ before) } : ResetReq) = q' at hfirst
  generalize hu : (((s.withReset (some q')).modSite i Site.resetBegun).modLane l (Lane.opensRoute r)) = u
  have hsite : (s.withReset (some q')).resetSite i = u := by
    rw [State.resetSite_torn (by show s.sites[i].tornByReset; rw [hsites i]; exact .inl rfl), ← hu]
    exact State.beginTeardown_opens (s := (s.withReset (some q')).modSite i Site.resetBegun) h.routeLanes hports h.route hst
      hlive
  have howner : u.OneOwner i l { r with state := .opening } := by
    rw [← hu]
    exact (h.of_eq rfl rfl : (s.withReset (some q')).OneOwner i l r).reroute rfl rfl
  have hwaitsOn (j : SiteId) (hj : j ∉ before) : j ∈ q'.waiting := by
    rw [← hq']
    exact List.mem_filter.mpr ⟨hwaits j, decide_eq_true hj⟩
  have hnotBefore (j : SiteId) (hj : j ∈ after) : j ∉ before := fun hb => hdisjoint j hb j (List.mem_cons_of_mem i hj) rfl
  have hother (j : SiteId) (hj : j ∈ after) : u.sites[j] = s.sites[j] := by
    rw [← hu]
    exact State.modSite_others (s := s.withReset (some q')) fun e => hia (e ▸ hj)
  have hlast := forEach_resetSite_bare (s := u) (q := q') (List.nodup_cons.mp (List.nodup_append.mp hnodup).2.1).2
    (by rw [← hu]; rfl) (by rw [← hq']; exact hp) (fun j hj => hwaitsOn j (hnotBefore j hj)) (hwaitsOn i hib) hia howner
    (fun j hj => by rw [hother j hj]; exact hsites j) (by rw [← hq']; exact hends)
  rw [hsplit, forEach_append, hfirst, forEach_cons, hsite, hlast, ← hu, ← hq', ← hleft]
  rfl

theorem exec_reset_ready (full : Bool) (hr : s.ready) (hq : s.resetReq = none) (h : s.OneOwner i l r)
    (hst : r.state = .ready) (hsites : ∀ j : SiteId, s.sites[j] = s.sites[j].bare) (hlive : s.isLive l = false)
    (hports : s.routelessPorts i = []) : exec (resetCommand full tag) s =
      .next ((((s.arrive.emptied.withReset (some ⟨tag, full, .teardown, [i], Vector.replicate 4 .idle⟩)).modSite i
        Site.resetBegun).modLane l (Lane.opensRoute r)).marked 0x15 0xFF) := by
  have hsame (j : SiteId) : s.arrive.sites[j] = s.arrive.sites[j].bare := by
    simp only [State.arrive_sites]
    exact hsites j
  have hstopped : s.arrive.resetStopped = s.arrive.emptied := by
    refine (State.withSites_congr fun j _ => ?_).trans (State.withSites_same (s := s.arrive.emptied) allSites)
    show s.arrive.sites[j].resetStopped = s.arrive.sites[j]
    rw [hsame j]
    rfl
  have hstates : s.arrive.resetStopped.sites.map Site.state = Vector.replicate 4 .idle := by
    refine Vector.ext fun j hj => ?_
    have hidle : s.arrive.sites[(⟨j, hj⟩ : SiteId)].state = .idle := by rw [hsame ⟨j, hj⟩]; rfl
    rw [hstopped, Vector.getElem_map, Vector.getElem_replicate]
    exact hidle
  have hempty : (s.arrive.emptied.withReset (some (.begun full tag s.arrive))).OneOwner i l r :=
    h.of_eq s.arrive_lanes s.arrive_ports
  have hportless : s.arrive.emptied.routelessPorts i = [] :=
    (State.routelessPorts_of_eq s.arrive_lanes s.arrive_ports i).trans hports
  have hbegin : s.arrive.beginReset full tag = ((s.arrive.emptied.withReset (some ⟨tag, full, .teardown, [i],
      Vector.replicate 4 .idle⟩)).modSite i Site.resetBegun).modLane l (Lane.opensRoute r) := by
    rw [State.beginReset_eq fun j => .inl (by rw [hsame j]; rfl), hstopped, ← hstates]
    exact forEach_resetSite_ready (q := .begun full tag s.arrive) rfl rfl rfl hstates hempty hst hsame
      (State.arrive_isLive.trans hlive) hportless
  exact exec_reset_marked full hr hq hbegin (State.noBacklog_emptied hr)

end Sys2Proof.Machine
end


section
set_option Elab.async false
/-! # The last route of a site leaves the table in a RESET (O32) -/

namespace Sys2Proof.Machine

variable {s u : State} {i : SiteId} {k l : LaneId} {r x : Route} {q : ResetReq} {f : Failure}

/-- The only route of a site is gone. -/
theorem State.RouteGone.routeLanes_nil (g : s.RouteGone i l u) (hl : s.routeLanes i = [l]) : u.routeLanes i = [] :=
  State.routeLanes_eq_nil fun k y hy hi => by
    obtain ⟨hk, hroute⟩ := (g.routes k y hi).mp hy
    have hmem : k ∈ s.routeLanes i := State.mem_routeLanes.mpr ⟨y, hroute, hi⟩
    rw [hl] at hmem
    exact hk (List.mem_singleton.mp hmem)

/-! ### A RUN reset (R28, R88, R183) -/

/-- The last site that a RUN reset waits for brings its REPLY. -/
theorem State.tornDown_last (hq : u.resetReq = some q) (hp : q.phase = .teardown) (hw : q.waiting = [i]) : u.tornDown i =
    (u.withReset none).reply 0x15 q.tag 0xFF .ok
      (0 :: (allSites.map fun j => byte (if j = i then u.sites[i].state else q.ends[j]).code) ++ [0]) := by
  have hlast : ¬∃ j ∈ q.waiting, j ≠ i := by rw [hw]; simp
  have hbytes : ((q.ends.set i u.sites[i].state).toList.map fun st => byte st.code) =
      allSites.map fun j => byte (if j = i then u.sites[i].state else q.ends[j]).code := by
    refine (stateBytes_eq (q.ends.set i u.sites[i].state)).trans (List.map_congr_left fun j _ => ?_)
    simp only [Fin.getElem_fin, Vector.getElem_set, Fin.val_inj, @eq_comm _ i j]
  unfold State.tornDown
  simp only [hq, hp, hw ▸ List.mem_singleton.mpr rfl, hlast, and_self, if_true, if_false, hbytes]
  rfl

/-! ### A FULL reset in phase 2 (R73) -/

/-- A SAFE site whose last route has left the table enters IDLE (R73). -/
theorem State.afterRemoval_opened (hr : u.sites[i].running = none) (hq : u.resetReq = some q) (hf : q.full = true)
    (hp : q.phase = .stuck) (hst : u.sites[i].state = .safe) (hc : u.sites[i].clear = none) (hl : u.routeLanes i = []) :
    u.afterRemoval i = (u.modSite i fun x => { x with state := .idle, stopCause := none }).stuckPhaseEnd := by
  have hactive : u.active i = none := by
    unfold State.active
    rw [hr]
    cases u.sites[i].queue <;> rfl
  have hphase : u.inPhase .stuck = true := by
    unfold State.inPhase
    simp only [hq, hf, hp]
    rfl
  have htear : u.tearing i = false := State.tearing_eq_false (by rw [hst]; decide) (by rw [hst]; decide)
  unfold State.afterRemoval
  simp only [hactive, State.checkTeardown_idle htear, State.checkClear_none hc, hphase, hst, State.holdsRoute_eq_false hl,
    decide_true, Bool.not_false, Bool.and_self, if_true]

/-! ### A FULL reset at the end of phase 1 (R88, R184) -/

/-- The site that enters SAFE at the event that ends phase 1, and phase 2 begun with a route STUCK on another lane. -/
def State.lastSafe (i : SiteId) (f : Failure) (q : ResetReq) (k : LaneId) (x : Route) (u : State) : State :=
  (((u.withReset (some { q with phase := .stuck, waiting := [], ends := q.ends.set i .safe })).modLane k
    (Lane.unstuck (u.isLive k) x)).modSite i fun y => { y with state := .safe, stopCause := some f, teardown := none }).notice
      (.siteState i .safe (some f))

theorem State.noBacklog.lastSafe (h : u.noBacklog) (i : SiteId) (f : Failure) (q : ResetReq) (k : LaneId) (x : Route) :
    (u.lastSafe i f q k x).noBacklog :=
  State.noBacklog.notice (by exact h) _

theorem State.enterSafe_frame {β : Type} (g : State → β)
    (hsite : ∀ (t : State) (h : Site → Site), g (t.modSite i h) = g t := by exact fun _ _ => rfl)
    (hlink : ∀ (t : State) (h : Link → Link), g (t.modLink h) = g t := by exact fun _ _ => rfl) :
    g (u.enterSafe i f) = g u := by
  unfold State.enterSafe
  rw [State.notice_eq, hlink, hsite]

/-- Where phase 2 leaves another site's STUCK route, the site that ends phase 1 stays SAFE with its fault (R88). -/
theorem State.afterRemoval_lastSafe (hr : u.sites[i].running = none) (hq : u.resetReq = some q) (hf : q.full = true)
    (hp : q.phase = .teardown) (hw : q.waiting = [i]) (hst : u.sites[i].state = .safing)
    (ht : u.sites[i].teardown = some (.fault f)) (hc : u.sites[i].clear = none) (hl : u.routeLanes i = [])
    (ha : u.agenda = []) (hx : u.lanes[k].route = some x) (hstuck : x.state = .stuck)
    (hxc : u.sites[x.site].clear = none) (ho : ∀ m : LaneId, m ≠ k → u.lanes[m].route = none) :
    u.afterRemoval i = (u.lastSafe i f q k x).push (.closure i .ended) := by
  have hactive : u.active i = none := by
    unfold State.active
    rw [hr]
    cases u.sites[i].queue <;> rfl
  have hphase : u.inPhase .stuck = false := by
    unfold State.inPhase
    simp only [hq, hp]
    rw [decide_eq_false (by decide), Bool.and_false]
  have hagenda : (u.enterSafe i f).agenda = [] := (State.enterSafe_frame State.agenda).trans ha
  have hlanes : (u.enterSafe i f).lanes = u.lanes := State.enterSafe_frame State.lanes
  have hothers (m : LaneId) (hm : m ≠ k) : (u.enterSafe i f).lanes[m].route = none := by simp only [hlanes]; exact ho m hm
  have hroute : (u.enterSafe i f).lanes[k].route = some x := by simp only [hlanes]; exact hx
  have hstate : ((u.enterSafe i f).push (.closure i .ended)).sites[i].state = .safe := by
    show (u.enterSafe i f).sites[i].state = .safe
    rw [State.enterSafe_site]
  have hclear (j : SiteId) : (u.enterSafe i f).sites[j].clear = u.sites[j].clear := by
    unfold State.enterSafe
    rw [State.notice_sites, State.modSite_sites, upd_get]
    split <;> rfl
  have hend : ((u.enterSafe i f).push (.closure i .ended)).siteEnded i =
      (u.lastSafe i f q k x).push (.closure i .ended) := by
    rw [State.siteEnded_last (s := (u.enterSafe i f).push (.closure i .ended)) (q := q)
        ((State.enterSafe_frame State.resetReq).trans hq) hp hw, hstate,
      State.resetTornDown_unsticks (s := (u.enterSafe i f).push (.closure i .ended)) (l := k) (r := x)
        (q := { q with waiting := [], ends := q.ends.set i .safe }) hf hothers hroute hstuck ((hclear x.site).trans hxc)]
    unfold State.enterSafe State.lastSafe
    rw [State.notice_eq, State.notice_eq]
    rfl
  have htorn : u.checkTeardown i = (u.lastSafe i f q k x).push (.closure i .ended) := by
    rw [← hend, ← State.noteClosure_calm hagenda]
    unfold State.checkTeardown
    simp only [State.tearing_of (.inr hst), State.allStuck_none hl, Bool.and_self, if_true, ht]
  have hclearLast : ((u.lastSafe i f q k x).push (.closure i .ended)).sites[i].clear = none := by
    show (u.lastSafe i f q k x).sites[i].clear = none
    unfold State.lastSafe
    simp only [State.notice_sites, State.modSite_get]
    exact hc
  have hleft : ∃ y, ((u.lastSafe i f q k x).push (.closure i .ended)).lanes[k].route = some y := by
    obtain ⟨y, hy⟩ := Lane.unstuck_route (u.isLive k) hx
    refine ⟨y, ?_⟩
    show (u.lastSafe i f q k x).lanes[k].route = some y
    unfold State.lastSafe
    simp only [State.notice_lanes]
    exact (congrArg Lane.route (State.modLane_get _ _ _)).trans hy
  obtain ⟨y, hy⟩ := hleft
  unfold State.afterRemoval
  simp only [hactive, htorn, State.checkClear_none hclearLast, hphase, Bool.false_and, Bool.false_eq_true, if_false]
  exact State.stuckPhaseEnd_waits hy

end Sys2Proof.Machine
end


section
set_option Elab.async false
/-! # RESET (O32) -/

namespace Sys2Proof.Machine

variable {s u : State} {i : SiteId} {k l : LaneId} {r x : Route} {q : ResetReq} {f : Failure} {tag : Byte} {t : Timer}

/-! ### At rest (R183, R184) -/

theorem exec_resetRun_rest (hr : s.ready) (h : s.atRest) :
    exec (.resetRun tag 0xFF) s = .next (s.arrive.emptied.answered 0x15 tag 0xFF .ok [0, 0, 0, 0, 0, 0]) := by
  have hsites (j : SiteId) : s.sites[j].resetStopped.reset = s.arrive.emptied.sites[j] := by
    show _ = s.arrive.sites[j]
    simp only [State.arrive_sites]
    rw [h.1 j]
    rfl
  have hsame : s.resetSites.withReset none = s.arrive.emptied := by
    unfold State.resetSites
    rw [State.withSites_congr fun j _ => hsites j, State.withSites_same]
    exact State.withReset_same (s.arrive_resetReq.trans h.2.2.2)
  rw [← hsame]
  exact exec_resetRun_alone hr h.2.2.2 h.resetsAlone

/-- A FULL reset at its save. -/
def State.saving (tag : Byte) (s : State) : State :=
  s.arrive.emptied.withReset (some ⟨tag, true, .save, [], Vector.replicate 4 .idle⟩)

theorem exec_resetFull_saves (hr : s.ready) (h : s.atRest) (hu : (s.saving tag).takeSave .fullReset tag = u)
    (hb : u.noBacklog) : exec (.resetFull tag 0xFF) s = .next (u.marked 0x15 0xFF) := by
  have hroutes (l : LaneId) : s.arrive.emptied.lanes[l].route = none := by
    show s.arrive.lanes[l].route = none
    simp only [State.arrive_lanes]
    exact h.2.1 l
  exact exec_reset_marked true hr h.2.2.2 (h.beginReset.trans ((State.resetTornDown_save rfl hroutes).trans hu)) hb

theorem stateBytes_map (v : Vector Site 4) : stateBytes (v.map Site.state) = allSites.map fun j => byte v[j].state.code := by
  rw [stateBytes_eq]
  simp

/-- With nothing to save the FULL reset goes on to its REPLY (R184). -/
theorem exec_resetFull_replies (hr : s.ready) (h : s.atRest) (hd : ∀ it : ItemId, s.store.differs[it] = false) :
    exec (.resetFull tag 0xFF) s =
      .next (((s.arrive.emptied.withReset (some ⟨tag, true, .reply, [], Vector.replicate 4 .idle⟩)).replyWith
        ⟨0x15, tag, 0xFF, .ok, [1, 0, 0, 0, 0, 0], true⟩).marked 0x15 0xFF) := by
  have hdiffers (it : ItemId) : (s.saving tag).store.differs[it] = false := by
    show s.arrive.store.differs[it] = false
    rw [State.arrive_store]
    exact hd it
  have hstates : (allSites.map fun j => byte (s.saving tag).sites[j].state.code) = [0, 0, 0, 0] := by
    have hsites : (s.saving tag).sites = s.sites := s.arrive_sites
    rw [← stateBytes_map, hsites, h.states]
    rfl
  have hreplies := State.takeSave_replies (s := s.saving tag) (q := ⟨tag, true, .save, [], Vector.replicate 4 .idle⟩) rfl
    hdiffers
  rw [hstates] at hreplies
  exact exec_resetFull_saves hr h hreplies (by exact State.noBacklog_emptied hr)

theorem State.saving_saveList : (s.saving tag).saveList = s.saveList := State.arrive_saveList (s := s)

theorem State.saving_store : (s.saving tag).store = s.store := s.arrive_store

/-- While a write is in flight the save list joins the pending-write set (R179). -/
theorem exec_resetFull_busy (hr : s.ready) (h : s.atRest) (hlist : s.saveList ≠ []) (hf : s.store.inFlight ≠ none) :
    exec (.resetFull tag 0xFF) s = .next (((s.saving tag).modStore fun t => { t with
      reqs := t.reqs ++ [⟨.fullReset, tag, []⟩], awaits := t.awaits ++ s.saveList.map fun it => ⟨.fullReset, it, false⟩,
      pendingWrites := t.pendingWrites ++ s.saveList.filter fun it => decide (it ∉ t.pendingWrites) }).marked 0x15 0xFF) := by
  have htake := State.takeSave_busy (s := s.saving tag) .fullReset tag (by rw [State.saving_saveList]; exact hlist)
    (by rw [State.saving_store]; exact hf)
  rw [State.saving_saveList] at htake
  exact exec_resetFull_saves hr h htake (by exact State.noBacklog_emptied hr)

/-- On an idle store the write of the first item begins (R177, R179). -/
theorem exec_resetFull_idle {it : ItemId} {rest : List ItemId} (hr : s.ready) (h : s.atRest)
    (hlist : s.saveList = it :: rest) (hf : s.store.inFlight = none) (hp : s.store.pendingWrites = [])
    (ha : s.store.awaits = []) : ∃ t : State, exec (.resetFull tag 0xFF) s = .next (t.marked 0x15 0xFF) ∧
      t.store = { s.store with
        inFlight := some ⟨s.itemContent it, false⟩, pendingWrites := rest, reqs := s.store.reqs ++ [⟨.fullReset, tag, []⟩],
        awaits := ⟨.fullReset, it, true⟩ :: rest.map fun k => ⟨.fullReset, k, false⟩ } ∧
      t.resetReq = (s.saving tag).resetReq ∧ t.link = (s.saving tag).link ∧ t.sites = s.sites ∧ t.lanes = s.lanes := by
  have hlist' : (s.saving tag).saveList = it :: rest := State.saving_saveList.trans hlist
  have hsome : (s.saving tag).saveList ≠ [] := by rw [hlist']; exact List.cons_ne_nil _ _
  have hframe {β : Type} (g : State → β) (hstore : ∀ (f : Store → Store) (t : State), (f t.store).config = t.store.config →
      g (t.modStore f) = g t) (hwear : ∀ (l : LaneId) (t : State), g (t.modWear l fun x => { x with unsaved := 0 }) = g t) :=
    State.takeSave_frame g hsome hstore hwear .fullReset tag
  refine ⟨_, exec_resetFull_saves hr h rfl ?_, ?_, hframe State.resetReq (fun _ _ _ => rfl) (fun _ _ => rfl),
    hframe State.link (fun _ _ _ => rfl) (fun _ _ => rfl),
    (hframe State.sites (fun _ _ _ => rfl) (fun _ _ => rfl)).trans s.arrive_sites,
    (hframe State.lanes (fun _ _ _ => rfl) (fun _ _ => rfl)).trans s.arrive_lanes⟩
  · rw [hframe State.noBacklog (fun _ _ _ => rfl) (fun _ _ => rfl)]
    exact State.noBacklog_emptied hr
  · have hitem : (s.saving tag).itemContent it = s.itemContent it := State.arrive_itemContent (s := s) it
    rw [State.takeSave_idle .fullReset tag hlist' (by rw [State.saving_store]; exact hf)
      (by rw [State.saving_store]; exact hp) (by rw [State.saving_store]; exact ha) rfl, State.saving_store, hitem]

/-! ### The release timer of a last route (R67) -/

/-- The freed lane and claim of a route that nobody waits for. -/
def State.unclaimed (l : LaneId) (r : Route) (s : State) : State :=
  (s.modLane l Lane.freed).modPort r.port fun x => { x with claim := none }

theorem State.unclaimed_route (r : Route) (hk : k ≠ l) : (s.unclaimed l r).lanes[k].route = s.lanes[k].route :=
  congrArg Lane.route ((upd_get s.lanes l k Lane.freed).trans (if_neg hk.symm))

theorem State.unclaimed_freed (r : Route) : (s.unclaimed l r).lanes[l].route = none :=
  congrArg Lane.route ((upd_get s.lanes l l Lane.freed).trans (if_pos rfl))

/-- The release timer of a lane whose OPENING route has no relay left closed has run out, and nobody waits for the lane or
the claim. -/
structure State.Unclaims (s : State) (l : LaneId) (r : Route) (t : Timer) : Prop where
  awake : s.awake
  route : s.lanes[l].route = some r
  opening : r.state = .opening
  closed : s.lanes[l].closed = []
  inUse : s.lanes[l].state = .inUse
  laneWaiters : s.laneWaiters = []
  waiters : s.ports[r.port].waiters = []
  wait : s.lanes[l].wait = some ⟨.release, t⟩
  due : t.expiry ≤ s.time.now

theorem State.Unclaims.removes (h : s.Unclaims l r t) :
    exec (.releaseWaitExpiry l) s = ((s.unclaimed l r).afterRemoval r.site).finish ∧
      s.RouteGone r.site l (s.unclaimed l r) := by
  obtain ⟨hgiven, hgone⟩ := State.removal_frees h.awake.2 r.site h.inUse h.laneWaiters h.waiters (u := s.unclaimed l r) rfl
  exact ⟨exec_removes h.awake h.route h.wait h.due h.closed (.inl h.opening) hgiven, hgone⟩

/-- The last route of the last site that a RUN reset waits for (R28, R88, R183). -/
theorem State.Unclaims.exec_runReset (h : s.Unclaims l r t) (hq : s.resetReq = some q) (hf : q.full = false)
    (hp : q.phase = .teardown) (hw : q.waiting = [r.site]) (hl : s.routeLanes r.site = [l])
    (hst : s.sites[r.site].state = .aborting) (ht : s.sites[r.site].teardown = some .runReset)
    (hab : s.sites[r.site].abort = none) (hc : s.sites[r.site].clear = none) (hrun : s.sites[r.site].running = none) :
    exec (.releaseWaitExpiry l) s = .next ((((s.unclaimed l r).modSite r.site Site.reset).withReset none).reply 0x15 q.tag
      0xFF .ok (0 :: (allSites.map fun j => byte (if j = r.site then SiteState.idle else q.ends[j]).code) ++
        [0])).transmit := by
  obtain ⟨hexec, hgone⟩ := h.removes
  have hfull : s.fullReset = false := by unfold State.fullReset; rw [hq]; exact hf
  have hlast := hgone.routeLanes_nil hl
  have hidled : (s.unclaimed l r).modSite r.site Site.idled = (s.unclaimed l r).modSite r.site Site.reset := by
    refine State.modSite_congr ?_
    unfold Site.idled Site.reset
    rw [hgone.site, hab, hc]
  rw [hexec, hgone.reset_ends hrun hfull hc hst (State.allStuck_none hlast) ht hab,
    State.teardownOver_last (State.holdsRoute_eq_false hlast), hidled, State.tornDown_last (by exact hq) hp hw]
  simp only [State.modSite_get]
  rfl

/-- The part once the last STUCK route of a SAFE site has left the table in phase 2 (R73). -/
def State.unstuckIdle (l : LaneId) (r : Route) (s : State) : State :=
  (s.unclaimed l r).modSite r.site fun x => { x with state := .idle, stopCause := none }

section phase2

variable (h : s.Unclaims l r t) (hq : s.resetReq = some q) (hf : q.full = true) (hp : q.phase = .stuck)
  (hst : s.sites[r.site].state = .safe) (hl : s.routeLanes r.site = [l]) (hc : s.sites[r.site].clear = none)
  (hrun : s.sites[r.site].running = none)
include h hq hf hp hst hl hc hrun

theorem State.Unclaims.exec_unstuck :
    exec (.releaseWaitExpiry l) s = (s.unstuckIdle l r).stuckPhaseEnd.finish ∧ (s.unstuckIdle l r).noBacklog := by
  obtain ⟨hexec, hgone⟩ := h.removes
  rw [hexec, State.afterRemoval_opened (by rw [hgone.site]; exact hrun) (hgone.reset.trans hq) hf hp
    (by rw [hgone.site]; exact hst) (by rw [hgone.site]; exact hc) (hgone.routeLanes_nil hl)]
  exact ⟨rfl, hgone.backlog⟩

/-- Phase 2 goes on while another route is left. -/
theorem State.Unclaims.exec_unstuck_left (hk : k ≠ l) (hx : s.lanes[k].route = some x) :
    exec (.releaseWaitExpiry l) s = .next (s.unstuckIdle l r).transmit := by
  obtain ⟨hexec, hbacklog⟩ := h.exec_unstuck hq hf hp hst hl hc hrun
  have hroute : (s.unstuckIdle l r).lanes[k].route = some x := (State.unclaimed_route r hk).trans hx
  rw [hexec, State.stuckPhaseEnd_waits hroute]
  exact State.finish_noBacklog _ hbacklog

/-- With the last route of the table, and nothing to save, the FULL reset comes to its REPLY (R184). -/
theorem State.Unclaims.exec_unstuck_last (hnone : ∀ k : LaneId, k ≠ l → s.lanes[k].route = none)
    (hd : ∀ it : ItemId, s.store.differs[it] = false) : exec (.releaseWaitExpiry l) s =
      .next (((s.unstuckIdle l r).withReset (some { q with phase := .reply })).replyWith ⟨0x15, q.tag, 0xFF, .ok,
        1 :: (allSites.map fun j => byte (if j = r.site then SiteState.idle else s.sites[j].state).code) ++ [0],
        true⟩).transmit := by
  obtain ⟨hexec, hbacklog⟩ := h.exec_unstuck hq hf hp hst hl hc hrun
  have hroutes (k : LaneId) : (s.unstuckIdle l r).lanes[k].route = none := by
    by_cases hk : k = l
    · subst hk
      exact State.unclaimed_freed r
    · exact (State.unclaimed_route r hk).trans (hnone k hk)
  have hstates : (allSites.map fun j => byte (s.unstuckIdle l r).sites[j].state.code) =
      allSites.map fun j => byte (if j = r.site then SiteState.idle else s.sites[j].state).code := by
    refine List.map_congr_left fun j _ => congrArg (fun st : SiteState => byte st.code) ?_
    unfold State.unstuckIdle
    by_cases hj : j = r.site
    · subst hj
      rw [if_pos rfl, State.modSite_get]
    · rw [if_neg hj]
      exact congrArg Site.state (State.modSite_others (s := s.unclaimed l r) (Ne.symm hj))
  have hreplies := (State.stuckPhaseEnd_saves (s := s.unstuckIdle l r) hq hf hp hroutes).trans
    (State.takeSave_replies (s := (s.unstuckIdle l r).withReset (some { q with phase := .save }))
      (q := { q with phase := .save }) rfl hd)
  rw [hexec, hreplies, ← hstates]
  exact State.finish_noBacklog _ hbacklog

end phase2

/-- A site that enters SAFE at the event that ends phase 1 stays SAFE, and its block is closed (R88, R145). -/
theorem State.Unclaims.exec_lastSafe (h : s.Unclaims l r t) (hq : s.resetReq = some q) (hf : q.full = true)
    (hp : q.phase = .teardown) (hw : q.waiting = [r.site]) (hst : s.sites[r.site].state = .safing)
    (ht : s.sites[r.site].teardown = some (.fault f)) (hl : s.routeLanes r.site = [l])
    (hc : s.sites[r.site].clear = none) (hrun : s.sites[r.site].running = none) (hk : k ≠ l)
    (hx : s.lanes[k].route = some x) (hstuck : x.state = .stuck) (hxc : s.sites[x.site].clear = none)
    (ho : ∀ m : LaneId, m ≠ k → m ≠ l → s.lanes[m].route = none) (hout : s.results.outbound.length < 16) :
    exec (.releaseWaitExpiry l) s =
      .next (((s.unclaimed l r).lastSafe r.site f q k x).closeBlock r.site .ended).transmit := by
  obtain ⟨hexec, hgone⟩ := h.removes
  have hother (m : LaneId) (hm : m ≠ k) : (s.unclaimed l r).lanes[m].route = none := by
    by_cases hml : m = l
    · subst hml
      exact State.unclaimed_freed r
    · exact (State.unclaimed_route r hml).trans (ho m hm hml)
  rw [hexec, State.afterRemoval_lastSafe (by rw [hgone.site]; exact hrun) (hgone.reset.trans hq) hf hp hw
    (by rw [hgone.site]; exact hst) (by rw [hgone.site]; exact ht) (by rw [hgone.site]; exact hc) (hgone.routeLanes_nil hl)
    hgone.backlog.1 ((State.unclaimed_route r hk).trans hx) hstuck hxc hother]
  refine State.finish_closure .ended (hgone.backlog.lastSafe r.site f q k x) ?_ ?_
  · unfold State.lastSafe
    simp only [State.notice_sites, State.modSite_get]
    exact hrun
  · unfold State.lastSafe
    rw [State.notice_results]
    exact hout

/-! ### The statement -/

/-- A READY route that a RESET opens (R86). -/
theorem State.opensRoute_pins (hpins : u.lanes[l].pinRelays ≠ []) : u.modLane l (Lane.opensRoute r) = u.modLane l fun x =>
    { x with route := some { r with state := .opening }, closed := dropRelays x.pinRelays x.closed,
             load := some { kind := .opening, closes := [], opens := x.pinRelays }, quiet := none } := by
  have hopens : u.lanes[l].opens = u.lanes[l].pinRelays := if_neg hpins
  refine State.modLane_congr ?_
  unfold Lane.opensRoute Lane.opensNext
  rw [hopens]

/-- Settles O32: the sites one by one, then what phase 1 or phase 2 leads to. -/
theorem resetAtRest : Obligations.ResetAtRest := by
  intro tag s hr cleared
  refine ⟨fun h => exec_resetRun_rest hr h, fun h hd => ⟨_, rfl, rfl, exec_resetFull_replies hr h hd⟩,
    fun hq hsites hroutes hclaims => ?_, fun full i l r hb hq hsites ho hl hi hst hlive hpins hports hclaims => ?_,
    fun q l r t hb hq hf hp hw hl hroute hst hcl huse hlw hpw hwait hx hss ht hab hc hqueue hrun => ?_,
    fun hq => ⟨exec_reset_busy false hr hq, exec_reset_busy true hr hq⟩,
    fun h hlist => ⟨exec_resetFull_busy hr h hlist, fun it rest => exec_resetFull_idle hr h⟩,
    fun i l r f hq hsites ho hl hi hst hclaims => ?_,
    fun q l r t hb hq hf hroute hst hcl huse hlw hpw hwait hx hc hab hrun => ?_⟩
  · exact ⟨s.resetSites.withReset none, exec_resetRun_alone hr hq ⟨hsites, hroutes, hclaims⟩,
      fun i => (State.withSites_get _ i).trans (if_pos (mem_allSites i)), rfl, rfl, rfl, s.arrive_lanes, s.arrive_ports,
      s.arrive_meter, s.arrive_health, s.arrive_store, rfl⟩
  · have hsite : cleared.sites[i] = s.sites[i] := by
      show s.arrive.sites[i] = s.sites[i]
      simp only [State.arrive_sites]
    have hbegun : ((cleared.withReset (some ⟨tag, full, .teardown, [i], Vector.replicate 4 .idle⟩)).modSite i
        Site.resetBegun) = (cleared.withReset (some ⟨tag, full, .teardown, [i], Vector.replicate 4 .idle⟩)).modSite i fun x =>
        { x with state := .aborting, teardown := some .runReset } := by
      refine State.modSite_congr ?_
      show cleared.sites[i].resetBegun = { cleared.sites[i] with state := .aborting, teardown := some .runReset }
      rw [hsite, hsites i]
      rfl
    have hrelays : s.arrive.lanes[l].pinRelays ≠ [] := by simp only [State.arrive_lanes]; exact hpins
    refine (exec_reset_ready full hr hq ⟨ho, hl, hi, hclaims⟩ hst hsites hlive hports).trans ?_
    refine congrArg (fun v : State => Host.Outcome.next (v.marked 0x15 0xFF)) ?_
    exact (congrArg (fun v : State => v.modLane l (Lane.opensRoute r)) hbegun).trans (State.opensRoute_pins hrelays)
  · exact State.Unclaims.exec_runReset ⟨hb, hroute, hst, hcl, huse, hlw, hpw, hwait, hx⟩ hq hf hp hw hl hss ht hab hc hrun
  · intro opens opened
    have hlane : opened.lanes[l] = s.lanes[l] := by
      show s.arrive.lanes[l] = s.lanes[l]
      simp only [State.arrive_lanes]
    refine (exec_resetFull_safe hr hq ⟨ho, hl, hi, hclaims⟩ hst hsites).trans
      (congrArg (fun v : State => Host.Outcome.next (v.marked 0x15 0xFF)) (State.modLane_congr (s := opened) ?_))
    rw [hlane]
    rfl
  · have h : s.Unclaims l r t := ⟨hb, hroute, hst, hcl, huse, hlw, hpw, hwait, hx⟩
    refine ⟨fun hp hss hlanes => ⟨fun k u => h.exec_unstuck_left hq hf hp hss hlanes hc hrun,
      h.exec_unstuck_last hq hf hp hss hlanes hc hrun⟩,
      fun f k u hp hw hss ht hlanes hk hu hstuck huc hlive ho hout => ?_⟩
    have hquiet : Lane.unstuck ((s.unclaimed l r).isLive k) u = Lane.unsticks :=
      congrArg (Lane.unstuck · u) (hlive : (s.unclaimed l r).isLive k = true)
    have hsafe := h.exec_lastSafe hq hf hp hw hss ht hlanes hc hrun hk hu hstuck huc ho hout
    unfold State.lastSafe at hsafe
    rw [hquiet] at hsafe
    exact hsafe

end Sys2Proof.Machine
end
